-- ==== Sys2Proof/Word.lean ====
section
/-! DEFINITION. The words of the TG-412: characters, the Tide Clock, the CRC register and the 16-bit
counts (R129, R130, R134, R166, R185). Everything the manual adds, compares or clamps as a whole number
is a `Nat` or an `Int` instead. -/

namespace Sys2Proof

/-- One character of a serial line, and one byte of a frame (R128, R129). -/
abbrev Byte := BitVec 8

/-- A value of the Tide Clock: a count of milliseconds that wraps (R134). -/
abbrev ClockWord := BitVec 32

/-- The CRC register (R130). -/
abbrev CrcWord := BitVec 16

/-- A port counter (R185) or a generation (R166), 0 to 65535. -/
abbrev CountWord := BitVec 16

end Sys2Proof
end

