-- ==== Sys2Proof/Syntax.lean ====
section
/-! DEFINITION. The commands of the TG-412: one constructor of `Instr` for each row of
spec/opcode_table.json. A command that takes a frame from a receive buffer has no operands of its own: its
operands are the fields of the oldest frame waiting there (R133, R151, R155; DESIGN CHOICE, log 3). -/

namespace Sys2Proof

/-- The two serial ports (R128). -/
inductive Port where
  | sp  -- the station port
  | fp  -- the field port
  deriving DecidableEq, Repr

/-- The two hoists of a gate, looking downstream (00_scope.md 6.2). -/
inductive Side where
  | left
  | right
  deriving DecidableEq, Repr

/-- A gate number, 0 to 11 (00_scope.md 6.2). -/
abbrev GateId := Fin 12

/-- A gauge number, 0 to 3 (R19). -/
abbrev GaugeId := Fin 4

/-- The commands, row by row of the opcode table. -/
inductive Instr where
  /-- COLD_RESET (R82, R147): power-on or RESET_N, with the levels of the ADDR straps, of the RATE strap
  (high or not) and of the STOP_N pin (low or not) as the reset ends. -/
  | coldReset (addrStrap : BitVec 6) (rateHigh : Bool) (stopLow : Bool)
  /-- STOP_N_ASSERTION (R98): the STOP_N pin has read low for 20 ms. -/
  | stopNAssertion
  /-- STOP_N_RELEASE (R100): the STOP_N pin has read high for 20 ms. -/
  | stopNRelease
  /-- FRAME_CHECK (R132): characters arrive at a port, the last of them a candidate's last CRC character. -/
  | frameCheck (port : Port) (chars : List Byte)
  /-- RECEIVE_GAP_ABANDON (R132): a gap longer than 20 character times inside a port's candidate. -/
  | receiveGapAbandon (port : Port)
  /-- STATION_FRAME_SORT (R151): the oldest SP frame, not a well-formed request, is sorted. -/
  | stationFrameSort
  /-- FIELD_FRAME_SORT (R155): the oldest FP frame, not an owned report, is sorted. -/
  | fieldFrameSort
  /-- POSITION (R109): the oldest FP frame is a POSITION report of a bound hoist. -/
  | position
  /-- ACK (R111): the oldest FP frame is an ACK of a bound hoist. -/
  | ack
  /-- LEVEL (R22): the oldest FP frame is a LEVEL report of a bound gauge. -/
  | level
  /-- MOVE (R57): the oldest SP frame is a MOVE request. -/
  | move
  /-- STOP (R61): the oldest SP frame is a STOP request. -/
  | stop
  /-- GROUP_SET (R95): the oldest SP frame is a GROUP request with action SET. -/
  | groupSet
  /-- GROUP_STOP (R96): the oldest SP frame is a GROUP request with action STOP. -/
  | groupStop
  /-- CLEAR_HOLD (R77): the oldest SP frame is a CLEAR HOLD request. -/
  | clearHold
  /-- TABLE_READ (R164): the oldest SP frame is a TABLE READ request. -/
  | tableRead
  /-- TABLE_WRITE_GATE (R167): the oldest SP frame is a TABLE WRITE of a gate record. -/
  | tableWriteGate
  /-- TABLE_WRITE_CURVE_FIRST_PART (R168): the oldest SP frame is a TABLE WRITE of a curve's first part. -/
  | tableWriteCurveFirstPart
  /-- TABLE_WRITE_CURVE_SECOND_PART (R169): the oldest SP frame is a TABLE WRITE of a curve's second part. -/
  | tableWriteCurveSecondPart
  /-- TABLE_WRITE_GAUGE (R21): the oldest SP frame is a TABLE WRITE of a gauge record. -/
  | tableWriteGauge
  /-- TABLE_WRITE_ROUTE (R149): the oldest SP frame is a TABLE WRITE of a route entry. -/
  | tableWriteRoute
  /-- TABLE_WRITE_SETTINGS (R163): the oldest SP frame is a TABLE WRITE of the settings record. -/
  | tableWriteSettings
  /-- STATUS_READ (R170): the oldest SP frame is a STATUS READ request. -/
  | statusRead
  /-- COUNTER_SNAPSHOT (R171): the oldest SP frame is a COUNTER SNAPSHOT request. -/
  | counterSnapshot
  /-- MISROUTE_READ (R172): the oldest SP frame is a MISROUTE READ request. -/
  | misrouteRead
  /-- TIME_SET (R173): the oldest SP frame is a TIME SET request. -/
  | timeSet
  /-- RESTART (R174): the oldest SP frame is a RESTART request. -/
  | restart
  /-- SP_TRANSMIT (R141): the SP transmitter is free and takes its next frame. -/
  | spTransmit
  /-- FP_TRANSMIT (R107): the FP transmitter is free and takes its next frame. -/
  | fpTransmit
  /-- HOIST_STALE (R116): the age of a hoist's sample first exceeds the gate's freshness window. -/
  | hoistStale (gate : GateId) (side : Side)
  /-- GAUGE_STALE (R24): the age of a gauge's reading first exceeds its sample_window. -/
  | gaugeStale (gauge : GaugeId)
  /-- ACK_WINDOW_EXPIRY (R114): the ack window of a gate in STARTING reaches 0. -/
  | ackWindowExpiry (gate : GateId)
  /-- DEADLINE_EXPIRY (R122): the deadline of a gate in STARTING or TRAVELLING reaches 0. -/
  | deadlineExpiry (gate : GateId)
  /-- HALT_WINDOW_EXPIRY (R123): the halt window of a gate in STOPPING reaches 0. -/
  | haltWindowExpiry (gate : GateId)
  /-- SILENCE_EXPIRY (R103): the running silence timer reaches 0. -/
  | silenceExpiry
  /-- CANDIDATE_SYNC (R132): a 0xA5 character arrives at a port. -/
  | candidateSync (port : Port)
  /-- LENGTH_OVER_48 (R132): a candidate's length character arrives with a value above 48. -/
  | lengthOver48 (port : Port) (length : Byte)
  /-- GROUP_INVALID_ACTION (R94): the oldest SP frame is a GROUP request whose action is neither STOP nor SET. -/
  | groupInvalidAction
  deriving DecidableEq, Repr

end Sys2Proof
end

