-- ==== Sys2Proof/Decode.lean ====
section
/-! DEFINITION. The commands that words spell. No row of spec/opcode_table.json gives any bits (98_reader.md: of its 38
rows none has fixed bits or fields), so no word spells a command (log 25). The encodings of frames and records that the
spec does give are in Machine/Codec.lean, Machine/Records.lean and Machine/Receiver.lean. -/

namespace Sys2Proof

/-- The command that a word of the opcode table spells: none, for the table has no bits (log 25). -/
def decodeTableWord (_nbits _w : Nat) : Option Instr := none

end Sys2Proof
end

