-- ==== Sys2Proof/Config.lean ====
section
/-! DEFINITION. What the part fixes: the capacities of its buffers and queues, the codes of the frame kinds,
and the one value the spec leaves open. -/

namespace Sys2Proof.Config

/-- The receive buffer of SP holds 4 frames (R133). -/
abbrev spBufferFrames : Nat := 4
/-- The receive buffer of FP holds 8 frames (R133). -/
abbrev fpBufferFrames : Nat := 8
/-- The reply queue holds 4 frames (R141). -/
abbrev replyFrames : Nat := 4
/-- The Notice Queue holds 16 notices (R179). -/
abbrev noticePlaces : Nat := 16
/-- The up queue holds 16 frames (R143). -/
abbrev upFrames : Nat := 16
/-- The down queue holds 8 frames (R142). -/
abbrev downFrames : Nat := 8
/-- Ages stop counting at 100000 ms (R17, R24). -/
abbrev ageStop : Nat := 100000
/-- The STOP_N pin must read one level for 20 consecutive milliseconds (R97). -/
abbrev stopFilterTime : Nat := 20
/-- The greatest value of the grant counter (R90). -/
abbrev grantCounterMax : Nat := 4294967295
/-- The number of grant evaluations that can follow one another inside one command: the first, and one for
each of the two ways in which each of the twelve gates can cause a further one (DEDUCED, log 16). -/
abbrev evaluationRounds : Nat := 25

/-- The sync character (R129). -/
abbrev sync : Byte := 0xA5#8

/-! Kind codes of the requests (R136). -/
abbrev kindMove : Byte := 0x10#8
abbrev kindStop : Byte := 0x11#8
abbrev kindGroup : Byte := 0x12#8
abbrev kindClearHold : Byte := 0x13#8
abbrev kindTableRead : Byte := 0x20#8
abbrev kindTableWrite : Byte := 0x21#8
abbrev kindStatusRead : Byte := 0x22#8
abbrev kindCounterSnapshot : Byte := 0x23#8
abbrev kindMisrouteRead : Byte := 0x24#8
abbrev kindTimeSet : Byte := 0x25#8
abbrev kindRestart : Byte := 0x26#8

/-! Kind codes of what the part sends to the station (R137). -/
abbrev kindReply : Byte := 0x30#8
abbrev kindNotice : Byte := 0x31#8

/-! Kind codes of the field run (R138). -/
abbrev kindRun : Byte := 0x40#8
abbrev kindPause : Byte := 0x41#8
abbrev kindResume : Byte := 0x42#8
abbrev kindHalt : Byte := 0x43#8
abbrev kindNodeReset : Byte := 0x44#8
abbrev kindPosition : Byte := 0x50#8
abbrev kindAck : Byte := 0x51#8
abbrev kindLevel : Byte := 0x58#8

/-- The generation that the reply to a TABLE WRITE carries when the write names no record. The spec says
that every reply to a TABLE WRITE carries a generation (R165) and gives none for a record that does not
exist, so it is a free value: the n-th one used is `freeGeneration n` (DESIGN CHOICE, log 9; safe). -/
opaque freeGeneration : Nat → CountWord

end Sys2Proof.Config
end

