-- ==== Sys2Proof/Machine/State.lean ====
section
/-! DEFINITION. The state of the TG-412, as plain data: every register, table, queue, timer and pin the
manual gives it, and `State.reset`. -/

namespace Sys2Proof.Machine

/-- A link address, 0 to 63 (00_scope.md 6.3). -/
abbrev LinkAddr := Fin 64

/-! ### Frames -/

/-- A good frame: sync and length are implied, and the CRC is the one of R130, because only a frame that
passed its check is held (R129, R132; log 23). The address bytes are kept whole, upper bits too (R129). -/
structure Frame where
  dst     : Byte
  src     : Byte
  kind    : Byte
  payload : List Byte
  deriving DecidableEq, Repr

/-- A frame in a receive buffer, with the Tide Clock value noted at its sync (R132, R133). -/
structure RxFrame where
  frame : Frame
  stamp : ClockWord
  deriving DecidableEq, Repr

/-- A character the receiver holds, with the Tide Clock value at its arrival (R132). -/
structure RxChar where
  data  : Byte
  stamp : ClockWord
  deriving DecidableEq, Repr

/-- The bit rate of both ports (R128). -/
inductive Rate where
  | r115200
  | r460800
  deriving DecidableEq, Repr

/-! ### Gates -/

/-- The start evidence a gate accepts (R8, R112, R113). -/
inductive Handshake where
  | interlocked
  | pulsed
  deriving DecidableEq, Repr

/-- The static gate record, its 22 fields in index order (R2). -/
structure GateRecord where
  inService       : Bool
  leftHoist       : Option LinkAddr
  rightHoist      : Option LinkAddr
  leftOffset      : Int
  rightOffset     : Int
  fullTravel      : Nat
  curve           : Fin 4
  spread          : Nat
  linkLeft        : Bool
  linkRight       : Bool
  normalSpeed     : Nat
  creepSpeed      : Nat
  creepHead       : Nat
  startAllowance  : Nat
  arriveTol       : Nat
  trim            : Nat
  trip            : Nat
  sampleWindow    : Nat
  handshake       : Handshake
  ackWindow       : Nat
  trackCeiling    : Bool
  defaultPriority : Nat
  deriving DecidableEq, Repr

/-- What a hoist reports of itself (R17, R135). -/
inductive HoistState where
  | atRest
  | moving
  | paused
  | fault
  deriving DecidableEq, Repr

/-- A hoist sample (R17). -/
structure Sample where
  raw       : Nat
  corrected : Nat
  state     : HoistState
  faultCode : Option Nat
  stamp     : ClockWord
  age       : Nat
  deriving DecidableEq, Repr

/-- The origin of a request (R16). -/
inductive Origin where
  | station
  | group
  | envelope
  deriving DecidableEq, Repr

/-- Why a request last could not move (R16, R50). -/
inductive WaitReason where
  | none
  | masked
  | spread
  | ceiling
  | noHead
  deriving DecidableEq, Repr

/-- A request (R16). -/
structure Request where
  target        : Nat
  level         : Nat
  origin        : Origin
  clampReported : Bool
  waitReason    : WaitReason
  deriving DecidableEq, Repr

/-- A target and a level: the content of a deferred target (R62) or of a carried target (R69). -/
structure Target where
  target : Nat
  level  : Nat
  deriving DecidableEq, Repr

/-- The direction of a leg (R49). -/
inductive Direction where
  | raise
  | lower
  deriving DecidableEq, Repr

/-- The acks received set: which sides it holds (R16, R112, R121). -/
structure SideSet where
  left  : Bool
  right : Bool
  deriving DecidableEq, Repr

/-- A leg (R16). -/
structure Leg where
  target    : Nat
  direction : Direction
  speed     : Nat
  deadline  : Nat
  acks      : SideSet
  paused    : Option Side
  stamp     : Nat
  deriving DecidableEq, Repr

/-- What a stopping gate does at rest, with the request or carried target that the next step keeps
(R16, R69). -/
inductive NextStep where
  | idle
  | restartLeg (request : Request)
  | requeue (request : Request)
  | outOfService (carried : Option Target)
  deriving DecidableEq, Repr

/-- The reasons of a hold (R16). -/
inductive HoldReason where
  | skew
  | stale
  | noAck
  | noStart
  | timeout
  | shortfall
  | hoistFault
  | noStop
  deriving DecidableEq, Repr

/-- A hold: its primary reason, and the further reasons, oldest first (R16, R75). -/
structure Hold where
  primary : HoldReason
  further : List HoldReason
  deriving DecidableEq, Repr

/-- A gate's motion state, each with exactly the optional parts that R16 makes present in it. The ack window
of STARTING (R114) and the halt window of STOPPING (R123) hold the time that remains. -/
inductive Motion where
  | outOfService (deferred : Option Target)
  | idle
  | pending (request : Request)
  | starting (request : Request) (leg : Leg) (ackWindow : Nat)
  | travelling (request : Request) (leg : Leg)
  | stopping (next : NextStep) (leg : Leg) (haltWindow : Nat)
  | hold (hold : Hold) (deferred : Option Target)
  deriving DecidableEq, Repr

/-- A gate: its record with its generation (R1), and its state record (R16). Opening and skew are functions
of the two samples (R14; log 24). -/
structure Gate where
  record            : GateRecord
  generation        : CountWord
  motion            : Motion
  left              : Option Sample
  right             : Option Sample
  ceiling           : Option Nat
  excursionReported : Bool
  deriving DecidableEq, Repr

/-! ### Curves, gauges and the head -/

/-- A breakpoint of an envelope curve (R35). -/
structure Breakpoint where
  head    : Int
  ceiling : Nat
  deriving DecidableEq, Repr

/-- An envelope curve (R35). -/
structure Curve where
  points     : List Breakpoint
  generation : CountWord
  deriving DecidableEq, Repr

/-- A side of the barrage, as a gauge's side field names it (R19). -/
inductive Bank where
  | upstream
  | downstream
  deriving DecidableEq, Repr

/-- The gauge record (R19). -/
structure GaugeRecord where
  enabled      : Bool
  bank         : Bank
  address      : Option LinkAddr
  datumOffset  : Int
  lowPlaus     : Int
  highPlaus    : Int
  sampleWindow : Nat
  deriving DecidableEq, Repr

/-- A gauge: record, generation, good value and age (R22, R24). Without a good value the age is 0 and does not
count (R33; log 18). -/
structure Gauge where
  record     : GaugeRecord
  generation : CountWord
  value      : Option Int
  age        : Nat
  deriving DecidableEq, Repr

/-- A good value together with its age, as the choice of the freshest gauges takes it (R25). -/
structure Reading where
  value : Int
  age   : Nat
  deriving DecidableEq, Repr

/-- A side value (R26). -/
structure Levels where
  hi : Int
  lo : Int
  deriving DecidableEq, Repr

/-- What the Level Unit holds for one side of the barrage: the side value and the disagreement flag
(R26, R27). -/
structure BankState where
  value    : Option Levels
  disagree : Bool
  deriving DecidableEq, Repr

/-- The head pair (R28). -/
structure Head where
  fwd : Int
  rev : Int
  deriving DecidableEq, Repr

/-- The ceiling mode (R29). -/
inductive Mode where
  | curve
  | reverse
  | noHead
  deriving DecidableEq, Repr

/-! ### Route table -/

/-- The role of a link address (R146). -/
inductive Role where
  | unused
  | station
  | self
  | hoist
  | gauge
  | other
  deriving DecidableEq, Repr

/-- Which record an address serves (R146). -/
inductive Binding where
  | hoist (gate : GateId) (side : Side)
  | gauge (gauge : GaugeId)
  deriving DecidableEq, Repr

/-- Whether station frames to an OTHER address are sent on (R146). -/
inductive PassDown where
  | forward
  | drop
  deriving DecidableEq, Repr

/-- Whether field frames to the station are sent on (R146). -/
inductive PassUp where
  | forward
  | consume
  deriving DecidableEq, Repr

/-- A route entry (R146). -/
structure RouteEntry where
  role       : Role
  binding    : Option Binding
  passDown   : PassDown
  passUp     : PassUp
  generation : CountWord
  deriving DecidableEq, Repr

/-- The content of a full Misroute Capture record (R159). -/
structure Capture where
  port  : Port
  src   : LinkAddr
  dst   : LinkAddr
  kind  : Byte
  stamp : ClockWord
  deriving DecidableEq, Repr

/-! ### Settings, staging and counters -/

/-- How a port counter counts at 65535 (R186). -/
inductive CounterMode where
  | saturate
  | wrap
  deriving DecidableEq, Repr

/-- The settings record (R163). -/
structure Settings where
  slots         : Nat
  priorityMask  : Nat
  silenceWindow : Nat
  reverseLimit  : Nat
  reverseHyst   : Nat
  gaugeAgree    : Nat
  counterMode   : CounterMode
  deriving DecidableEq, Repr

/-- The content of a full curve staging record (R168). -/
structure Staging where
  curve       : Fin 4
  count       : Nat
  points      : List Breakpoint
  conditional : Bool
  expected    : CountWord
  deriving DecidableEq, Repr

/-- The seven counters of one port (R185). -/
structure Counters where
  good       : CountWord
  crcErrors  : CountWord
  overruns   : CountWord
  forwarded  : CountWord
  routeDrops : CountWord
  queueDrops : CountWord
  misroutes  : CountWord
  deriving DecidableEq, Repr

/-- The seven counters of a port, by name (R185). -/
inductive CounterName where
  | good
  | crcErrors
  | overruns
  | forwarded
  | routeDrops
  | queueDrops
  | misroutes
  deriving DecidableEq, Repr

/-! ### Replies, notices and orders -/

/-- The result codes (R176). -/
inductive Result where
  | accepted
  | clamped
  | deferred
  | outranked
  | stopInput
  | invalid
  | generation
  | running
  | inUse
  | busy
  | stillPresent
  | unknownKind
  | badLength
  | refusedDirect
  deriving DecidableEq, Repr

/-- A REPLY waiting in the reply queue (R137, R175): its payload is these four parts. -/
structure Reply where
  kind   : Byte
  result : Result
  detail : Byte
  data   : List Byte
  deriving DecidableEq, Repr

/-- The limit a CLAMPED notice names (R182). -/
inductive ClampLimit where
  | travel
  | ceiling
  deriving DecidableEq, Repr

/-- What cleared a hold (R182). -/
inductive ClearedBy where
  | auto
  | request
  deriving DecidableEq, Repr

/-- The notices and the fields of their kinds (R182). -/
inductive Notice where
  | arrived (gate : GateId) (opening : Nat)
  | clamped (gate : GateId) (asked applied : Nat) (limit : ClampLimit)
  | held (gate : GateId) (reason : HoldReason) (opening : Option Nat) (skew : Option Int)
  | holdCleared (gate : GateId) (clearedBy : ClearedBy)
  | preempted (victim beneficiary : GateId)
  | excursion (gate : GateId) (opening ceiling : Nat)
  | reverseOn (rev : Int)
  | reverseOff (rev : Int)
  | noHeadOn
  | noHeadOff
  | gaugeDisagree (bank : Bank) (first second : Int)
  | misroute (port : Port) (src dst : LinkAddr) (kind : Byte)
  | silenceStop (count : Nat)
  | stopInput (asserted : Bool)
  deriving DecidableEq, Repr

/-- A notice in the Notice Queue, with the Tide Clock value of its posting (R179). -/
structure PostedNotice where
  notice : Notice
  stamp  : ClockWord
  deriving DecidableEq, Repr

/-- The orders of the order queue, with the hoist they go to (R106, R107). -/
inductive Order where
  | run (hoist : LinkAddr) (rawTarget speed : Nat)
  | pause (hoist : LinkAddr)
  | resume (hoist : LinkAddr)
  deriving DecidableEq, Repr

/-- The station silence timer (R101). -/
inductive Silence where
  | off
  | running (remaining : Nat)
  | waiting
  deriving DecidableEq, Repr

/-! ### The state -/

/-- The whole state. `pending`, `freeCount` and `evalDue` are the model's own (INVENTORY.md, State); every
other field is the manual's. -/
structure State where
  /-- The commands that wait, first in, first out (the model's own; log 1). -/
  pending       : List Instr
  /-- How many free values have been used (the model's own; log 9). -/
  freeCount     : Nat
  /-- A grant evaluation is owed inside the present command (the model's own; log 16). -/
  evalDue       : Bool
  /-- SELF (R147). -/
  ownAddress    : LinkAddr
  /-- The bit rate of both ports (R128). -/
  rate          : Rate
  /-- The STOP_N pin reads low (R97). -/
  stopPinLow    : Bool
  /-- For how many milliseconds the pin has read against `stopAsserted` (R97). -/
  stopFilter    : Nat
  /-- The STOP_N state (R97). -/
  stopAsserted  : Bool
  /-- FAULT_N is asserted, that is low (R79). -/
  faultN        : Bool
  /-- The Tide Clock (R134). -/
  tideClock     : ClockWord
  /-- The characters the SP receiver holds, from its candidate's sync on; none while it hunts (R132). -/
  spReceiver    : List RxChar
  /-- The characters the FP receiver holds (R132). -/
  fpReceiver    : List RxChar
  /-- The SP receive buffer, oldest first (R133). -/
  spRx          : List RxFrame
  /-- The FP receive buffer, oldest first (R133). -/
  fpRx          : List RxFrame
  /-- The characters of the frame handed to the SP transmitter; none while the line idles (R140). -/
  spTx          : Option (List Byte)
  /-- The characters of the frame handed to the FP transmitter; none while the line idles (R140). -/
  fpTx          : Option (List Byte)
  /-- The SP counters (R185). -/
  spCounters    : Counters
  /-- The FP counters (R185). -/
  fpCounters    : Counters
  /-- The reply queue, oldest first (R141). -/
  replies       : List Reply
  /-- The Notice Queue, oldest first (R179). -/
  notices       : List PostedNotice
  /-- The overflow flag of the Notice Queue (R180). -/
  overflow      : Bool
  /-- The up queue, oldest first (R143). -/
  upQueue       : List Frame
  /-- The down queue, oldest first (R142). -/
  downQueue     : List Frame
  /-- The halt queue: the hoists to which a HALT waits, oldest first (R107). -/
  haltQueue     : List LinkAddr
  /-- The order queue, oldest first (R107). -/
  orderQueue    : List Order
  /-- The Gate Table (R1, R16). -/
  gates         : Vector Gate 12
  /-- The envelope curves (R35). -/
  curves        : Vector Curve 4
  /-- The gauges (R19). -/
  gauges        : Vector Gauge 4
  /-- The Route Table (R146). -/
  routes        : Vector RouteEntry 64
  /-- The settings record (R163). -/
  settings      : Settings
  /-- The generation of the settings record (R163). -/
  settingsGen   : CountWord
  /-- The curve staging record (R168). -/
  staging       : Option Staging
  /-- The Misroute Capture record (R159). -/
  capture       : Option Capture
  /-- The side value and disagreement flag of UPSTREAM (R26, R27). -/
  upstream      : BankState
  /-- The side value and disagreement flag of DOWNSTREAM (R26, R27). -/
  downstream    : BankState
  /-- The head pair (R28). -/
  head          : Option Head
  /-- The ceiling mode (R29). -/
  mode          : Mode
  /-- The count of slots in use (R85). -/
  slotsInUse    : Nat
  /-- The grant counter (R90). -/
  grantCounter  : Nat
  /-- The pending list of gates, head first (R86). -/
  waiting       : List GateId
  /-- The station silence timer (R101). -/
  silence       : Silence
  deriving DecidableEq, Repr

/-- No rule stops the part: it answers a bad request with a reply, a failing gate with a hold and a bad frame
with a count. So there is no fault. -/
inductive Fault where
  deriving DecidableEq, Repr

/-- Why a command has no meaning. -/
inductive Refusal where
  /-- Raised by an arm of `exec` that no meaning has been written for; safe, since the machine stops there. -/
  | notModelled (mnemonic : String)
  deriving DecidableEq, Repr

/-! ### Cold values -/

/-- The cold gate record (R2). -/
def GateRecord.cold : GateRecord where
  inService := false
  leftHoist := none
  rightHoist := none
  leftOffset := 0
  rightOffset := 0
  fullTravel := 8000
  curve := 0
  spread := 0
  linkLeft := false
  linkRight := false
  normalSpeed := 300
  creepSpeed := 100
  creepHead := 30000
  startAllowance := 10000
  arriveTol := 25
  trim := 40
  trip := 120
  sampleWindow := 500
  handshake := .interlocked
  ackWindow := 1000
  trackCeiling := false
  defaultPriority := 4

/-- A gate at cold reset (R1, R18). -/
def Gate.cold : Gate where
  record := .cold
  generation := 0
  motion := .outOfService none
  left := none
  right := none
  ceiling := none
  excursionReported := false

/-- A curve at cold reset (R35). -/
def Curve.cold : Curve := { points := [], generation := 0 }

/-- The cold gauge record (R19). -/
def GaugeRecord.cold : GaugeRecord where
  enabled := false
  bank := .upstream
  address := none
  datumOffset := 0
  lowPlaus := -10000
  highPlaus := 20000
  sampleWindow := 2000

/-- A gauge at cold reset (R19, R33). -/
def Gauge.cold : Gauge := { record := .cold, generation := 0, value := none, age := 0 }

/-- The role of an address at cold reset (R147). -/
def Role.cold (own a : LinkAddr) : Role :=
  if a = 0 then .station else if a = own then .self else .unused

/-- A route entry at cold reset (R147). -/
def RouteEntry.cold (own a : LinkAddr) : RouteEntry where
  role := Role.cold own a
  binding := none
  passDown := .drop
  passUp := .forward
  generation := 0

/-- The cold settings record (R163). -/
def Settings.cold : Settings where
  slots := 1
  priorityMask := 7
  silenceWindow := 0
  reverseLimit := 300
  reverseHyst := 100
  gaugeAgree := 150
  counterMode := .saturate

/-- The counters of a port at cold reset (R188), and after a clearing snapshot (R171). -/
def Counters.zero : Counters where
  good := 0
  crcErrors := 0
  overruns := 0
  forwarded := 0
  routeDrops := 0
  queueDrops := 0
  misroutes := 0

/-- A side of the barrage at cold reset (R33). -/
def BankState.cold : BankState := { value := none, disagree := false }

/-- The part's own address for a level of the ADDR straps: the strap value, or 63 when it is 0 (R147). -/
def addressOfStrap (strap : BitVec 6) : LinkAddr :=
  if strap = 0 then 63 else strap.toFin

/-- The state after a cold reset that finds these straps and this level of the STOP_N pin
(R18, R33, R42, R82, R97, R104, R126, R144, R147, R177, R184, R188). -/
def State.cold (addrStrap : BitVec 6) (rateHigh stopLow : Bool) : State where
  pending := []
  freeCount := 0
  evalDue := false
  ownAddress := addressOfStrap addrStrap
  rate := if rateHigh then .r460800 else .r115200
  stopPinLow := stopLow
  stopFilter := 0
  stopAsserted := false
  faultN := false
  tideClock := 0
  spReceiver := []
  fpReceiver := []
  spRx := []
  fpRx := []
  spTx := none
  fpTx := none
  spCounters := .zero
  fpCounters := .zero
  replies := []
  notices := []
  overflow := false
  upQueue := []
  downQueue := []
  haltQueue := []
  orderQueue := []
  gates := Vector.replicate 12 .cold
  curves := Vector.replicate 4 .cold
  gauges := Vector.replicate 4 .cold
  routes := Vector.ofFn (RouteEntry.cold (addressOfStrap addrStrap))
  settings := .cold
  settingsGen := 0
  staging := none
  capture := none
  upstream := .cold
  downstream := .cold
  head := none
  mode := .noHead
  slotsInUse := 0
  grantCounter := 0
  waiting := []
  silence := .off

/-- The machine right after cold reset, with the ADDR straps at 0 (so the part's own address is 63), the RATE
strap low and the STOP_N pin high. DESIGN CHOICE (log 4), unsafe: the spec fixes none of the three. -/
def State.reset : State := State.cold 0 false false

end Sys2Proof.Machine
end

