-- ==== Sys2Proof/Machine/Codec.lean ====
section
/-! DEFINITION. Byte order and sign of the fields of frames and records (R129, R135, R162), the CRC (R130), and
the characters of a frame (R129, R131). -/

namespace Sys2Proof.Machine

/-! ### Reading fields -/

/-- The byte at an offset of a payload, as a number. A place beyond the payload reads 0; no accepted length
lets a field reach there (R136, R161). -/
def byteAt (p : List Byte) (i : Nat) : Nat := (p[i]?.getD 0#8).toNat

/-- A two-byte field, most significant byte first (R129). -/
def u16At (p : List Byte) (i : Nat) : Nat := byteAt p i * 256 + byteAt p (i + 1)

/-- Two's complement of a two-byte value (R129). -/
def signed16 (n : Nat) : Int := if n < 32768 then n else (n : Int) - 65536

/-- A signed two-byte field (R135). -/
def s16At (p : List Byte) (i : Nat) : Int := signed16 (u16At p i)

/-- A four-byte field (R135). -/
def u32At (p : List Byte) (i : Nat) : Nat := u16At p i * 65536 + u16At p (i + 2)

/-! ### Writing fields -/

/-- One byte. -/
def byte (n : Nat) : Byte := BitVec.ofNat 8 n

/-- Two bytes, most significant first (R129). -/
def be16 (n : Nat) : List Byte := [byte (n / 256), byte n]

/-- A signed value in two bytes (R129). -/
def beS16 (z : Int) : List Byte := be16 (z % 65536).toNat

/-- Four bytes, most significant first (R129). -/
def be32 (n : Nat) : List Byte := [byte (n / 16777216), byte (n / 65536), byte (n / 256), byte n]

/-- A yes/no field: 0 no, 1 yes (R162). -/
def flagByte (b : Bool) : Byte := if b then 1 else 0

/-- A link address in one byte, upper bits zero (R131). -/
def addrByte (a : LinkAddr) : Byte := byte a.val

/-- An optional link address in one byte, 0 absent (R162). -/
def optAddrByte (a : Option LinkAddr) : Byte :=
  match a with
  | none => 0
  | some a => addrByte a

/-- The link address in an address byte: its low six bits (R129). -/
def addrOf (b : Byte) : LinkAddr := ⟨b.toNat % 64, Nat.mod_lt _ (by decide)⟩

/-! ### The CRC -/

/-- One data bit taken into the CRC register (R130). -/
def crcBit (r : CrcWord) (b : Bool) : CrcWord :=
  if r.msb != b then (r <<< 1) ^^^ 0x1021#16 else r <<< 1

/-- One byte taken into the CRC register, most significant bit first (R130). -/
def crcByte (r : CrcWord) (c : Byte) : CrcWord :=
  [7, 6, 5, 4, 3, 2, 1, 0].foldl (fun r i => crcBit r (c.getLsbD i)) r

/-- The CRC of a run of bytes, from the register 0xFFFF (R130). -/
def crc (cs : List Byte) : CrcWord := cs.foldl crcByte 0xFFFF#16

/-- The CRC as its two characters, most significant first (R129). -/
def crcBytes (w : CrcWord) : List Byte := [(w >>> 8).setWidth 8, w.setWidth 8]

/-! ### Frames -/

/-- The bytes over which the CRC of a frame is taken: length, addresses, kind and payload (R130). -/
def Frame.body (f : Frame) : List Byte :=
  byte f.payload.length :: f.dst :: f.src :: f.kind :: f.payload

/-- The characters of a frame on the line (R129, R131). -/
def Frame.bytes (f : Frame) : List Byte :=
  Config.sync :: (f.body ++ crcBytes (crc f.body))

/-- The destination address of a frame (R129). -/
def Frame.dest (f : Frame) : LinkAddr := addrOf f.dst

/-- The source address of a frame (R129). -/
def Frame.source (f : Frame) : LinkAddr := addrOf f.src

/-- A frame that the part builds: upper address bits zero, source its own address (R131). -/
def ownFrame (own dest : LinkAddr) (kind : Byte) (payload : List Byte) : Frame where
  dst := addrByte dest
  src := addrByte own
  kind := kind
  payload := payload

/-! ### Codes -/

/-- Result codes (R176). -/
def Result.code : Result → Nat
  | .accepted => 0
  | .clamped => 1
  | .deferred => 2
  | .outranked => 3
  | .stopInput => 4
  | .invalid => 5
  | .generation => 6
  | .running => 7
  | .inUse => 8
  | .busy => 9
  | .stillPresent => 10
  | .unknownKind => 11
  | .badLength => 12
  | .refusedDirect => 13

/-- Hold reason codes (R170). -/
def HoldReason.code : HoldReason → Nat
  | .skew => 1
  | .stale => 2
  | .noAck => 3
  | .noStart => 4
  | .timeout => 5
  | .shortfall => 6
  | .hoistFault => 7
  | .noStop => 8

/-- Hoist state codes (R135). -/
def HoistState.code : HoistState → Nat
  | .atRest => 0
  | .moving => 1
  | .paused => 2
  | .fault => 3

/-- Motion state codes (R170). -/
def Motion.code : Motion → Nat
  | .outOfService _ => 0
  | .idle => 1
  | .pending _ => 2
  | .starting _ _ _ => 3
  | .travelling _ _ => 4
  | .stopping _ _ _ => 5
  | .hold _ _ => 6

/-- Origin codes (R170). -/
def Origin.code : Origin → Nat
  | .station => 0
  | .group => 1
  | .envelope => 2

/-- Wait reason codes (R170). -/
def WaitReason.code : WaitReason → Nat
  | .none => 0
  | .masked => 1
  | .spread => 2
  | .ceiling => 3
  | .noHead => 4

/-- Direction codes (R170). -/
def Direction.code : Direction → Nat
  | .raise => 0
  | .lower => 1

/-- Next step codes (R170). -/
def NextStep.code : NextStep → Nat
  | .idle => 0
  | .restartLeg _ => 1
  | .requeue _ => 2
  | .outOfService _ => 3

/-- The acks received set as the sum of 1 for left and 2 for right (R170). -/
def SideSet.code (a : SideSet) : Nat := (if a.left then 1 else 0) + (if a.right then 2 else 0)

/-- Paused hoist codes (R170). -/
def pausedCode : Option Side → Nat
  | none => 0
  | some .left => 1
  | some .right => 2

/-- Side codes (R152, R164). -/
def sideCode : Side → Nat
  | .left => 0
  | .right => 1

/-- Port codes (R172, R182). -/
def portCode : Port → Nat
  | .sp => 0
  | .fp => 1

/-- Codes of the sides of the barrage (R162, R182). -/
def Bank.code : Bank → Nat
  | .upstream => 0
  | .downstream => 1

/-- Role codes (R162). -/
def Role.code : Role → Nat
  | .unused => 0
  | .station => 1
  | .self => 2
  | .hoist => 3
  | .gauge => 4
  | .other => 5

/-- pass_down codes (R162). -/
def PassDown.code : PassDown → Nat
  | .forward => 0
  | .drop => 1

/-- pass_up codes (R162). -/
def PassUp.code : PassUp → Nat
  | .forward => 0
  | .consume => 1

/-- handshake codes (R162). -/
def Handshake.code : Handshake → Nat
  | .interlocked => 0
  | .pulsed => 1

/-- counter_mode codes (R162). -/
def CounterMode.code : CounterMode → Nat
  | .saturate => 0
  | .wrap => 1

/-! ### The frames the part builds -/

/-- The REPLY frame of a waiting reply (R131, R137). -/
def Reply.frame (own : LinkAddr) (r : Reply) : Frame :=
  ownFrame own 0 Config.kindReply (r.kind :: byte r.result.code :: r.detail :: r.data)

/-- A presence byte and the value bytes, zero when absent (R170, R182). -/
def presence (v : Option (List Byte)) (zeros : Nat) : List Byte :=
  match v with
  | none => 0 :: List.replicate zeros 0
  | some bytes => 1 :: bytes

/-- The kind code of a notice (R182). -/
def Notice.code : Notice → Nat
  | .arrived _ _ => 1
  | .clamped _ _ _ _ => 2
  | .held _ _ _ _ => 3
  | .holdCleared _ _ => 4
  | .preempted _ _ => 5
  | .excursion _ _ _ => 6
  | .reverseOn _ => 7
  | .reverseOff _ => 8
  | .noHeadOn => 9
  | .noHeadOff => 10
  | .gaugeDisagree _ _ _ => 11
  | .misroute _ _ _ _ => 12
  | .silenceStop _ => 13
  | .stopInput _ => 14

/-- The fields of a notice in the order of R182. -/
def Notice.fields : Notice → List Byte
  | .arrived g o => byte g.val :: be16 o
  | .clamped g asked applied limit =>
    byte g.val :: (be16 asked ++ be16 applied ++
      [match limit with
       | .travel => 0
       | .ceiling => 1])
  | .held g reason o k =>
    byte g.val :: byte reason.code :: (presence (o.map be16) 2 ++ presence (k.map beS16) 2)
  | .holdCleared g c =>
    [byte g.val,
     match c with
     | .auto => 0
     | .request => 1]
  | .preempted v b => [byte v.val, byte b.val]
  | .excursion g o c => byte g.val :: (be16 o ++ be16 c)
  | .reverseOn h => beS16 h
  | .reverseOff h => beS16 h
  | .noHeadOn => []
  | .noHeadOff => []
  | .gaugeDisagree b x y => byte b.code :: (beS16 x ++ beS16 y)
  | .misroute p src dst k => [byte (portCode p), addrByte src, addrByte dst, k]
  | .silenceStop n => [byte n]
  | .stopInput a => [flagByte a]

/-- The NOTICE frame that the SP arbiter builds as it takes a notice (R181, R182). -/
def PostedNotice.frame (own : LinkAddr) (overflow : Bool) (n : PostedNotice) : Frame :=
  ownFrame own 0 Config.kindNotice
    (byte n.notice.code :: flagByte overflow :: (be32 n.stamp.toNat ++ n.notice.fields))

/-- The hoist an order goes to (R106). -/
def Order.hoist : Order → LinkAddr
  | .run a _ _ => a
  | .pause a => a
  | .resume a => a

/-- The frame of an order (R106, R131, R138). -/
def Order.frame (own : LinkAddr) : Order → Frame
  | .run a raw speed => ownFrame own a Config.kindRun (be16 raw ++ be16 speed)
  | .pause a => ownFrame own a Config.kindPause []
  | .resume a => ownFrame own a Config.kindResume []

/-- The frame of a HALT order (R106, R131, R138). -/
def haltFrame (own dest : LinkAddr) : Frame := ownFrame own dest Config.kindHalt []

end Sys2Proof.Machine
end

