-- ==== Sys2Proof/Machine/Flags.lean ====
section
/-! DEFINITION. What the part derives from its state: opening and skew of a gate (R14), slot holding (R56),
freshness of hoists and gauges (R24, R115), FAULT_N (R79) and a free slot (R85). -/

namespace Sys2Proof.Machine

/-- All gates, in ascending order. -/
def allGates : List GateId := [0, 1, 2, 3, 4, 5, 6, 7, 8, 9, 10, 11]

/-- All gauges, in ascending order. -/
def allGauges : List GaugeId := [0, 1, 2, 3]

/-! ### Motion states -/

/-- The gate is in HOLD. -/
def Motion.isHold : Motion → Bool
  | .hold _ _ => true
  | _ => false

/-- The gate is PENDING. -/
def Motion.isPending : Motion → Bool
  | .pending _ => true
  | _ => false

/-- The gate is OUT_OF_SERVICE. -/
def Motion.isOutOfService : Motion → Bool
  | .outOfService _ => true
  | _ => false

/-- The gate holds a slot: STARTING, TRAVELLING or STOPPING (R56). -/
def Motion.holdsSlot : Motion → Bool
  | .starting _ _ _ => true
  | .travelling _ _ => true
  | .stopping _ _ _ => true
  | _ => false

/-- The request a next step keeps (R16). -/
def NextStep.request : NextStep → Option Request
  | .restartLeg r => some r
  | .requeue r => some r
  | _ => none

/-- The gate's request, where its state has one (R16). -/
def Motion.request : Motion → Option Request
  | .pending r => some r
  | .starting r _ _ => some r
  | .travelling r _ => some r
  | .stopping n _ _ => n.request
  | _ => none

/-- The gate's leg, where its state has one (R16). -/
def Motion.leg : Motion → Option Leg
  | .starting _ l _ => some l
  | .travelling _ l => some l
  | .stopping _ l _ => some l
  | _ => none

/-- FAULT_N is asserted exactly while at least one gate is in HOLD (R79). -/
def holdPresent (gates : Vector Gate 12) : Bool :=
  allGates.any fun g => gates[g].motion.isHold

/-! ### Samples -/

/-- A gate's sample for a side (R16). -/
def Gate.sample (x : Gate) : Side → Option Sample
  | .left => x.left
  | .right => x.right

/-- The address of the hoist at a side of the gate (R3). -/
def GateRecord.hoist (r : GateRecord) : Side → Option LinkAddr
  | .left => r.leftHoist
  | .right => r.rightHoist

/-- The offset of a side (R5). -/
def GateRecord.offset (r : GateRecord) : Side → Int
  | .left => r.leftOffset
  | .right => r.rightOffset

/-- The other hoist of the gate. -/
def otherSide : Side → Side
  | .left => .right
  | .right => .left

/-- The corrected position: raw position plus offset, clamped to 0 to full_travel (R13). -/
def GateRecord.corrected (r : GateRecord) (side : Side) (raw : Nat) : Nat :=
  min ((raw : Int) + r.offset side).toNat r.fullTravel

/-- The opening: the floor of the average of the two corrected positions, while both samples are present
(R14). -/
def Gate.opening (x : Gate) : Option Nat :=
  match x.left, x.right with
  | some l, some r => some ((l.corrected + r.corrected) / 2)
  | _, _ => none

/-- The skew: left corrected less right corrected, while both samples are present (R14). -/
def Gate.skew (x : Gate) : Option Int :=
  match x.left, x.right with
  | some l, some r => some ((l.corrected : Int) - r.corrected)
  | _, _ => none

/-- The freshness window in force (R8, R115). -/
def Gate.window (x : Gate) : Nat :=
  if x.motion.holdsSlot then x.record.sampleWindow else 8 * x.record.sampleWindow

/-- A sample is stale under a window: absent, or older than the window (R115). -/
def staleUnder (window : Nat) : Option Sample → Bool
  | none => true
  | some x => decide (window < x.age)

/-- A hoist of the gate is stale now. Freshness is not judged in OUT_OF_SERVICE (R115). -/
def Gate.stale (x : Gate) (side : Side) : Bool :=
  !x.motion.isOutOfService && staleUnder x.window (x.sample side)

/-- Both samples are present and fresh under the window of a gate at rest (R76, R83). -/
def Gate.freshAtRest (x : Gate) : Bool :=
  !staleUnder (8 * x.record.sampleWindow) x.left && !staleUnder (8 * x.record.sampleWindow) x.right

/-- A gauge is fresh while it is enabled, has a good value and its age is at most its window (R24). -/
def Gauge.fresh (x : Gauge) : Option Reading :=
  match x.value with
  | some v =>
    if x.record.enabled && decide (x.age ≤ x.record.sampleWindow) then some { value := v, age := x.age } else none
  | none => none

/-- A slot is free while the count is below K (R85). -/
def State.slotFree (s : State) : Bool := decide (s.slotsInUse < s.settings.slots)

end Sys2Proof.Machine
end

