-- ==== Sys2Proof/Machine/Ops.lean ====
section
/-! DEFINITION. The named operations over the state: gates, counters, replies, notices, hoist orders, slots
and the pending list. Every meaning changes the state through these. -/

namespace Sys2Proof.Machine

/-! ### Gates -/

/-- Gate g. -/
def State.gate (s : State) (g : GateId) : Gate := s.gates[g]

/-- Gate g replaced; FAULT_N follows the holds (R79). -/
def State.setGate (s : State) (g : GateId) (x : Gate) : State :=
  { s with gates := s.gates.set g x, faultN := holdPresent (s.gates.set g x) }

/-- Gate g's motion state replaced. -/
def State.setMotion (s : State) (g : GateId) (m : Motion) : State :=
  s.setGate g { s.gate g with motion := m }

/-- Gate g's excursion_reported mark set or cleared (R72, R73). -/
def State.setExcursion (s : State) (g : GateId) (b : Bool) : State :=
  s.setGate g { s.gate g with excursionReported := b }

/-- Gate g's ceiling stored (R40). -/
def State.setCeiling (s : State) (g : GateId) (c : Option Nat) : State :=
  s.setGate g { s.gate g with ceiling := c }

/-- Gate g's record. -/
def State.record (s : State) (g : GateId) : GateRecord := (s.gate g).record

/-- Curve c. -/
def State.curve (s : State) (c : Fin 4) : Curve := s.curves[c]

/-- Gauge n. -/
def State.gauge (s : State) (n : GaugeId) : Gauge := s.gauges[n]

/-- Gauge n replaced. -/
def State.setGauge (s : State) (n : GaugeId) (x : Gauge) : State :=
  { s with gauges := s.gauges.set n x }

/-- The route entry of an address. -/
def State.route (s : State) (a : LinkAddr) : RouteEntry := s.routes[a]

/-- The route entry of an address replaced. -/
def State.setRoute (s : State) (a : LinkAddr) (x : RouteEntry) : State :=
  { s with routes := s.routes.set a x }

/-! ### Counters -/

/-- One count, by the counter mode (R186). -/
def bump (mode : CounterMode) (c : CountWord) : CountWord :=
  match mode with
  | .saturate => if c = 0xFFFF#16 then c else c + 1
  | .wrap => c + 1

/-- A counter of a port raised by one (R185, R186). -/
def Counters.count (c : Counters) (mode : CounterMode) (name : CounterName) : Counters :=
  match name with
  | .good => { c with good := bump mode c.good }
  | .crcErrors => { c with crcErrors := bump mode c.crcErrors }
  | .overruns => { c with overruns := bump mode c.overruns }
  | .forwarded => { c with forwarded := bump mode c.forwarded }
  | .routeDrops => { c with routeDrops := bump mode c.routeDrops }
  | .queueDrops => { c with queueDrops := bump mode c.queueDrops }
  | .misroutes => { c with misroutes := bump mode c.misroutes }

/-- The counters of a port. -/
def State.counters (s : State) : Port → Counters
  | .sp => s.spCounters
  | .fp => s.fpCounters

/-- One event counted at a port (R185). -/
def State.count (s : State) (port : Port) (name : CounterName) : State :=
  match port with
  | .sp => { s with spCounters := s.spCounters.count s.settings.counterMode name }
  | .fp => { s with fpCounters := s.fpCounters.count s.settings.counterMode name }

/-! ### Replies, notices and forwarded frames -/

/-- A reply joins the tail of the reply queue. A request is taken only while there is a free place (R133, R141),
so every reply finds one. -/
def State.reply (s : State) (kind : Byte) (result : Result) (detail : Nat) (data : List Byte) : State :=
  { s with replies := s.replies ++ [{ kind := kind, result := result, detail := byte detail, data := data }] }

/-- A notice is posted: it joins the tail with the present Tide Clock value, or finds the queue full and sets
the overflow flag (R179, R180). -/
def State.post (s : State) (n : Notice) : State :=
  if s.notices.length < Config.noticePlaces then
    { s with notices := s.notices ++ [{ notice := n, stamp := s.tideClock }] }
  else { s with overflow := true }

/-- A frame joins the down queue and is counted forwarded, or finds it full and is counted as a queue drop
(R142). -/
def State.joinDown (s : State) (f : Frame) : State :=
  if s.downQueue.length < Config.downFrames then
    { s with downQueue := s.downQueue ++ [f] }.count .sp .forwarded
  else s.count .sp .queueDrops

/-- A frame joins the up queue and is counted forwarded, or finds it full and is counted as a queue drop
(R143). -/
def State.joinUp (s : State) (f : Frame) : State :=
  if s.upQueue.length < Config.upFrames then
    { s with upQueue := s.upQueue ++ [f] }.count .fp .forwarded
  else s.count .fp .queueDrops

/-- A misroute is counted, and fills the Misroute Capture record and posts its notice when the record is empty
(R158, R159). -/
def State.misroute (s : State) (port : Port) (f : RxFrame) : State :=
  let s := s.count port .misroutes
  match s.capture with
  | some _ => s
  | none =>
    { s with capture := some { port := port, src := f.frame.source, dst := f.frame.dest,
                               kind := f.frame.kind, stamp := f.stamp } }.post
      (.misroute port f.frame.source f.frame.dest f.frame.kind)

/-! ### Hoist orders -/

/-- A HALT enters the halt queue unless one waits there for the same hoist, and every unsent RUN, PAUSE and
RESUME for that hoist leaves the order queue (R108). -/
def State.pushHalt (s : State) (a : LinkAddr) : State :=
  { s with
    haltQueue := if a ∈ s.haltQueue then s.haltQueue else s.haltQueue ++ [a]
    orderQueue := s.orderQueue.filter fun o => o.hoist ≠ a }

/-- The order is a RUN for this hoist. -/
def Order.isRunFor (a : LinkAddr) : Order → Bool
  | .run b _ _ => decide (b = a)
  | _ => false

/-- A RUN removes an unsent RUN for the same hoist and joins the tail (R108). -/
def State.pushRun (s : State) (a : LinkAddr) (raw speed : Nat) : State :=
  { s with orderQueue := s.orderQueue.filter (fun o => !o.isRunFor a) ++ [.run a raw speed] }

/-- An order joins the tail unless the same order waits already (R108; log 8). -/
def State.pushOnce (s : State) (o : Order) : State :=
  { s with orderQueue := if o ∈ s.orderQueue then s.orderQueue else s.orderQueue ++ [o] }

/-- A PAUSE cancels an unsent RESUME for the same hoist, or joins the tail (R108). -/
def State.pushPause (s : State) (a : LinkAddr) : State :=
  if .resume a ∈ s.orderQueue then
    { s with orderQueue := s.orderQueue.filter fun o => o ≠ .resume a }
  else s.pushOnce (.pause a)

/-- A RESUME cancels an unsent PAUSE for the same hoist, or joins the tail (R108). -/
def State.pushResume (s : State) (a : LinkAddr) : State :=
  if .pause a ∈ s.orderQueue then
    { s with orderQueue := s.orderQueue.filter fun o => o ≠ .pause a }
  else s.pushOnce (.resume a)

/-- An order made for the hoist that the gate record names at a side (R106). A gate that moves names both
hoists (R10, R11); where none is named no order is made (log 22). -/
def State.forHoist (s : State) (g : GateId) (side : Side) (send : State → LinkAddr → State) : State :=
  match (s.record g).hoist side with
  | some a => send s a
  | none => s

/-- HALT to the left hoist and to the right hoist of a gate (R106). -/
def State.haltGate (s : State) (g : GateId) : State :=
  (s.forHoist g .left State.pushHalt).forHoist g .right State.pushHalt

/-- The raw target of a hoist: the leg target less the offset, clamped to 0 to 16383 (R54). -/
def GateRecord.rawTarget (r : GateRecord) (side : Side) (target : Nat) : Nat :=
  min ((target : Int) - r.offset side).toNat 16383

/-- RUN to the left hoist and to the right hoist of a gate (R63, R106). -/
def State.runGate (s : State) (g : GateId) (target speed : Nat) : State :=
  let one (side : Side) (s : State) : State :=
    s.forHoist g side fun s a => s.pushRun a ((s.record g).rawTarget side target) speed
  one .right (one .left s)

/-- PAUSE to one hoist of a gate (R118). -/
def State.pauseHoist (s : State) (g : GateId) (side : Side) : State := s.forHoist g side State.pushPause

/-- RESUME to one hoist of a gate (R67, R119). -/
def State.resumeHoist (s : State) (g : GateId) (side : Side) : State := s.forHoist g side State.pushResume

/-! ### Slots and the pending list -/

/-- A grant evaluation is owed (R88). -/
def State.owe (s : State) : State := { s with evalDue := true }

/-- A slot is given back, which causes an evaluation (R56, R85, R88). -/
def State.releaseSlot (s : State) : State :=
  { s with slotsInUse := s.slotsInUse - 1, evalDue := true }

/-- A gate joins the tail of the pending list with its request, becoming PENDING (R86, R88). -/
def State.joinTail (s : State) (g : GateId) (r : Request) : State :=
  { s.setMotion g (.pending r) with waiting := s.waiting ++ [g], evalDue := true }

/-- A gate joins the head of the pending list with its request, becoming PENDING (R86, R88). -/
def State.joinHead (s : State) (g : GateId) (r : Request) : State :=
  { s.setMotion g (.pending r) with waiting := g :: s.waiting, evalDue := true }

/-- A gate leaves the pending list for another motion state (R86). -/
def State.leaveList (s : State) (g : GateId) (m : Motion) : State :=
  { s.setMotion g m with waiting := s.waiting.filter fun h => h ≠ g }

/-! ### Sweeps -/

/-- An action for every gate of a list, one after the other. -/
def State.sweep (s : State) (gs : List GateId) (act : State → GateId → State) : State :=
  gs.foldl act s

end Sys2Proof.Machine
end

