-- ==== Sys2Proof/Machine/Envelope.lean ====
section
/-! DEFINITION. The Envelope Unit: curve values and ceilings (R38, R39), the five stages of a decision (R43 to
R49), wait reason and CLAMPED (R50, R51), speed and deadline (R52, R53). -/

namespace Sys2Proof.Machine

/-- What a leg-needed decision carries (R49, R55). -/
structure Plan where
  target    : Nat
  direction : Direction
  speed     : Nat
  deadline  : Nat
  deriving DecidableEq, Repr

/-- A decision (R49). A blocked decision names its limiting term, or none when the opening is absent (R43). -/
inductive Decision where
  | satisfied
  | blocked (term : Option WaitReason)
  | legNeeded (plan : Plan)
  deriving DecidableEq, Repr

/-- A decision together with the goal when the goal stage recorded CEILING (R49, R51). -/
structure Weighing where
  decision  : Decision
  clampedTo : Option Nat
  deriving DecidableEq, Repr

/-! ### The ceiling -/

/-- The line between two breakpoints at a head, rounded toward minus infinity (R39). -/
def interpolate (b c : Breakpoint) (h : Int) : Nat :=
  ((b.ceiling : Int) + (((c.ceiling : Int) - b.ceiling) * (h - b.head)) / (c.head - b.head)).toNat

/-- The curve value at a head above the head of breakpoint `b`, on the breakpoints from `b` on (R39). -/
def segmentValue (b : Breakpoint) : List Breakpoint → Int → Nat
  | [], _ => b.ceiling
  | c :: rest, h => if h < c.head then interpolate b c h else segmentValue c rest h

/-- The curve value at a head; an empty curve has none (R39). -/
def curveValue : List Breakpoint → Int → Option Nat
  | [], _ => none
  | b :: rest, h => some (if h ≤ b.head then b.ceiling else segmentValue b rest h)

/-- The ceiling of a gate from mode, head and curve (R38). -/
def State.computeCeiling (s : State) (x : Gate) : Option Nat :=
  if x.record.inService then
    match s.mode, s.head with
    | .noHead, _ => none
    | .reverse, _ => some 0
    | .curve, some h => (curveValue (s.curve x.record.curve).points h.fwd).map (min · x.record.fullTravel)
    | .curve, none => none
  else none

/-! ### The stages of a decision -/

/-- The magnitude of a difference. -/
def distance (a b : Nat) : Nat := if a ≤ b then b - a else a - b

/-- Stage 2: the goal and its limiting term (R44). -/
def goalStage (target opening : Nat) (ceiling : Option Nat) : Nat × Option WaitReason :=
  match ceiling with
  | some c => if target ≤ c then (target, none) else (c, some .ceiling)
  | none => if target ≤ opening then (target, none) else (opening, some .noHead)

/-- The gate to the left of a gate; gate 0 has none (00_scope.md 6.2). -/
def leftOf (g : GateId) : Option GateId :=
  if g.val = 0 then none else some ⟨g.val - 1, by omega⟩

/-- The gate to the right of a gate; gate 11 has none (00_scope.md 6.2). -/
def rightOf (g : GateId) : Option GateId :=
  if h : g.val + 1 < 12 then some ⟨g.val + 1, h⟩ else none

/-- The opening of a neighbour that counts: it exists, is in service and has an opening (R45). -/
def State.neighbourOpening (s : State) (n : Option GateId) : Option Nat :=
  match n with
  | none => none
  | some h => if (s.record h).inService then (s.gate h).opening else none

/-- The openings of the linked neighbours of a gate (R45). -/
def State.linkedOpenings (s : State) (g : GateId) : List Nat :=
  if (s.record g).spread = 0 then []
  else
    (if (s.record g).linkLeft then (s.neighbourOpening (leftOf g)).toList else []) ++
    (if (s.record g).linkRight then (s.neighbourOpening (rightOf g)).toList else [])

/-- The interval that one linked neighbour allows (R46). -/
def allowedInterval (spread opening n : Nat) : Int × Int :=
  ((n : Int) - max spread (distance opening n), (n : Int) + max spread (distance opening n))

/-- The part common to two intervals. -/
def meet (a b : Int × Int) : Int × Int := (max a.1 b.1, min a.2 b.2)

/-- The band of the linked neighbours, before the ceiling; none when it is unbounded (R46). -/
def neighbourBand (spread opening : Nat) : List Nat → Option (Int × Int)
  | [] => none
  | n :: rest => some (rest.foldl (fun i m => meet i (allowedInterval spread opening m))
      (allowedInterval spread opening n))

/-- Stage 3: the band, its low end lowered to the ceiling (R46). -/
def bandStage (spread opening : Nat) (ns : List Nat) (ceiling : Option Nat) : Option (Int × Int) :=
  match neighbourBand spread opening ns, ceiling with
  | none, _ => none
  | some i, some c => some (min i.1 c, i.2)
  | some i, none => some i

/-- Stage 4: the goal clamped into the band, and the term SPREAD when the clamp changed it (R47). -/
def legStage (goal : Nat) (band : Option (Int × Int)) : Nat × Option WaitReason :=
  match band with
  | none => (goal, none)
  | some (lo, hi) =>
    if (goal : Int) < lo then (lo.toNat, some .spread)
    else if hi < (goal : Int) then (hi.toNat, some .spread)
    else (goal, none)

/-- The speed of a leg computed now (R52). -/
def State.legSpeed (s : State) (r : GateRecord) : Nat :=
  match s.mode, s.head with
  | .noHead, _ => r.creepSpeed
  | .reverse, _ => r.normalSpeed
  | .curve, some h => if (r.creepHead : Int) ≤ h.fwd then r.creepSpeed else r.normalSpeed
  | .curve, none => r.normalSpeed

/-- The deadline of a leg, its division rounded up (R53). -/
def legDeadline (target opening speed startAllowance : Nat) : Nat :=
  (distance target opening * 60000 + (speed - 1)) / speed + startAllowance

/-- Stages 2 to 5 from a present opening (R43 to R49, R52, R53). -/
def State.decideAt (s : State) (g : GateId) (target opening : Nat) : Weighing :=
  let r := s.record g
  let ceiling := (s.gate g).ceiling
  let goal := goalStage target opening ceiling
  let leg := legStage goal.1 (bandStage r.spread opening (s.linkedOpenings g) ceiling)
  let clampedTo := if goal.2 = some .ceiling then some goal.1 else none
  if distance target opening ≤ r.arriveTol then
    { decision := .satisfied, clampedTo := clampedTo }
  else if distance leg.1 opening ≤ r.arriveTol then
    { decision := .blocked (goal.2.or leg.2), clampedTo := clampedTo }
  else
    let speed := s.legSpeed r
    { decision := .legNeeded
        { target := leg.1
          direction := if opening < leg.1 then .raise else .lower
          speed := speed
          deadline := legDeadline leg.1 opening speed r.startAllowance }
      clampedTo := clampedTo }

/-- The decision for a target of a gate as things stand; blocked without a term while the opening is absent
(R43). -/
def State.decideFor (s : State) (g : GateId) (target : Nat) : Weighing :=
  match (s.gate g).opening with
  | none => { decision := .blocked none, clampedTo := none }
  | some opening => s.decideAt g target opening

/-- The wait reason after a decision (R50, R43). -/
def waitAfter (d : Decision) (old : WaitReason) : WaitReason :=
  match d with
  | .satisfied => old
  | .blocked none => old
  | .blocked (some term) => term
  | .legNeeded _ => .none

/-- A decision made for a request: the decision, the request with its wait reason and clamp mark, and the state
with the CLAMPED notice of the request's first CEILING (R50, R51). -/
def State.weigh (s : State) (g : GateId) (r : Request) : Decision × Request × State :=
  let w := s.decideFor g r.target
  let r' := { r with waitReason := waitAfter w.decision r.waitReason }
  match w.clampedTo with
  | some goal =>
    if r.clampReported then (w.decision, r', s)
    else (w.decision, { r' with clampReported := true }, s.post (.clamped g r.target goal .ceiling))
  | none => (w.decision, r', s)

end Sys2Proof.Machine
end

