-- ==== Sys2Proof/Machine/Sequencer.lean ====
section
/-! DEFINITION. The Gate Sequencer: the transitions of a gate's state machine (chapter 4), shared by every command
that reaches a gate. A transition that owes a grant evaluation marks it (`State.owe`); the evaluation itself is
Arbiter.lean's. -/

namespace Sys2Proof.Machine

/-- The empty acks received set. -/
def SideSet.empty : SideSet := { left := false, right := false }

/-- A side added to the set. -/
def SideSet.add (a : SideSet) : Side → SideSet
  | .left => { a with left := true }
  | .right => { a with right := true }

/-- A side removed from the set. -/
def SideSet.remove (a : SideSet) : Side → SideSet
  | .left => { a with left := false }
  | .right => { a with right := false }

/-- The set holds both sides. -/
def SideSet.both (a : SideSet) : Bool := a.left && a.right

/-- The target and level of a request (R62). -/
def Request.toTarget (r : Request) : Target := { target := r.target, level := r.level }

/-- A new request: clamp_reported no, wait reason NONE (R60). -/
def Request.fresh (target level : Nat) (origin : Origin) : Request where
  target := target
  level := level
  origin := origin
  clampReported := false
  waitReason := .none

/-- A request replaced by a new command: the wait reason stays until the next decision (R59). -/
def Request.replaced (r : Request) (target level : Nat) (origin : Origin) : Request :=
  { r with target := target, level := level, origin := origin, clampReported := false }

/-! ### The excursion check -/

/-- The excursion of a gate: opening and ceiling, when the opening stands above the ceiling by more than
arrive_tol (R72). -/
def Gate.excursion (x : Gate) : Option (Nat × Nat) :=
  match x.opening, x.ceiling with
  | some o, some c => if c + x.record.arriveTol < o then some (o, c) else none
  | _, _ => none

/-- The level of an ENVELOPE request (R9, R73). -/
def State.envelopeLevel (s : State) (g : GateId) : Nat :=
  if s.mode = .reverse then 0 else (s.record g).defaultPriority

/-- What an excursion that is found does (R73). -/
def State.actOnExcursion (s : State) (g : GateId) (opening ceiling : Nat) : State :=
  if (s.record g).trackCeiling && !s.stopAsserted then
    s.joinTail g (Request.fresh ceiling (s.envelopeLevel g) .envelope)
  else if (s.gate g).excursionReported then s
  else (s.post (.excursion g opening ceiling)).setExcursion g true

/-- The excursion check, made in IDLE only (R72, R73). -/
def State.excursionCheck (s : State) (g : GateId) : State :=
  match (s.gate g).motion with
  | .idle =>
    match (s.gate g).excursion with
    | none => s.setExcursion g false
    | some (o, c) => s.actOnExcursion g o c
  | _ => s

/-! ### Stopping and holding -/

/-- Entry to STOPPING (R69): HALT to both hoists, the pause and the acks forgotten, the halt window started. -/
def State.enterStopping (s : State) (g : GateId) (next : NextStep) (leg : Leg) : State :=
  let s := s.haltGate g
  s.setMotion g (.stopping next { leg with acks := .empty, paused := none } (4 * (s.record g).sampleWindow))

/-- Entry to OUT_OF_SERVICE: excursion_reported becomes no (R73, R81). -/
def State.enterOutOfService (s : State) (g : GateId) (deferred : Option Target) : State :=
  (s.setMotion g (.outOfService deferred)).setExcursion g false

/-- The HELD notice of a gate as it stands (R74, R182). -/
def State.postHeld (s : State) (g : GateId) (reason : HoldReason) : State :=
  s.post (.held g reason (s.gate g).opening (s.gate g).skew)

/-- A gate becomes HOLD with one reason, and HELD is posted (R74). -/
def State.makeHold (s : State) (g : GateId) (reason : HoldReason) (deferred : Option Target) : State :=
  (s.setMotion g (.hold { primary := reason, further := [] } deferred)).postHeld g reason

/-- The target that entry to HOLD keeps from a next step (R74). -/
def NextStep.kept : NextStep → Option Target
  | .idle => none
  | .restartLeg r => some r.toTarget
  | .requeue r => some r.toTarget
  | .outOfService c => c

/-- A reason joins the further reasons when it is new (R75). -/
def Hold.withReason (h : Hold) (reason : HoldReason) : Hold :=
  if reason = h.primary ∨ reason ∈ h.further then h else { h with further := h.further ++ [reason] }

/-- A fault condition handed to a gate (R74, R75). OUT_OF_SERVICE takes none (R81). -/
def State.fault (s : State) (g : GateId) (reason : HoldReason) : State :=
  match (s.gate g).motion with
  | .outOfService _ => s
  | .idle => s.makeHold g reason none
  | .pending r =>
    (s.leaveList g (.hold { primary := reason, further := [] } (some r.toTarget))).postHeld g reason
  | .starting r _ _ => ((s.haltGate g).makeHold g reason (some r.toTarget)).releaseSlot
  | .travelling r _ => ((s.haltGate g).makeHold g reason (some r.toTarget)).releaseSlot
  | .stopping n _ _ => ((s.haltGate g).makeHold g reason n.kept).releaseSlot
  | .hold h d => s.setMotion g (.hold (h.withReason reason) d)

/-- The sides of a gate that are stale now hand it STALE, the left first (R116). -/
def State.faultIfStale (s : State) (g : GateId) : State :=
  let one (side : Side) (s : State) : State := if (s.gate g).stale side then s.fault g .stale else s
  one .right (one .left s)

/-! ### Legs -/

/-- The leg of a decision, at its start (R63). -/
def Plan.leg (p : Plan) (stamp : Nat) : Leg where
  target := p.target
  direction := p.direction
  speed := p.speed
  deadline := p.deadline
  acks := .empty
  paused := none
  stamp := stamp

/-- A leg begins: it is stored, RUN goes to both hoists, the ack window starts, the gate enters STARTING
(R63, R71). -/
def State.startLeg (s : State) (g : GateId) (r : Request) (p : Plan) (stamp : Nat) : State :=
  (s.runGate g p.target p.speed).setMotion g (.starting r (p.leg stamp) (s.record g).ackWindow)

/-- The leg of a re-target that goes on: new target, speed and deadline; pause ended; stamp and direction kept
(R67). -/
def Leg.retargeted (l : Leg) (p : Plan) : Leg :=
  { l with target := p.target, speed := p.speed, deadline := p.deadline, paused := none }

/-- RESUME to a hoist paused by the trim (R67). -/
def State.resumePaused (s : State) (g : GateId) (l : Leg) : State :=
  match l.paused with
  | some side => s.resumeHoist g side
  | none => s

/-- A re-target that goes on in the same direction (R67, R121). `window` is the ack window of a gate in
STARTING, absent in TRAVELLING. -/
def State.goOn (s : State) (g : GateId) (r : Request) (l : Leg) (window : Option Nat) (p : Plan) : State :=
  let s := (s.resumePaused g l).runGate g p.target p.speed
  let l' := l.retargeted p
  match (s.record g).handshake, window with
  | .interlocked, _ => s.setMotion g (.starting r { l' with acks := .empty } (s.record g).ackWindow)
  | .pulsed, some w => s.setMotion g (.starting r l' w)
  | .pulsed, none => s.setMotion g (.travelling r { l' with acks := .empty })

/-- The motion state of a moving gate with its request as a decision left it. -/
def movingWith (r : Request) (l : Leg) (window : Option Nat) : Motion :=
  match window with
  | some w => .starting r l w
  | none => .travelling r l

/-- The re-target check of a moving gate (R66, R67, R68). -/
def State.retargetMoving (s : State) (g : GateId) (r : Request) (l : Leg) (window : Option Nat) : State :=
  let (d, r', s) := s.weigh g r
  match d with
  | .satisfied => s.enterStopping g (.restartLeg r') l
  | .blocked (some _) => s.enterStopping g (.requeue r') l
  | .blocked none => s.setMotion g (movingWith r' l window)
  | .legNeeded p =>
    if p.direction = l.direction then
      if p.target = l.target ∧ p.speed = l.speed then s.setMotion g (movingWith r' l window)
      else s.goOn g r' l window p
    else s.enterStopping g (.restartLeg r') l

/-- The re-target check, made in STARTING and TRAVELLING only (R66). -/
def State.retarget (s : State) (g : GateId) : State :=
  match (s.gate g).motion with
  | .starting r l w => s.retargetMoving g r l (some w)
  | .travelling r l => s.retargetMoving g r l none
  | _ => s

/-- The checks the Sequencer makes on a ceiling change (R41): the excursion check in IDLE, the re-target check
in STARTING and TRAVELLING. -/
def State.ceilingCheck (s : State) (g : GateId) : State :=
  match (s.gate g).motion with
  | .idle => s.excursionCheck g
  | .starting _ _ _ => s.retarget g
  | .travelling _ _ => s.retarget g
  | _ => s

/-- Entry to IDLE with the excursion check made on it (R72). -/
def State.enterIdle (s : State) (g : GateId) : State := (s.setMotion g .idle).excursionCheck g

/-- ARRIVED with the present opening (R182). -/
def State.postArrived (s : State) (g : GateId) : State :=
  match (s.gate g).opening with
  | some o => s.post (.arrived g o)
  | none => s

/-- A satisfied request ends: IDLE, ARRIVED, and the excursion check of the entry (R65, R71). -/
def State.arrive (s : State) (g : GateId) : State :=
  ((s.setMotion g .idle).postArrived g).excursionCheck g

/-- The leg is complete: the slot is released and the request decided at rest (R65). -/
def State.legComplete (s : State) (g : GateId) (r : Request) : State :=
  let (d, r', s) := s.releaseSlot.weigh g r
  match d with
  | .satisfied => s.arrive g
  | _ => s.joinTail g r'

/-- Both hoists of a STOPPING gate are at rest (R71). -/
def State.stoppingEnd (s : State) (g : GateId) (next : NextStep) (l : Leg) : State :=
  match next with
  | .idle => s.releaseSlot.enterIdle g
  | .restartLeg r =>
    let (d, r', s) := s.weigh g r
    match d with
    | .legNeeded p => (s.startLeg g r' p l.stamp).owe
    | .satisfied => s.releaseSlot.arrive g
    | .blocked _ => s.releaseSlot.joinHead g r'
  | .requeue r => s.releaseSlot.joinHead g r
  | .outOfService c => s.releaseSlot.enterOutOfService g c

/-! ### Requests -/

/-- A request taken into an IDLE gate (R60): satisfied at once, or joined at the tail. -/
def State.takeIntoIdle (s : State) (g : GateId) (target level : Nat) (origin : Origin) : State :=
  match (s.gate g).opening with
  | some o =>
    if distance target o ≤ (s.record g).arriveTol then s.post (.arrived g o)
    else s.joinTail g (.fresh target level origin)
  | none => s.joinTail g (.fresh target level origin)

/-- The level of the standing request that outranks a command at a gate, if one does (R59). -/
def State.outrankedBy (s : State) (g : GateId) (level : Nat) : Option Nat :=
  match (s.gate g).motion.request with
  | some r => if r.level < level then some r.level else none
  | none => none

/-- The gate would store the target of a command as a deferred or carried target (R58). -/
def Motion.stores : Motion → Bool
  | .outOfService _ => true
  | .hold _ _ => true
  | .stopping (.outOfService _) _ _ => true
  | _ => false

/-- A MOVE or GROUP SET that is not outranked acts on the gate by its state (R58, R70). -/
def State.applyTarget (s : State) (g : GateId) (target level : Nat) (origin : Origin) : State :=
  let kept : Target := { target := target, level := level }
  match (s.gate g).motion with
  | .outOfService _ => s.setMotion g (.outOfService (some kept))
  | .idle => s.takeIntoIdle g target level origin
  | .pending r => (s.setMotion g (.pending (r.replaced target level origin))).owe
  | .starting r l w => s.retargetMoving g (r.replaced target level origin) l (some w)
  | .travelling r l => s.retargetMoving g (r.replaced target level origin) l none
  | .stopping .idle l w => s.setMotion g (.stopping (.restartLeg (.fresh target level origin)) l w)
  | .stopping (.restartLeg r) l w =>
    s.setMotion g (.stopping (.restartLeg (r.replaced target level origin)) l w)
  | .stopping (.requeue r) l w => s.setMotion g (.stopping (.requeue (r.replaced target level origin)) l w)
  | .stopping (.outOfService _) l w => s.setMotion g (.stopping (.outOfService (some kept)) l w)
  | .hold h _ => s.setMotion g (.hold h (some kept))

/-- STOP at a gate (R61, R70). -/
def State.stopGate (s : State) (g : GateId) : State :=
  match (s.gate g).motion with
  | .outOfService _ => s.setMotion g (.outOfService none)
  | .idle => s
  | .pending _ => (s.leaveList g .idle).excursionCheck g
  | .starting _ l _ => s.enterStopping g .idle l
  | .travelling _ l => s.enterStopping g .idle l
  | .stopping (.outOfService _) l w => s.setMotion g (.stopping (.outOfService none) l w)
  | .stopping _ l w => s.setMotion g (.stopping .idle l w)
  | .hold h _ => s.setMotion g (.hold h none)

/-- What STOP_N assertion and station silence do to one gate, before any excursion check (R98, R103). -/
def State.quellGate (s : State) (g : GateId) : State :=
  match (s.gate g).motion with
  | .pending _ => s.leaveList g .idle
  | .starting _ l _ => s.enterStopping g .idle l
  | .travelling _ l => s.enterStopping g .idle l
  | .stopping (.restartLeg _) l w => s.setMotion g (.stopping .idle l w)
  | .stopping (.requeue _) l w => s.setMotion g (.stopping .idle l w)
  | _ => s

/-! ### Leaving HOLD -/

/-- The deferred target of a gate that has left HOLD for IDLE is used up (R78). -/
def State.useDeferred (s : State) (g : GateId) (deferred : Option Target) : State :=
  match deferred with
  | none => s
  | some t => if s.stopAsserted then s else s.takeIntoIdle g t.target t.level .station

/-- A gate leaves HOLD, with its HOLD_CLEARED notice (R78). -/
def State.leaveHold (s : State) (g : GateId) (deferred : Option Target) (by_ : ClearedBy) : State :=
  let s := s.post (.holdCleared g by_)
  if (s.record g).inService then
    ((s.setMotion g .idle).useDeferred g deferred).excursionCheck g
  else s.enterOutOfService g deferred

/-- STALE clears itself when both hoists of a held gate are fresh (R76). -/
def State.staleClearing (s : State) (g : GateId) : State :=
  match (s.gate g).motion with
  | .hold h d =>
    if (s.gate g).freshAtRest then
      let further := h.further.filter fun r => r ≠ .stale
      if h.primary = .stale then
        match further with
        | next :: rest => (s.setMotion g (.hold { primary := next, further := rest } d)).postHeld g next
        | [] => s.leaveHold g d .auto
      else s.setMotion g (.hold { h with further := further } d)
    else s
  | _ => s

end Sys2Proof.Machine
end

