-- ==== Sys2Proof/Machine/Arbiter.lean ====
section
/-! DEFINITION. The Motion Arbiter: masking, the walk of a grant evaluation, grants, preemption (R88 to R92), and
the evaluations owed inside one command (R56, R88; log 16). -/

namespace Sys2Proof.Machine

/-! ### Masking -/

/-- A level is masked: neither 0 nor at or below priority_mask (R89). -/
def Settings.masks (k : Settings) (level : Nat) : Bool := decide (level ≠ 0) && decide (k.priorityMask < level)

/-- The wait reason that the marking of an evaluation gives a request (R89). -/
def Settings.mark (k : Settings) (r : Request) : Request :=
  if k.masks r.level then { r with waitReason := .masked }
  else if r.waitReason = .masked then { r with waitReason := .none }
  else r

/-- The marking of one gate of the pending list (R89). -/
def State.markOne (s : State) (g : GateId) : State :=
  match (s.gate g).motion with
  | .pending r => s.setMotion g (.pending (s.settings.mark r))
  | _ => s

/-- The marking that opens an evaluation (R89). -/
def State.markMasked (s : State) : State := s.sweep s.waiting State.markOne

/-! ### Grants -/

/-- The stamps of the gates that hold slots (R90). -/
def State.heldStamps (s : State) : List Nat :=
  allGates.filterMap fun g => (s.gate g).motion.leg.map Leg.stamp

/-- A motion state with its leg's grant order stamp replaced. -/
def Motion.restamped (m : Motion) (f : Nat → Nat) : Motion :=
  match m with
  | .starting r l w => .starting r { l with stamp := f l.stamp } w
  | .travelling r l => .travelling r { l with stamp := f l.stamp }
  | .stopping n l w => .stopping n { l with stamp := f l.stamp } w
  | m => m

/-- The stamps of the slot holders renumbered 1, 2 and so on in the order they have, and the counter set to
their number (R90). -/
def State.renumber (s : State) : State :=
  let stamps := s.heldStamps
  let rank (x : Nat) : Nat := (stamps.filter fun y => y < x).length + 1
  { s.sweep allGates fun s g => s.setMotion g ((s.gate g).motion.restamped rank) with
    grantCounter := stamps.length }

/-- The grant counter made ready for one more grant (R90). -/
def State.readyCounter (s : State) : State :=
  if s.grantCounter < Config.grantCounterMax then s else s.renumber

/-- A grant: the gate leaves the list, the count and the grant counter rise, the leg starts with the new stamp,
and a hoist that is stale under the shorter window holds the gate at once (R90, R63, R116). -/
def State.grant (s : State) (g : GateId) (r : Request) (p : Plan) : State :=
  let s := s.readyCounter
  let s := { s with
    waiting := s.waiting.filter fun h => h ≠ g
    slotsInUse := s.slotsInUse + 1
    grantCounter := s.grantCounter + 1 }
  (s.startLeg g r p s.grantCounter).faultIfStale g

/-- A pending request found satisfied at an evaluation is completed (R89). -/
def State.completePending (s : State) (g : GateId) : State :=
  ((s.leaveList g .idle).postArrived g).excursionCheck g

/-! ### The walk -/

/-- A pending request is weighed in the walk, and granted, completed or left (R89). -/
def State.weighInWalk (s : State) (g : GateId) : State :=
  match (s.gate g).motion with
  | .pending r =>
    match s.weigh g r with
    | (.legNeeded p, r', s) => s.grant g r' p
    | (.satisfied, _, s) => s.completePending g
    | (.blocked _, r', s) => s.setMotion g (.pending r')
  | _ => s

/-- The level of a gate's request while it is PENDING. -/
def State.pendingLevel (s : State) (g : GateId) : Option Nat :=
  match (s.gate g).motion with
  | .pending r => some r.level
  | _ => none

/-- The pending gates that an evaluation may weigh, by level and then by place in the list (R87, R89). -/
def State.walkOrder (s : State) : List GateId :=
  [0, 1, 2, 3, 4, 5, 6, 7].flatMap fun level =>
    s.waiting.filter fun g => s.pendingLevel g = some level ∧ !s.settings.masks level

/-- The walk stops as soon as no slot is free. It answers the gates not weighed, with the state (R89). -/
def State.walk (s : State) : List GateId → State × List GateId
  | [] => (s, [])
  | g :: rest => if s.slotFree then (s.weighInWalk g).walk rest else (s, g :: rest)

/-! ### Preemption -/

/-- A level-0 request that the walk has not weighed is weighed for the preemption test: movable, or acted on as
in the walk (R91). -/
def State.weighForPreemption (s : State) (g : GateId) : State × Bool :=
  match (s.gate g).motion with
  | .pending r =>
    match s.weigh g r with
    | (.legNeeded _, r', s) => (s.setMotion g (.pending r'), true)
    | (.satisfied, _, s) => (s.completePending g, false)
    | (.blocked _, r', s) => (s.setMotion g (.pending r'), false)
  | _ => (s, false)

/-- The movable level-0 requests among some gates, in list order, with the state after weighing them (R91). -/
def State.movable (s : State) : List GateId → State × List GateId
  | [] => (s, [])
  | g :: rest =>
    let (s, isMovable) := s.weighForPreemption g
    let (s, others) := s.movable rest
    (s, if isMovable then g :: others else others)

/-- The gates in STOPPING with next step REQUEUE (R91). -/
def State.requeueing (s : State) : Nat :=
  (allGates.filter fun g =>
    match (s.gate g).motion with
    | .stopping (.requeue _) _ _ => true
    | _ => false).length

/-- What a candidate victim is chosen by: request level and grant order stamp (R92). -/
def Motion.victimKey : Motion → Option (Nat × Nat)
  | .starting r l _ => if 0 < r.level then some (r.level, l.stamp) else none
  | .travelling r l => if 0 < r.level then some (r.level, l.stamp) else none
  | _ => none

/-- One key goes before another as a victim: a higher level, or a later stamp at the same level (R92). -/
def worse (a b : Nat × Nat) : Bool := decide (b.1 < a.1) || (decide (a.1 = b.1) && decide (b.2 < a.2))

/-- The victim among some gates, with its key (R92). -/
def State.victimAmong (s : State) : List GateId → Option (GateId × (Nat × Nat))
  | [] => none
  | g :: rest =>
    match (s.gate g).motion.victimKey, s.victimAmong rest with
    | none, best => best
    | some k, none => some (g, k)
    | some k, some (h, best) => if worse best k then some (h, best) else some (g, k)

/-- The victim of a preemption (R92). -/
def State.victim (s : State) : Option GateId := (s.victimAmong allGates).map (·.1)

/-- A victim is stopped with next step REQUEUE and PREEMPTED is posted (R92, R69). -/
def State.preempt (s : State) (victim beneficiary : GateId) : State :=
  let s := match (s.gate victim).motion with
    | .starting r l _ => s.enterStopping victim (.requeue r) l
    | .travelling r l => s.enterStopping victim (.requeue r) l
    | _ => s
  s.post (.preempted victim beneficiary)

/-- One preemption for each beneficiary, in order, while a victim exists (R91). -/
def State.preemptFor (s : State) : List GateId → State
  | [] => s
  | b :: rest =>
    match s.victim with
    | none => s
    | some v => (s.preempt v b).preemptFor rest

/-- The preemption test over the level-0 requests not weighed by the walk: the movable ones beyond the number of
gates already stopping for REQUEUE each preempt one victim (R91, R92). -/
def State.preemptionTest (s : State) (unweighed : List GateId) : State :=
  let (s, movable) := s.movable (unweighed.filter fun g => s.pendingLevel g = some 0)
  s.preemptFor (movable.drop s.requeueing)

/-! ### Evaluations -/

/-- One grant evaluation (R89, R91). -/
def State.evaluate (s : State) : State :=
  let s := { s with evalDue := false }.markMasked
  if s.stopAsserted then s
  else
    let (s, unweighed) := s.walk s.walkOrder
    if s.slotFree then s else s.preemptionTest unweighed

/-- Evaluations follow one another while one is owed (R88). -/
def State.evaluateDue : Nat → State → State
  | 0, s => { s with evalDue := false }
  | n + 1, s => if s.evalDue then State.evaluateDue n s.evaluate else s

/-- The evaluations owed by the event just made (R56, R88; log 16). -/
def State.settle (s : State) : State := State.evaluateDue Config.evaluationRounds s

/-- A grant evaluation that the event's rule calls for by itself (R12, R31, R41, R84, R100). -/
def State.evaluateNow (s : State) : State := s.owe.settle

/-- An excursion check that no rule gathers with others: the join that it may make is an event with an evaluation of
its own (R73, R88). -/
def State.checkExcursionOf (s : State) (g : GateId) : State := (s.excursionCheck g).settle

/-! ### The gate opening changed event -/

/-- The adjacent gates that link toward a gate: g − 1 by its link_right, g + 1 by its link_left (R15). -/
def State.linkingToward (s : State) (g : GateId) : List GateId :=
  ((leftOf g).toList.filter fun h => (s.record h).linkRight) ++
  ((rightOf g).toList.filter fun h => (s.record h).linkLeft)

/-- The event reaches the gates that link toward this one (R15, R66). -/
def State.tellNeighbours (s : State) (g : GateId) : State :=
  s.sweep (s.linkingToward g) State.retarget

/-- The gate is a linked neighbour of a PENDING gate (R15, R88; log 17). -/
def State.neighboursPending (s : State) (g : GateId) : Bool :=
  (s.linkingToward g).any fun h => (s.gate h).motion.isPending

/-- The "gate opening changed" event: the gate's own excursion check, the re-target checks of the gates that link
toward it, and the grant evaluation (R15, R110). -/
def State.openingChanged (s : State) (g : GateId) : State :=
  let s := (s.excursionCheck g).tellNeighbours g
  (if s.neighboursPending g then s.owe else s).settle

/-! ### Ceilings -/

/-- The ceilings of the in-service gates recomputed, and the gates whose ceiling changed (R40, R41). -/
def State.recomputeCeilings (s : State) : State × List GateId :=
  let changed := allGates.filter fun g =>
    (s.record g).inService && decide ((s.gate g).ceiling ≠ s.computeCeiling (s.gate g))
  (s.sweep changed fun s g => s.setCeiling g (s.computeCeiling (s.gate g)), changed)

/-- The ceiling path: every changed gate's checks, then one grant evaluation when any changed (R41). -/
def State.ceilingPath (s : State) : State :=
  let (s, changed) := s.recomputeCeilings
  let s := s.sweep changed State.ceilingCheck
  if changed.isEmpty then s else s.evaluateNow

end Sys2Proof.Machine
end

