-- ==== Sys2Proof/Machine/Level.lean ====
section
/-! DEFINITION. The Level Unit: side values, head pair and ceiling mode (R25 to R31), LEVEL samples (R22, R23) and
a gauge going stale (R24). -/

namespace Sys2Proof.Machine

/-! ### Side values -/

/-- A gauge in the order of freshness: the smaller age first, then the lower number (R25). -/
def insertFresh (x : GaugeId × Reading) : List (GaugeId × Reading) → List (GaugeId × Reading)
  | [] => [x]
  | y :: rest => if y.2.age ≤ x.2.age then y :: insertFresh x rest else x :: y :: rest

/-- The fresh gauges of a side, freshest first (R24, R25). -/
def State.freshGauges (s : State) (b : Bank) : List (GaugeId × Reading) :=
  (allGauges.filterMap fun n =>
    if (s.gauge n).record.bank = b then (s.gauge n).fresh.map fun r => (n, r) else none).foldl
      (fun sorted x => insertFresh x sorted) []

/-- The side value of the gauges used, and the levels of two that disagree, the lower-numbered gauge's first
(R26, R27). -/
def sideValue (agree : Nat) : List (GaugeId × Reading) → Option Levels × Option (Int × Int)
  | [] => (none, none)
  | [(_, a)] => (some { hi := a.value, lo := a.value }, none)
  | (m, a) :: (n, b) :: _ =>
    if (a.value - b.value).natAbs ≤ agree then
      (some { hi := (a.value + b.value) / 2, lo := (a.value + b.value) / 2 }, none)
    else
      (some { hi := max a.value b.value, lo := min a.value b.value },
        some (if m < n then (a.value, b.value) else (b.value, a.value)))

/-- What the Level Unit holds for a side. -/
def State.bank (s : State) : Bank → BankState
  | .upstream => s.upstream
  | .downstream => s.downstream

/-- What the Level Unit holds for a side, replaced. -/
def State.setBank (s : State) (b : Bank) (x : BankState) : State :=
  match b with
  | .upstream => { s with upstream := x }
  | .downstream => { s with downstream := x }

/-- The side value recomputed, with the beginning or end of a disagreement episode (R26, R27). -/
def State.recomputeBank (s : State) (b : Bank) : State :=
  let (value, apart) := sideValue s.settings.gaugeAgree (s.freshGauges b)
  match apart with
  | none => s.setBank b { value := value, disagree := false }
  | some (x, y) =>
    let s' := s.setBank b { value := value, disagree := true }
    if (s.bank b).disagree then s' else s'.post (.gaugeDisagree b x y)

/-! ### Head pair and mode -/

/-- The head pair of two side values (R28). -/
def headOf (up down : Option Levels) : Option Head :=
  match up, down with
  | some u, some d => some { fwd := u.hi - d.lo, rev := d.hi - u.lo }
  | _, _ => none

/-- The ceiling mode from the head pair and the mode held (R29). -/
def modeAfter (k : Settings) (held : Mode) (head : Option Head) : Mode :=
  match head with
  | none => .noHead
  | some h =>
    match held with
    | .reverse => if (k.reverseLimit : Int) - k.reverseHyst ≤ h.rev then .reverse else .curve
    | _ => if (k.reverseLimit : Int) ≤ h.rev then .reverse else .curve

/-- H_rev of a head pair. REVERSE with no head pair is reached by no run, and reads 0 here (log 22). -/
def revOf : Option Head → Int
  | some h => h.rev
  | none => 0

/-- The notices of a mode change, in order (R30). -/
def modeNotices (old new : Mode) (oldHead newHead : Option Head) : List Notice :=
  match old, new with
  | .curve, .reverse => [.reverseOn (revOf newHead)]
  | .reverse, .curve => [.reverseOff (revOf newHead)]
  | .curve, .noHead => [.noHeadOn]
  | .reverse, .noHead => [.reverseOff (revOf oldHead), .noHeadOn]
  | .noHead, .curve => [.noHeadOff]
  | .noHead, .reverse => [.noHeadOff, .reverseOn (revOf newHead)]
  | .curve, .curve => []
  | .reverse, .reverse => []
  | .noHead, .noHead => []

/-- Several notices posted in order. -/
def State.postAll (s : State) (ns : List Notice) : State := ns.foldl State.post s

/-- A new head pair stored, the mode re-evaluated with its notices, and the changes handed on: a head change along
the ceiling path, then a mode change to the Arbiter (R29, R30, R31). -/
def State.newHead (s : State) (head : Option Head) : State :=
  let mode := modeAfter s.settings s.mode head
  let s' := { s.postAll (modeNotices s.mode mode s.head head) with head := head, mode := mode }
  let s'' := if s.head = head ∧ s.mode = mode then s' else s'.ceilingPath
  if s.mode = mode then s'' else s''.evaluateNow

/-- The side values of some sides recomputed, then head pair and mode (R22, R24, R28, R29). -/
def State.relevel (s : State) (banks : List Bank) : State :=
  let s := banks.foldl State.recomputeBank s
  s.newHead (headOf s.upstream.value s.downstream.value)

/-! ### Samples and staleness -/

/-- The good value that a LEVEL report gives a gauge, when it is accepted: enabled, status OK, level within the
plausibility bounds (R22, R23). -/
def GaugeRecord.accepts (r : GaugeRecord) (raw : Int) (status : Nat) : Option Int :=
  let level := raw + r.datumOffset
  if r.enabled ∧ status = 0 ∧ r.lowPlaus ≤ level ∧ level ≤ r.highPlaus then some level else none

/-- A LEVEL frame handed to the Level Unit for gauge n. A payload of another length than 3 is discarded
(R22, R23, R138). -/
def State.takeLevel (s : State) (n : GaugeId) (p : List Byte) : State :=
  if p.length = 3 then
    match (s.gauge n).record.accepts (s16At p 0) (byteAt p 2) with
    | some v =>
      (s.setGauge n { s.gauge n with value := some v, age := 0 }).relevel [(s.gauge n).record.bank]
    | none => s
  else s

/-- The age of an enabled gauge with a good value exceeds its window (R24). -/
def Gauge.overdue (x : Gauge) : Bool :=
  x.record.enabled && x.value.isSome && decide (x.record.sampleWindow < x.age)

/-- A gauge goes stale (R24). -/
def State.gaugeGoesStale (s : State) (n : GaugeId) : State :=
  if (s.gauge n).overdue then s.relevel [(s.gauge n).record.bank] else s

end Sys2Proof.Machine
end

