-- ==== Sys2Proof/Machine/Hoist.lean ====
section
/-! DEFINITION. The hoist drive exchange: POSITION and ACK reports and the checks made on them (R109 to R113, R117 to
R124), and the expiries of a gate's windows (R114, R116, R122, R123). -/

namespace Sys2Proof.Machine

/-! ### POSITION: the sample -/

/-- What a POSITION payload reports (R109). -/
structure Report where
  raw       : Nat
  state     : HoistState
  faultCode : Option Nat
  deriving DecidableEq, Repr

/-- The hoist state and fault code of a report, from its state byte and its fault code byte, 0 when the frame
carries none (R109). -/
def reportState (state code : Nat) : HoistState × Option Nat :=
  match state with
  | 0 => (.atRest, none)
  | 1 => (.moving, none)
  | 2 => (.paused, none)
  | 3 => (.fault, some (if code = 0 then 255 else code))
  | _ => (.fault, some 255)

/-- The report of a POSITION payload; another payload length than 3 or 4 is none (R109, R138). -/
def parseReport (p : List Byte) : Option Report :=
  if p.length = 3 ∨ p.length = 4 then
    let st := reportState (byteAt p 2) (byteAt p 3)
    some { raw := min (u16At p 0) 16383, state := st.1, faultCode := st.2 }
  else none

/-- The sample that a report makes (R109, R17, R13). -/
def GateRecord.sampleOf (r : GateRecord) (side : Side) (x : Report) (stamp : ClockWord) : Sample where
  raw := x.raw
  corrected := r.corrected side x.raw
  state := x.state
  faultCode := x.faultCode
  stamp := stamp
  age := 0

/-- A gate with its sample for one side replaced (R17). -/
def Gate.withSample (x : Gate) (side : Side) (v : Option Sample) : Gate :=
  match side with
  | .left => { x with left := v }
  | .right => { x with right := v }

/-- The report becomes the side's sample (R109). -/
def State.storeSample (s : State) (g : GateId) (side : Side) (x : Report) (stamp : ClockWord) : State :=
  s.setGate g ((s.gate g).withSample side (some ((s.record g).sampleOf side x stamp)))

/-! ### POSITION: the checks -/

/-- A sample's effect on a set of sides at rest (R121, R123). -/
def SideSet.rest (a : SideSet) (side : Side) (st : HoistState) : SideSet :=
  match st with
  | .atRest => a.add side
  | .moving => a.remove side
  | .paused => a.remove side
  | .fault => a

/-- Step 1: what a sample counts for as evidence (R110, R113, R121, R123). -/
def Motion.evidence (m : Motion) (h : Handshake) (side : Side) (st : HoistState) : Motion :=
  match m, h, st with
  | .starting r l w, .pulsed, .moving => .starting r { l with acks := l.acks.add side } w
  | .travelling r l, _, st => .travelling r { l with acks := l.acks.rest side st }
  | .stopping n l w, _, st => .stopping n { l with acks := l.acks.rest side st } w
  | m, _, _ => m

/-- Step 1 on the state. -/
def State.takeEvidence (s : State) (g : GateId) (side : Side) (st : HoistState) : State :=
  s.setMotion g ((s.gate g).motion.evidence (s.record g).handshake side st)

/-- Step 2: a sample that reports FAULT (R124). -/
def State.faultCheck (s : State) (g : GateId) (st : HoistState) : State :=
  if st = .fault then (s.fault g .hoistFault).settle else s

/-- The skew of a gate is present with a magnitude above its trip (R120). -/
def Gate.tripped (x : Gate) : Bool :=
  match x.skew with
  | some k => decide (x.record.trip < k.natAbs)
  | none => false

/-- Step 3: the skew trip (R120). -/
def State.tripCheck (s : State) (g : GateId) : State :=
  if (s.gate g).tripped then (s.fault g .skew).settle else s

/-- The gate enters TRAVELLING: its ack window is stopped and its set of sides emptied (R64, R121). -/
def State.enterTravelling (s : State) (g : GateId) (r : Request) (l : Leg) : State :=
  s.setMotion g (.travelling r { l with acks := .empty })

/-- Step 5: the start of a PULSED gate (R113). -/
def State.startCheck (s : State) (g : GateId) : State :=
  match (s.gate g).motion with
  | .starting r l _ =>
    if (s.record g).handshake = .pulsed ∧ l.acks.both then s.enterTravelling g r l else s
  | _ => s

/-- A gate whose hoists rest is at its leg target within arrive_tol (R121). -/
def Gate.atTarget (x : Gate) (l : Leg) : Bool :=
  match x.opening with
  | some o => decide (distance o l.target ≤ x.record.arriveTol)
  | none => false

/-- Step 6: both hoists at rest, in TRAVELLING (R121) or STOPPING (R123, R71). -/
def State.restCheck (s : State) (g : GateId) : State :=
  match (s.gate g).motion with
  | .travelling r l =>
    if l.acks.both then
      (if (s.gate g).atTarget l then s.legComplete g r else s.fault g .shortfall).settle
    else s
  | .stopping n l _ => if l.acks.both then (s.stoppingEnd g n l).settle else s
  | _ => s

/-- The lead hoist of a gate, from its direction and skew (R117). -/
def leadHoist (d : Direction) (skew : Option Int) : Option Side :=
  match skew with
  | none => none
  | some k =>
    if k = 0 then none
    else
      match d with
      | .raise => some (if 0 < k then .left else .right)
      | .lower => some (if 0 < k then .right else .left)

/-- The skew is present with a magnitude above trim (R118). -/
def Gate.needsTrim (x : Gate) : Bool :=
  match x.skew with
  | some k => decide (x.record.trim < k.natAbs)
  | none => false

/-- The skew is absent, or its magnitude is at most half of trim (R119). -/
def Gate.trimmed (x : Gate) : Bool :=
  match x.skew with
  | some k => decide (k.natAbs ≤ x.record.trim / 2)
  | none => true

/-- Step 7: the skew trim of a gate in TRAVELLING (R118, R119). -/
def State.trimCheck (s : State) (g : GateId) : State :=
  match (s.gate g).motion with
  | .travelling r l =>
    let lead := leadHoist l.direction (s.gate g).skew
    match l.paused with
    | none =>
      match lead with
      | some side =>
        if (s.gate g).needsTrim then
          (s.pauseHoist g side).setMotion g (.travelling r { l with paused := some side })
        else s
      | none => s
    | some side =>
      if (s.gate g).trimmed || decide (lead = some (otherSide side)) then
        (s.resumeHoist g side).setMotion g (.travelling r { l with paused := none })
      else s
  | _ => s

/-- Steps 1 to 7 of the checks on an accepted sample, each on the state the ones before have left; the evaluations
that a check owes are made with it (R110, R56). -/
def State.sampleChecks (s : State) (g : GateId) (side : Side) (st : HoistState) : State :=
  let s := s.takeEvidence g side st
  let s := s.faultCheck g st
  let s := s.tripCheck g
  let s := (s.staleClearing g).settle
  let s := s.startCheck g
  let s := s.restCheck g
  s.trimCheck g

/-- A POSITION frame handed to the Sequencer for a gate and side (R109, R110). -/
def State.takePosition (s : State) (g : GateId) (side : Side) (p : List Byte) (stamp : ClockWord) : State :=
  match parseReport p with
  | none => s
  | some x =>
    let stored := s.storeSample g side x stamp
    if (stored.gate g).motion.isOutOfService then stored
    else
      let checked := stored.sampleChecks g side x.state
      if (s.gate g).opening = (stored.gate g).opening then checked else checked.openingChanged g

/-! ### ACK -/

/-- An ACK of RUN in STARTING under INTERLOCKED (R111, R112). -/
def State.ackOfRun (s : State) (g : GateId) (side : Side) : State :=
  match (s.gate g).motion with
  | .starting r l w =>
    if (s.record g).handshake = .interlocked then
      let acks := l.acks.add side
      if acks.both then s.enterTravelling g r l else s.setMotion g (.starting r { l with acks := acks } w)
    else s
  | _ => s

/-- An ACK frame handed to the Sequencer for a gate and side (R111). -/
def State.takeAck (s : State) (g : GateId) (side : Side) (p : List Byte) : State :=
  if p = [Config.kindRun] then s.ackOfRun g side else s

/-! ### Expiries -/

/-- A hoist has become stale (R116). -/
def State.hoistGoesStale (s : State) (g : GateId) (side : Side) : State :=
  if (s.gate g).stale side then (s.fault g .stale).settle else s

/-- The reason of an ack window's expiry (R114). -/
def Handshake.noStart : Handshake → HoldReason
  | .interlocked => .noAck
  | .pulsed => .noStart

/-- The ack window of a gate in STARTING has reached 0 (R114). -/
def State.ackWindowEnds (s : State) (g : GateId) : State :=
  match (s.gate g).motion with
  | .starting _ _ 0 => (s.fault g (s.record g).handshake.noStart).settle
  | _ => s

/-- The leg of a gate in STARTING or TRAVELLING, whose deadline counts (R122). -/
def Motion.countingLeg : Motion → Option Leg
  | .starting _ l _ => some l
  | .travelling _ l => some l
  | _ => none

/-- The deadline of a gate in STARTING or TRAVELLING has reached 0 (R122). -/
def State.deadlineEnds (s : State) (g : GateId) : State :=
  match (s.gate g).motion.countingLeg with
  | some l => if l.deadline = 0 then (s.fault g .timeout).settle else s
  | none => s

/-- The halt window of a gate in STOPPING has reached 0 (R123). -/
def State.haltWindowEnds (s : State) (g : GateId) : State :=
  match (s.gate g).motion with
  | .stopping _ _ 0 => (s.fault g .noStop).settle
  | _ => s

end Sys2Proof.Machine
end

