-- ==== Sys2Proof/Machine/Motion.lean ====
section
/-! DEFINITION. The motion requests of the station: MOVE, STOP, GROUP and CLEAR HOLD (R57 to R61, R77, R94 to R96),
STOP_N (R98, R100) and station silence (R103). Each request's handler is given the payload of its frame and makes
the one reply (R175). -/

namespace Sys2Proof.Machine

/-- The gate that a gate field names, when it is one of the twelve (R135). -/
def gateOf (n : Nat) : Option GateId := if h : n < 12 then some ⟨n, h⟩ else none

/-- A level field lowered to 7 (R57, R94). -/
def appliedLevel (n : Nat) : Nat := min n 7

/-- A target lowered to the gate's full_travel (R57). -/
def State.appliedTarget (s : State) (g : GateId) (target : Nat) : Nat := min target (s.record g).fullTravel

/-- A command that passes the replacement rule: CLAMPED when its target was lowered, then its effect at the gate
(R57, R58). -/
def State.command (s : State) (g : GateId) (target level : Nat) (origin : Origin) : State :=
  let s' := if (s.record g).fullTravel < target then
      s.post (.clamped g target (s.record g).fullTravel .travel) else s
  s'.applyTarget g (s.appliedTarget g target) level origin

/-! ### MOVE -/

/-- The level of a MOVE: the frame's, or default_priority when the frame carries none (R57). -/
def State.moveLevel (s : State) (g : GateId) (p : List Byte) : Nat :=
  appliedLevel (if p.length = 4 then byteAt p 3 else (s.record g).defaultPriority)

/-- The result of a MOVE that is not outranked (R57). -/
def State.moveResult (s : State) (g : GateId) (target : Nat) : Result :=
  if (s.gate g).motion.stores then .deferred
  else if (s.record g).fullTravel < target then .clamped
  else .accepted

/-- A MOVE of an existing gate (R57). -/
def State.moveGate (s : State) (g : GateId) (p : List Byte) : State :=
  let target := u16At p 1
  let level := s.moveLevel g p
  let data := be16 (s.appliedTarget g target) ++ [byte level]
  if s.stopAsserted then s.reply Config.kindMove .stopInput 0 []
  else
    match s.outrankedBy g level with
    | some standing => s.reply Config.kindMove .outranked standing data
    | none => (s.command g target level .station).settle.reply Config.kindMove (s.moveResult g target) 0 data

/-- MOVE (R57). -/
def State.takeMove (s : State) (p : List Byte) : State :=
  match gateOf (byteAt p 0) with
  | none => s.reply Config.kindMove .invalid 1 []
  | some g => s.moveGate g p

/-! ### STOP -/

/-- STOP (R61). -/
def State.takeStop (s : State) (p : List Byte) : State :=
  match gateOf (byteAt p 0) with
  | none => s.reply Config.kindStop .invalid 1 []
  | some g => (s.stopGate g).settle.reply Config.kindStop .accepted 0 []

/-! ### GROUP -/

/-- The gates that a mask names, in ascending order (R94). -/
def maskGates (mask : Nat) : List GateId := allGates.filter fun g => mask.testBit g.val

/-- The mask that names some gates. -/
def gatesMask (gs : List GateId) : Nat := gs.foldl (fun m g => m + 2 ^ g.val) 0

/-- The applied level of a GROUP: the frame's lowered to 7, or 1 when it carries none (R94; for STOP: log 12). -/
def groupLevel (p : List Byte) : Nat := appliedLevel (if p.length = 6 then byteAt p 5 else 1)

/-- The data of a reply to GROUP: effect mask, refused mask, applied level (R175). -/
def groupData (effect refused : List GateId) (level : Nat) : List Byte :=
  be16 (gatesMask effect) ++ be16 (gatesMask refused) ++ [byte level]

/-- A gate out of service that names no hoist can store no target (R95). -/
def Gate.notDeferrable (x : Gate) : Bool :=
  x.motion.isOutOfService && x.record.leftHoist.isNone && x.record.rightHoist.isNone

/-- The gate refuses a GROUP SET: not deferrable, or outranked (R95). -/
def State.refusesGroup (s : State) (g : GateId) (level : Nat) : Bool :=
  (s.gate g).notDeferrable || (s.outrankedBy g level).isSome

/-- GROUP SET at the named gates one after the other; it answers the state, the gates where it took effect and
those that refused it (R95). -/
def State.groupSet (s : State) (target level : Nat) : List GateId → State × List GateId × List GateId
  | [] => (s, [], [])
  | g :: rest =>
    if s.refusesGroup g level then
      let (s, effect, refused) := s.groupSet target level rest
      (s, effect, g :: refused)
    else
      let (s, effect, refused) := (s.command g target level .group).groupSet target level rest
      (s, g :: effect, refused)

/-- GROUP with action SET (R94, R95): one evaluation after the last named gate. -/
def State.takeGroupSet (s : State) (p : List Byte) : State :=
  let level := groupLevel p
  if s.stopAsserted then s.reply Config.kindGroup .stopInput 0 (groupData [] [] level)
  else
    let (s, effect, refused) := s.groupSet (u16At p 3) level (maskGates (u16At p 0))
    s.settle.reply Config.kindGroup .accepted 0 (groupData effect refused level)

/-- GROUP with action STOP (R94, R96): the events of each stop are made as it is made. -/
def State.takeGroupStop (s : State) (p : List Byte) : State :=
  let named := maskGates (u16At p 0)
  (s.sweep named fun s g => (s.stopGate g).settle).reply Config.kindGroup .accepted 0
    (groupData named [] (groupLevel p))

/-- GROUP with any other action (R94). -/
def State.takeGroupInvalid (s : State) : State := s.reply Config.kindGroup .invalid 2 []

/-! ### CLEAR HOLD -/

/-- The sample reports FAULT, or is absent (R77). -/
def faultOrAbsent : Option Sample → Bool
  | none => true
  | some x => decide (x.state = .fault)

/-- A reason of a hold is still present (R77). -/
def Gate.stillPresent (x : Gate) : HoldReason → Bool
  | .skew =>
    match x.skew with
    | none => true
    | some k => decide (x.record.trip < k.natAbs)
  | .hoistFault => faultOrAbsent x.left || faultOrAbsent x.right
  | .stale => !x.freshAtRest
  | _ => false

/-- CLEAR HOLD of an existing gate (R77). -/
def State.clearHold (s : State) (g : GateId) : State :=
  match (s.gate g).motion with
  | .hold h d =>
    match (h.primary :: h.further).find? (s.gate g).stillPresent with
    | some reason => s.reply Config.kindClearHold .stillPresent reason.code []
    | none => (s.leaveHold g d .request).settle.reply Config.kindClearHold .accepted 0 []
  | _ => s.reply Config.kindClearHold .accepted 0 []

/-- CLEAR HOLD (R77). -/
def State.takeClearHold (s : State) (p : List Byte) : State :=
  match gateOf (byteAt p 0) with
  | none => s.reply Config.kindClearHold .invalid 1 []
  | some g => s.clearHold g

/-! ### STOP_N and silence -/

/-- STOP_N assertion and station silence on all gates, then the excursion check of each gate they made IDLE, with the
evaluation of the join it may make (R98, R103; order of the gates: log 15). -/
def State.quell (s : State) : State :=
  let entering := allGates.filter fun g => (s.gate g).motion.isPending
  (s.sweep allGates State.quellGate).sweep entering State.checkExcursionOf

/-- The STOP_N state changes to asserted (R97, R98). -/
def State.assertStop (s : State) : State :=
  let s := { s with stopPinLow := true, stopFilter := 0 }
  if s.stopAsserted then s
  else ({ s with stopAsserted := true }.post (.stopInput true)).quell

/-- The STOP_N state changes to released (R97, R100). -/
def State.releaseStop (s : State) : State :=
  let s := { s with stopPinLow := false, stopFilter := 0 }
  if s.stopAsserted then ({ s with stopAsserted := false }.post (.stopInput false)).evaluateNow else s

/-- The expiry of the silence timer discards the gate's request (R103). -/
def Motion.discardable (m : Motion) : Bool := m.request.isSome

/-- The silence timer, RUNNING, has reached 0 (R103). -/
def State.silenceEnds (s : State) : State :=
  match s.silence with
  | .running 0 =>
    let n := (allGates.filter fun g => (s.gate g).motion.discardable).length
    ({ s with silence := .waiting }.post (.silenceStop n)).quell
  | _ => s

end Sys2Proof.Machine
end

