-- ==== Sys2Proof/Machine/ExpiryCommands.lean ====
section
/-! DEFINITION. The meanings of the expiries. Each acts only while its window has in fact run out: where another event
was taken first and stopped it, nothing is left to expire (R114, R116, R122, R123, R24, R103; log 1). -/

namespace Sys2Proof.Machine

/-- HOIST_STALE (R115, R116). -/
def execHoistStale (gate : GateId) (side : Side) (s : State) : Host.Outcome State Fault Refusal :=
  .next (s.hoistGoesStale gate side)

/-- GAUGE_STALE (R24). -/
def execGaugeStale (gauge : GaugeId) (s : State) : Host.Outcome State Fault Refusal :=
  .next (s.gaugeGoesStale gauge)

/-- ACK_WINDOW_EXPIRY (R114). -/
def execAckWindowExpiry (gate : GateId) (s : State) : Host.Outcome State Fault Refusal :=
  .next (s.ackWindowEnds gate)

/-- DEADLINE_EXPIRY (R122). -/
def execDeadlineExpiry (gate : GateId) (s : State) : Host.Outcome State Fault Refusal :=
  .next (s.deadlineEnds gate)

/-- HALT_WINDOW_EXPIRY (R123). -/
def execHaltWindowExpiry (gate : GateId) (s : State) : Host.Outcome State Fault Refusal :=
  .next (s.haltWindowEnds gate)

/-- SILENCE_EXPIRY (R103). -/
def execSilenceExpiry (s : State) : Host.Outcome State Fault Refusal :=
  .next s.silenceEnds

end Sys2Proof.Machine
end

