-- ==== Sys2Proof/Machine/Operands.lean ====
section
/-! DEFINITION. Where a command finds its operands: which row of the opcode table takes a station frame or a field
frame, by its addresses, kind and payload length (R136, R151, R155, R156). -/

namespace Sys2Proof.Machine

/-- The rows of the opcode table that take a frame from the SP receive buffer. -/
inductive StationRow where
  | sort
  | move
  | stop
  | groupSet
  | groupStop
  | groupInvalid
  | clearHold
  | tableRead
  | writeGate
  | writeFirstPart
  | writeSecondPart
  | writeGauge
  | writeRoute
  | writeSettings
  | statusRead
  | counterSnapshot
  | misrouteRead
  | timeSet
  | restart
  deriving DecidableEq, Repr

/-- The rows that take a frame from the FP receive buffer, with the gate and side, or gauge, of the binding. -/
inductive FieldRow where
  | sort
  | position (gate : GateId) (side : Side)
  | ack (gate : GateId) (side : Side)
  | level (gauge : GaugeId)
  deriving DecidableEq, Repr

/-- The row of a GROUP request, by its action (R94, R135). -/
def groupRow (action : Nat) : StationRow :=
  match action with
  | 0 => .groupStop
  | 1 => .groupSet
  | _ => .groupInvalid

/-- The row of a TABLE WRITE by its payload length alone, where it names no table (R151, R161; log 11). -/
def writeRowOfLength (n : Nat) : Option StationRow :=
  match n with
  | 40 => some .writeGate
  | 38 => some .writeFirstPart
  | 37 => some .writeSecondPart
  | 16 => some .writeGauge
  | 8 => some .writeRoute
  | _ => none

/-- The row of a TABLE WRITE: its length judged against the table its first byte names, or against every table when
it names none (R151, R161). -/
def writeRow (p : List Byte) : Option StationRow :=
  match p with
  | [] => none
  | id :: _ =>
    match id.toNat with
    | 0 => if p.length = 40 then some .writeGate else none
    | 1 => if p.length = 38 then some .writeFirstPart else none
    | 2 => if p.length = 37 then some .writeSecondPart else none
    | 3 => if p.length = 16 then some .writeGauge else none
    | 4 => if p.length = 8 then some .writeRoute else none
    | 5 => if p.length = 16 then some .writeSettings else none
    | _ => writeRowOfLength p.length

/-- A row for the payload lengths that the catalogue lists (R136). -/
def ofLength (row : StationRow) (lengths : List Nat) (p : List Byte) : Option StationRow :=
  if p.length ∈ lengths then some row else none

/-- The eleven kinds that the station addresses to the part (R136). -/
def requestKinds : List Byte :=
  [Config.kindMove, Config.kindStop, Config.kindGroup, Config.kindClearHold, Config.kindTableRead,
   Config.kindTableWrite, Config.kindStatusRead, Config.kindCounterSnapshot, Config.kindMisrouteRead,
   Config.kindTimeSet, Config.kindRestart]

/-- The row of a request of the right length (R136, R151). -/
def requestRow (kind : Byte) (p : List Byte) : Option StationRow :=
  if kind = Config.kindMove then ofLength .move [3, 4] p
  else if kind = Config.kindStop then ofLength .stop [1] p
  else if kind = Config.kindGroup then ofLength (groupRow (byteAt p 2)) [5, 6] p
  else if kind = Config.kindClearHold then ofLength .clearHold [1] p
  else if kind = Config.kindTableRead then ofLength .tableRead [2] p
  else if kind = Config.kindTableWrite then writeRow p
  else if kind = Config.kindStatusRead then ofLength .statusRead [1, 2] p
  else if kind = Config.kindCounterSnapshot then ofLength .counterSnapshot [1] p
  else if kind = Config.kindMisrouteRead then ofLength .misrouteRead [0] p
  else if kind = Config.kindTimeSet then ofLength .timeSet [4] p
  else if kind = Config.kindRestart then ofLength .restart [0] p
  else none

/-- The row that takes a station frame: a request of the right length its own row, every other frame
STATION_FRAME_SORT (R151). -/
def State.stationRow (s : State) (f : Frame) : StationRow :=
  if f.source = 0 ∧ (s.route f.dest).role = .self then (requestRow f.kind f.payload).getD .sort else .sort

/-- The destination is the station or the part (R155, R156). -/
def State.reportDest (s : State) (f : Frame) : Bool := decide (f.dest = 0) || decide (f.dest = s.ownAddress)

/-- The row that takes a field frame: an owned report its own row, every other frame FIELD_FRAME_SORT
(R155, R156). -/
def State.fieldRow (s : State) (f : Frame) : FieldRow :=
  let e := s.route f.source
  if s.reportDest f then
    match e.role, e.binding with
    | .hoist, some (.hoist g side) =>
      if f.kind = Config.kindPosition then .position g side
      else if f.kind = Config.kindAck then .ack g side
      else .sort
    | .gauge, some (.gauge n) => if f.kind = Config.kindLevel then .level n else .sort
    | _, _ => .sort
  else .sort

end Sys2Proof.Machine
end

