-- ==== Sys2Proof/Machine/Records.lean ====
section
/-! DEFINITION. The records as the link carries them: their bytes (R162), the checks of their fields in index order
(R10, R20, R36, R149, R163), and the bytes of TABLE READ and STATUS READ replies (R164, R170). -/

namespace Sys2Proof.Machine

/-- The index, from 1, of the first check that fails (R10, R165). -/
def firstFailing : List Bool → Option Nat
  | [] => none
  | true :: rest => (firstFailing rest).map (· + 1)
  | false :: _ => some 1

/-- A value lies in a range, both ends included (00_scope.md 6.1). -/
def within (lo hi : Nat) (n : Nat) : Bool := decide (lo ≤ n) && decide (n ≤ hi)

/-- A signed value lies in a range, both ends included. -/
def withinInt (lo hi : Int) (z : Int) : Bool := decide (lo ≤ z) && decide (z ≤ hi)

/-- A yes/no byte is 0 or 1 (R162). -/
def yesNo (n : Nat) : Bool := decide (n ≤ 1)

/-- An optional address byte: absent (0), or 1 to 62 and not the part's own address (R10, R20). -/
def addressOk (own : LinkAddr) (n : Nat) : Bool :=
  decide (n = 0) || (within 1 62 n && decide (n ≠ own.val))

/-- An optional address from its byte, 0 absent (R162). -/
def optAddr (n : Nat) : Option LinkAddr := if n = 0 then none else some ⟨n % 64, Nat.mod_lt _ (by decide)⟩

/-! ### The gate record -/

/-- The fields of a gate record as a write carries them, in index order (R162). -/
structure RawGate where
  inService       : Nat
  leftHoist       : Nat
  rightHoist      : Nat
  leftOffset      : Int
  rightOffset     : Int
  fullTravel      : Nat
  curve           : Nat
  spread          : Nat
  linkLeft        : Nat
  linkRight       : Nat
  normalSpeed     : Nat
  creepSpeed      : Nat
  creepHead       : Nat
  startAllowance  : Nat
  arriveTol       : Nat
  trim            : Nat
  trip            : Nat
  sampleWindow    : Nat
  handshake       : Nat
  ackWindow       : Nat
  trackCeiling    : Nat
  defaultPriority : Nat
  deriving DecidableEq, Repr

/-- The fields of the 35 bytes of a gate record (R162). -/
def RawGate.parse (r : List Byte) : RawGate where
  inService := byteAt r 0
  leftHoist := byteAt r 1
  rightHoist := byteAt r 2
  leftOffset := s16At r 3
  rightOffset := s16At r 5
  fullTravel := u16At r 7
  curve := byteAt r 9
  spread := u16At r 10
  linkLeft := byteAt r 12
  linkRight := byteAt r 13
  normalSpeed := u16At r 14
  creepSpeed := u16At r 16
  creepHead := u16At r 18
  startAllowance := u16At r 20
  arriveTol := u16At r 22
  trim := u16At r 24
  trip := u16At r 26
  sampleWindow := u16At r 28
  handshake := byteAt r 30
  ackWindow := u16At r 31
  trackCeiling := byteAt r 33
  defaultPriority := byteAt r 34

/-- The curve that a field names holds at least two breakpoints. A number that names no curve fails at its own
index 7, not here (R10; log 10). -/
def State.curveReady (s : State) (c : Nat) : Bool :=
  if h : c < 4 then decide (2 ≤ (s.curve ⟨c, h⟩).points.length) else true

/-- The checks of a gate record, in index order (R2, R10). -/
def RawGate.checks (s : State) (x : RawGate) : List Bool :=
  [ yesNo x.inService && (decide (x.inService = 0) ||
      (decide (x.leftHoist ≠ 0) && decide (x.rightHoist ≠ 0) && decide (x.leftHoist ≠ x.rightHoist) &&
        s.curveReady x.curve)),
    addressOk s.ownAddress x.leftHoist,
    addressOk s.ownAddress x.rightHoist && (decide (x.rightHoist = 0) || decide (x.rightHoist ≠ x.leftHoist)),
    withinInt (-500) 500 x.leftOffset,
    withinInt (-500) 500 x.rightOffset,
    within 1000 16000 x.fullTravel,
    within 0 3 x.curve,
    decide (x.spread = 0) || within 100 5000 x.spread,
    yesNo x.linkLeft,
    yesNo x.linkRight,
    within 10 2000 x.normalSpeed,
    within 10 x.normalSpeed x.creepSpeed,
    within 0 30000 x.creepHead,
    within 1000 60000 x.startAllowance,
    within 5 200 x.arriveTol,
    within 10 500 x.trim,
    within (x.trim + 10) 1000 x.trip,
    within 100 10000 x.sampleWindow,
    yesNo x.handshake,
    within 100 10000 x.ackWindow,
    yesNo x.trackCeiling,
    within 1 7 x.defaultPriority ]

/-- The gate record of fields that pass the checks. -/
def RawGate.record (x : RawGate) : GateRecord where
  inService := decide (x.inService = 1)
  leftHoist := optAddr x.leftHoist
  rightHoist := optAddr x.rightHoist
  leftOffset := x.leftOffset
  rightOffset := x.rightOffset
  fullTravel := x.fullTravel
  curve := ⟨x.curve % 4, Nat.mod_lt _ (by decide)⟩
  spread := x.spread
  linkLeft := decide (x.linkLeft = 1)
  linkRight := decide (x.linkRight = 1)
  normalSpeed := x.normalSpeed
  creepSpeed := x.creepSpeed
  creepHead := x.creepHead
  startAllowance := x.startAllowance
  arriveTol := x.arriveTol
  trim := x.trim
  trip := x.trip
  sampleWindow := x.sampleWindow
  handshake := if x.handshake = 1 then .pulsed else .interlocked
  ackWindow := x.ackWindow
  trackCeiling := decide (x.trackCeiling = 1)
  defaultPriority := x.defaultPriority

/-- The 35 bytes of a gate record (R162). -/
def GateRecord.bytes (r : GateRecord) : List Byte :=
  [flagByte r.inService, optAddrByte r.leftHoist, optAddrByte r.rightHoist] ++
  beS16 r.leftOffset ++ beS16 r.rightOffset ++ be16 r.fullTravel ++ [byte r.curve.val] ++ be16 r.spread ++
  [flagByte r.linkLeft, flagByte r.linkRight] ++ be16 r.normalSpeed ++ be16 r.creepSpeed ++ be16 r.creepHead ++
  be16 r.startAllowance ++ be16 r.arriveTol ++ be16 r.trim ++ be16 r.trip ++ be16 r.sampleWindow ++
  [byte r.handshake.code] ++ be16 r.ackWindow ++ [flagByte r.trackCeiling, byte r.defaultPriority]

/-- The index of the first motion-fixed field in which two gate records differ (R11, R165). -/
def GateRecord.fixedDiffers (a b : GateRecord) : Option Nat :=
  if a.leftHoist ≠ b.leftHoist then some 2
  else if a.rightHoist ≠ b.rightHoist then some 3
  else if a.leftOffset ≠ b.leftOffset then some 4
  else if a.rightOffset ≠ b.rightOffset then some 5
  else if a.fullTravel ≠ b.fullTravel then some 6
  else if a.handshake ≠ b.handshake then some 19
  else none

/-! ### Curves -/

/-- Breakpoints as a write carries them, from an offset on (R162). -/
def rawPoints (r : List Byte) (off : Nat) : Nat → List (Int × Nat)
  | 0 => []
  | n + 1 => (s16At r off, u16At r (off + 2)) :: rawPoints r (off + 4) n

/-- The checks of breakpoints, head then ceiling of each, after a breakpoint whose head is given (R36). -/
def pointChecks : Option Int → List (Int × Nat) → List Bool
  | _, [] => []
  | before, (h, c) :: rest =>
    (withinInt (-3000) 30000 h &&
      (match before with
       | none => true
       | some b => decide (b < h))) ::
    within 0 16000 c :: pointChecks (some h) rest

/-- The check of a breakpoint count (R36). -/
def countOk (n : Nat) : Bool := decide (n = 0) || within 2 16 n

/-- Breakpoints that passed their checks. -/
def toPoints (ps : List (Int × Nat)) : List Breakpoint := ps.map fun p => { head := p.1, ceiling := p.2 }

/-- The bytes of `n` breakpoint slots, zero beyond the list (R162). -/
def pointBytes : Nat → List Breakpoint → List Byte
  | 0, _ => []
  | n + 1, [] => [0, 0, 0, 0] ++ pointBytes n []
  | n + 1, b :: rest => beS16 b.head ++ be16 b.ceiling ++ pointBytes n rest

/-- The 33 bytes of a curve's first part (R162). -/
def Curve.firstBytes (c : Curve) : List Byte := byte c.points.length :: pointBytes 8 c.points

/-- The 32 bytes of a curve's second part (R162). -/
def Curve.secondBytes (c : Curve) : List Byte := pointBytes 8 (c.points.drop 8)

/-! ### Gauges -/

/-- The fields of a gauge record as a write carries them (R162). -/
structure RawGauge where
  enabled      : Nat
  bank         : Nat
  address      : Nat
  datumOffset  : Int
  lowPlaus     : Int
  highPlaus    : Int
  sampleWindow : Nat
  deriving DecidableEq, Repr

/-- The fields of the 11 bytes of a gauge record (R162). -/
def RawGauge.parse (r : List Byte) : RawGauge where
  enabled := byteAt r 0
  bank := byteAt r 1
  address := byteAt r 2
  datumOffset := s16At r 3
  lowPlaus := s16At r 5
  highPlaus := s16At r 7
  sampleWindow := u16At r 9

/-- The checks of a gauge record, in index order (R19, R20). -/
def RawGauge.checks (own : LinkAddr) (x : RawGauge) : List Bool :=
  [ yesNo x.enabled && (decide (x.enabled = 0) || decide (x.address ≠ 0)),
    decide (x.bank ≤ 1),
    addressOk own x.address,
    withinInt (-5000) 5000 x.datumOffset,
    withinInt (-10000) 20000 x.lowPlaus,
    withinInt (-10000) 20000 x.highPlaus && decide (x.lowPlaus < x.highPlaus),
    within 100 60000 x.sampleWindow ]

/-- The gauge record of fields that pass the checks. -/
def RawGauge.record (x : RawGauge) : GaugeRecord where
  enabled := decide (x.enabled = 1)
  bank := if x.bank = 1 then .downstream else .upstream
  address := optAddr x.address
  datumOffset := x.datumOffset
  lowPlaus := x.lowPlaus
  highPlaus := x.highPlaus
  sampleWindow := x.sampleWindow

/-- The 11 bytes of a gauge record (R162). -/
def GaugeRecord.bytes (r : GaugeRecord) : List Byte :=
  [flagByte r.enabled, byte r.bank.code, optAddrByte r.address] ++ beS16 r.datumOffset ++ beS16 r.lowPlaus ++
  beS16 r.highPlaus ++ be16 r.sampleWindow

/-! ### Route entries -/

/-- The role that a role byte names (R162). -/
def roleOf : Nat → Option Role
  | 0 => some .unused
  | 1 => some .station
  | 2 => some .self
  | 3 => some .hoist
  | 4 => some .gauge
  | 5 => some .other
  | _ => none

/-- The role is one that the station may write: UNUSED or OTHER (R149). -/
def Role.writable : Role → Bool
  | .unused => true
  | .other => true
  | _ => false

/-- The check of the role of a route write against the entry's present role (R149). -/
def roleOk (present : Role) (n : Nat) : Bool :=
  match roleOf n with
  | none => false
  | some r => !present.writable || r.writable

/-- The checks of a route record, in index order (R149). -/
def routeChecks (present : Role) (r : List Byte) : List Bool :=
  [roleOk present (byteAt r 0), decide (byteAt r 1 ≤ 1), decide (byteAt r 2 ≤ 1)]

/-- The pass_down of a byte that passes its check (R162). -/
def passDownOf (n : Nat) : PassDown := if n = 0 then .forward else .drop

/-- The pass_up of a byte that passes its check (R162). -/
def passUpOf (n : Nat) : PassUp := if n = 0 then .forward else .consume

/-- The binding bytes of a route read: presence, number, side (R164). -/
def bindingBytes : Option Binding → List Byte
  | none => [0, 0, 0]
  | some (.hoist g side) => [1, byte g.val, byte (sideCode side)]
  | some (.gauge n) => [1, byte n.val, 0]

/-- The three bytes of a route record (R162). -/
def RouteEntry.bytes (e : RouteEntry) : List Byte := [byte e.role.code, byte e.passDown.code, byte e.passUp.code]

/-! ### Settings -/

/-- The checks of a settings record, in index order (R163). -/
def settingsChecks (r : List Byte) : List Bool :=
  [ within 1 6 (byteAt r 0),
    within 0 7 (byteAt r 1),
    decide (u16At r 2 = 0) || within 500 60000 (u16At r 2),
    within 100 5000 (u16At r 4),
    within 10 1000 (u16At r 6),
    within 10 2000 (u16At r 8),
    decide (byteAt r 10 ≤ 1) ]

/-- The settings record of bytes that pass the checks (R162). -/
def parseSettings (r : List Byte) : Settings where
  slots := byteAt r 0
  priorityMask := byteAt r 1
  silenceWindow := u16At r 2
  reverseLimit := u16At r 4
  reverseHyst := u16At r 6
  gaugeAgree := u16At r 8
  counterMode := if byteAt r 10 = 1 then .wrap else .saturate

/-- The 11 bytes of the settings record (R162). -/
def Settings.bytes (k : Settings) : List Byte :=
  [byte k.slots, byte k.priorityMask] ++ be16 k.silenceWindow ++ be16 k.reverseLimit ++ be16 k.reverseHyst ++
  be16 k.gaugeAgree ++ [byte k.counterMode.code]

/-! ### The gate state record -/

/-- A sample in a STATUS READ (R170). -/
def Sample.bytes (x : Sample) : List Byte :=
  be16 x.raw ++ be16 x.corrected ++ [byte x.state.code, byte (x.faultCode.getD 0)] ++ be32 x.stamp.toNat ++ be32 x.age

/-- Part 0 of a STATUS READ (R170). -/
def Gate.statusPart0 (x : Gate) : List Byte :=
  presence (x.left.map Sample.bytes) 14 ++ presence (x.right.map Sample.bytes) 14 ++
  presence (x.opening.map be16) 2 ++ presence (x.skew.map beS16) 2 ++ presence (x.ceiling.map be16) 2 ++
  [flagByte x.excursionReported]

/-- A request in a STATUS READ (R170). -/
def Request.bytes (r : Request) : List Byte :=
  be16 r.target ++ [byte r.level, byte r.origin.code, flagByte r.clampReported, byte r.waitReason.code]

/-- A deferred or carried target in a STATUS READ (R170). -/
def Target.bytes (t : Target) : List Byte := be16 t.target ++ [byte t.level]

/-- A leg in a STATUS READ (R170). -/
def Leg.bytes (l : Leg) : List Byte :=
  be16 l.target ++ [byte l.direction.code] ++ be16 l.speed ++ be32 l.deadline ++
  [byte l.acks.code, byte (pausedCode l.paused)] ++ be32 l.stamp

/-- A hold in a STATUS READ: the further reasons in seven places, zero beyond their count (R170). -/
def Hold.bytes (h : Hold) : List Byte :=
  [byte h.primary.code, byte h.further.length] ++
  ((h.further.map fun (r : HoldReason) => byte r.code) ++ List.replicate 7 0).take 7

/-- The deferred target in HOLD and OUT_OF_SERVICE, the carried target in STOPPING (R170). -/
def Motion.storedTarget : Motion → Option Target
  | .outOfService d => d
  | .hold _ d => d
  | .stopping (.outOfService c) _ _ => c
  | _ => none

/-- The next step, where the state has one (R16). -/
def Motion.next : Motion → Option NextStep
  | .stopping n _ _ => some n
  | _ => none

/-- The hold, where the state has one (R16). -/
def Motion.heldFor : Motion → Option Hold
  | .hold h _ => some h
  | _ => none

/-- Part 1 of a STATUS READ (R170). -/
def Motion.statusPart1 (m : Motion) : List Byte :=
  presence (m.request.map Request.bytes) 6 ++ presence (m.storedTarget.map Target.bytes) 3 ++
  presence (m.leg.map Leg.bytes) 15 ++ presence (m.next.map fun n => [byte n.code]) 1 ++
  presence (m.heldFor.map Hold.bytes) 9

/-- The data of a STATUS READ reply: gate, part, state, contents (R170). -/
def Gate.statusBytes (x : Gate) (g : GateId) (part : Nat) : List Byte :=
  [byte g.val, byte part, byte x.motion.code] ++ (if part = 0 then x.statusPart0 else x.motion.statusPart1)

/-- The seven counters of a port in the order of R171. -/
def Counters.bytes (c : Counters) : List Byte :=
  be16 c.good.toNat ++ be16 c.crcErrors.toNat ++ be16 c.overruns.toNat ++ be16 c.forwarded.toNat ++
  be16 c.routeDrops.toNat ++ be16 c.queueDrops.toNat ++ be16 c.misroutes.toNat

/-- The data of a MISROUTE READ reply (R172). -/
def captureBytes : Option Capture → List Byte
  | none => [0]
  | some c => [1, byte (portCode c.port), addrByte c.src, addrByte c.dst, c.kind] ++ be32 c.stamp.toNat

end Sys2Proof.Machine
end

