-- ==== Sys2Proof/Machine/Tables.lean ====
section
/-! DEFINITION. The Management Unit: TABLE READ and TABLE WRITE of every table with the checks of R165 in their order
and the effects of R167, STATUS READ, COUNTER SNAPSHOT, MISROUTE READ and TIME SET (R161 to R173). Each handler is
given the payload of its frame and makes the one reply (R175). -/

namespace Sys2Proof.Machine

/-! ### The parts of a TABLE WRITE -/

/-- The conditional flag: 0 no, any other value yes (R135). -/
def isConditional (p : List Byte) : Bool := decide (byteAt p 2 ≠ 0)

/-- The expected generation (R136). -/
def expectedGen (p : List Byte) : CountWord := BitVec.ofNat 16 (u16At p 3)

/-- The record fields of a TABLE WRITE (R161). -/
def recordBytes (p : List Byte) : List Byte := p.drop 5

/-- The data of a reply to TABLE WRITE: identifier, index, generation (R165). -/
def writeData (p : List Byte) (gen : CountWord) : List Byte :=
  [byte (byteAt p 0), byte (byteAt p 1)] ++ be16 gen.toNat

/-- The reply to a TABLE WRITE (R165, R175). -/
def State.writeReply (s : State) (p : List Byte) (result : Result) (detail : Nat) (gen : CountWord) : State :=
  s.reply Config.kindTableWrite result detail (writeData p gen)

/-- The reply to a TABLE WRITE that names no record: INVALID, detail 0, with a free value in the generation's place
(R161; log 9). -/
def State.writeNoRecord (s : State) (p : List Byte) : State :=
  { s with freeCount := s.freeCount + 1 }.writeReply p .invalid 0 (Config.freeGeneration s.freeCount)

/-- A refusal of a write: its result and its detail. -/
abbrev Refused := Result × Nat

/-- Check 2: field validation (R165). -/
def fieldCheck (checks : List Bool) : Option Refused := (firstFailing checks).map fun i => (.invalid, i)

/-- Check 3: the generation (R165, R166). -/
def generationCheck (conditional : Bool) (expected gen : CountWord) : Option Refused :=
  if conditional ∧ expected ≠ gen then some (.generation, 0) else none

/-! ### Gate records -/

/-- Check 4: motion-fixed fields while the gate holds a slot (R11, R165). -/
def Gate.runningCheck (x : Gate) (r : GateRecord) : Option Refused :=
  if x.motion.holdsSlot then (x.record.fixedDiffers r).map fun i => (.running, i) else none

/-- A present hoist address is free for a gate and side: UNUSED, or already bound to them (R3). -/
def State.hoistFree (s : State) (g : GateId) (side : Side) (a : Option LinkAddr) : Bool :=
  match a with
  | none => true
  | some a =>
    decide ((s.route a).role = .unused) ||
    (decide ((s.route a).role = .hoist) && decide ((s.route a).binding = some (.hoist g side)))

/-- Check 5 for a gate record (R3, R165). Which detail is answered when both addresses are in use is left open there; the left
address, detail 2, is examined first (DESIGN CHOICE, log 29). -/
def State.hoistsInUse (s : State) (g : GateId) (r : GateRecord) : Option Refused :=
  if !s.hoistFree g .left r.leftHoist then some (.inUse, 2)
  else if !s.hoistFree g .right r.rightHoist then some (.inUse, 3)
  else none

/-- The first check of R165 that refuses a gate record write. -/
def State.judgeGate (s : State) (g : GateId) (p : List Byte) : Option Refused :=
  let raw := RawGate.parse (recordBytes p)
  (fieldCheck (raw.checks s)).or <|
  (generationCheck (isConditional p) (expectedGen p) (s.gate g).generation).or <|
  ((s.gate g).runningCheck raw.record).or (s.hoistsInUse g raw.record)

/-- An entry returned to UNUSED, its pass settings and generation kept (R4, R21, R148). -/
def RouteEntry.unbound (e : RouteEntry) : RouteEntry := { e with role := .unused, binding := none }

/-- An entry bound, its pass settings and generation kept (R4, R21, R148). -/
def RouteEntry.bound (e : RouteEntry) (role : Role) (b : Binding) : RouteEntry :=
  { e with role := role, binding := some b }

/-- The route entries follow a changed address (R4, R21). -/
def State.rebind (s : State) (old new : Option LinkAddr) (role : Role) (b : Binding) : State :=
  if old = new then s
  else
    let s := match old with
      | some a => s.setRoute a (s.route a).unbound
      | none => s
    match new with
    | some a => s.setRoute a ((s.route a).bound role b)
    | none => s

/-- One side of a gate record write: the bindings, and the sample lost with a changed address (R4). -/
def State.rebindHoist (s : State) (g : GateId) (side : Side) (old new : Option LinkAddr) : State :=
  if old = new then s
  else
    let s := s.rebind old new .hoist (.hoist g side)
    s.setGate g ((s.gate g).withSample side none)

/-- A sample's corrected position computed again from its raw position (R5, R13). -/
def Sample.recorrected (x : Sample) (r : GateRecord) (side : Side) : Sample :=
  { x with corrected := r.corrected side x.raw }

/-- Both samples recomputed under the record in force (R5). -/
def Gate.recorrected (x : Gate) : Gate :=
  { x with
    left := x.left.map fun v => v.recorrected x.record .left
    right := x.right.map fun v => v.recorrected x.record .right }

/-- A request with its target lowered to a full travel (R5). -/
def Request.lowered (r : Request) (travel : Nat) : Request := { r with target := min r.target travel }

/-- A stored target lowered to a full travel (R5). -/
def Target.lowered (t : Target) (travel : Nat) : Target := { t with target := min t.target travel }

/-- The request's target and the deferred target lowered (R5). A gate that holds a slot keeps its full_travel
(R11), so its targets stand. -/
def Motion.lowered (m : Motion) (travel : Nat) : Motion :=
  match m with
  | .pending r => .pending (r.lowered travel)
  | .outOfService d => .outOfService (d.map fun t => t.lowered travel)
  | .hold h d => .hold h (d.map fun t => t.lowered travel)
  | m => m

/-- Offsets or full_travel changed (R5). -/
def GateRecord.travelChanged (a b : GateRecord) : Bool :=
  decide (a.leftOffset ≠ b.leftOffset) || decide (a.rightOffset ≠ b.rightOffset) || decide (a.fullTravel ≠ b.fullTravel)

/-- Corrected positions recomputed and targets lowered after a write (R5). -/
def State.retravel (s : State) (g : GateId) (old new : GateRecord) : State :=
  let s := if old.travelChanged new then s.setGate g (s.gate g).recorrected else s
  if new.fullTravel < old.fullTravel then s.setMotion g ((s.gate g).motion.lowered new.fullTravel) else s

/-- A side that the write has made stale hands the gate STALE, the left first (R12, R115, R116; log 13). -/
def State.newlyStale (s : State) (g : GateId) (before : Gate) : State :=
  let one (side : Side) (s : State) : State :=
    if !before.stale side && (s.gate g).stale side then s.fault g .stale else s
  one .right (one .left s)

/-- in_service from no to yes (R80, R70, R99). -/
def State.serviceIn (s : State) (g : GateId) : State :=
  match (s.gate g).motion with
  | .outOfService d => s.makeHold g .stale d
  | .stopping (.outOfService c) l w =>
    match (if s.stopAsserted then none else c) with
    | some t => s.setMotion g (.stopping (.restartLeg (.fresh t.target t.level .station)) l w)
    | none => s.setMotion g (.stopping .idle l w)
  | _ => s

/-- in_service from yes to no (R81, R70). -/
def State.serviceOut (s : State) (g : GateId) : State :=
  match (s.gate g).motion with
  | .idle => s.enterOutOfService g none
  | .pending r => (s.leaveList g .idle).enterOutOfService g (some r.toTarget)
  | .starting r l _ => s.enterStopping g (.outOfService (some r.toTarget)) l
  | .travelling r l => s.enterStopping g (.outOfService (some r.toTarget)) l
  | .stopping .idle l w => s.setMotion g (.stopping (.outOfService none) l w)
  | .stopping (.restartLeg r) l w => s.setMotion g (.stopping (.outOfService (some r.toTarget)) l w)
  | .stopping (.requeue r) l w => s.setMotion g (.stopping (.outOfService (some r.toTarget)) l w)
  | .hold _ d => s.enterOutOfService g d
  | _ => s

/-- The effect of a changed in_service (R80, R81). -/
def State.serviceChange (s : State) (g : GateId) (old new : Bool) : State :=
  match old, new with
  | false, true => s.serviceIn g
  | true, false => s.serviceOut g
  | _, _ => s

/-- The effects of an accepted gate record write, in the order of R167 (R12). -/
def State.writeGate (s : State) (g : GateId) (new : GateRecord) : State :=
  let before := s.gate g
  let old := before.record
  let s := s.setGate g { before with record := new, generation := before.generation + 1 }
  let s := (s.rebindHoist g .left old.leftHoist new.leftHoist).rebindHoist g .right old.rightHoist new.rightHoist
  let s := s.retravel g old new
  let moved := decide (before.opening ≠ (s.gate g).opening)
  let s := s.newlyStale g before
  let s := s.serviceChange g old.inService new.inService
  let s := s.setCeiling g (s.computeCeiling (s.gate g))
  let s := s.ceilingCheck g
  let s := if moved || decide (old.inService ≠ new.inService) then s.tellNeighbours g else s
  s.evaluateNow

/-- The record that an index of a table's range names (R161). -/
def indexOf (n i : Nat) : Option (Fin n) := if h : i < n then some ⟨i, h⟩ else none

/-- TABLE WRITE of a gate record (R165, R167). -/
def State.takeWriteGate (s : State) (p : List Byte) : State :=
  match (if byteAt p 0 = 0 then indexOf 12 (byteAt p 1) else none) with
  | none => s.writeNoRecord p
  | some g =>
    match s.judgeGate g p with
    | some (result, detail) => s.writeReply p result detail (s.gate g).generation
    | none =>
      (s.writeGate g (RawGate.parse (recordBytes p)).record).writeReply p .accepted 0 ((s.gate g).generation + 1)

/-! ### Curves -/

/-- Some in-service gate names the curve (R36). -/
def State.curveInUse (s : State) (c : Fin 4) : Bool :=
  allGates.any fun g => (s.record g).inService && decide ((s.record g).curve = c)

/-- An accepted curve write: the list replaced, the generation advanced, the ceilings recomputed (R35, R37). -/
def State.writeCurve (s : State) (c : Fin 4) (points : List Breakpoint) : State :=
  { s with curves := s.curves.set c { points := points, generation := (s.curve c).generation + 1 } }.ceilingPath

/-- The breakpoint count of a curve's first part (R162). -/
def curveCount (p : List Byte) : Nat := byteAt (recordBytes p) 0

/-- The breakpoints that a curve's first part carries: up to eight (R162). -/
def firstPoints (p : List Byte) : List (Int × Nat) := rawPoints (recordBytes p) 1 (min (curveCount p) 8)

/-- The first check of R165 that refuses a curve's first part (R36, R168). -/
def State.judgeFirstPart (s : State) (c : Fin 4) (p : List Byte) : Option Refused :=
  (fieldCheck (countOk (curveCount p) :: pointChecks none (firstPoints p))).or <|
  (generationCheck (isConditional p) (expectedGen p) (s.curve c).generation).or <|
  if curveCount p = 0 ∧ s.curveInUse c then some (.inUse, 1) else none

/-- TABLE WRITE of a curve's first part (R168): a whole write, or staged. -/
def State.takeWriteFirstPart (s : State) (p : List Byte) : State :=
  match (if byteAt p 0 = 1 then indexOf 4 (byteAt p 1) else none) with
  | none => s.writeNoRecord p
  | some c =>
    match s.judgeFirstPart c p with
    | some (result, detail) => s.writeReply p result detail (s.curve c).generation
    | none =>
      if curveCount p ≤ 8 then
        (s.writeCurve c (toPoints (firstPoints p))).writeReply p .accepted 0 ((s.curve c).generation + 1)
      else
        { s with staging := some {
            curve := c
            count := curveCount p
            points := toPoints (firstPoints p)
            conditional := isConditional p
            expected := expectedGen p } }.writeReply p .deferred 0 (s.curve c).generation

/-- The breakpoints that a curve's second part carries for a staged count (R162, R169). -/
def secondPoints (t : Staging) (p : List Byte) : List (Int × Nat) := rawPoints (recordBytes p) 0 (t.count - 8)

/-- The checks of a second part, from index 18 on; the first 17 passed when the first part was staged (R169). -/
def secondChecks (t : Staging) (p : List Byte) : List Bool :=
  List.replicate 17 true ++ pointChecks (t.points.getLast?.map Breakpoint.head) (secondPoints t p)

/-- The first of checks 2 and 3 of R165 that refuses a second part (R169). -/
def State.judgeSecondPart (s : State) (c : Fin 4) (t : Staging) (p : List Byte) : Option Refused :=
  (fieldCheck (secondChecks t p)).or (generationCheck t.conditional t.expected (s.curve c).generation)

/-- The staging record when it holds a first part of this curve (R169). -/
def State.stagedFor (s : State) (c : Fin 4) : Option Staging :=
  match s.staging with
  | some t => if t.curve = c then some t else none
  | none => none

/-- TABLE WRITE of a curve's second part (R169). -/
def State.takeWriteSecondPart (s : State) (p : List Byte) : State :=
  match (if byteAt p 0 = 2 then indexOf 4 (byteAt p 1) else none) with
  | none => s.writeNoRecord p
  | some c =>
    match s.stagedFor c with
    | none => s.writeReply p .invalid 0 (s.curve c).generation
    | some t =>
      match s.judgeSecondPart c t p with
      | some (result, detail) =>
        { s with staging := none }.writeReply p result detail (s.curve c).generation
      | none =>
        ({ s with staging := none }.writeCurve c (t.points ++ toPoints (secondPoints t p))).writeReply p .accepted 0
          ((s.curve c).generation + 1)

/-! ### Gauges -/

/-- Check 5 for a gauge record (R20). -/
def State.gaugeInUse (s : State) (n : GaugeId) (a : Option LinkAddr) : Option Refused :=
  match a with
  | none => none
  | some a =>
    if (s.route a).role = .unused ∨ ((s.route a).role = .gauge ∧ (s.route a).binding = some (.gauge n)) then none
    else some (.inUse, 3)

/-- The first check of R165 that refuses a gauge record write. -/
def State.judgeGauge (s : State) (n : GaugeId) (p : List Byte) : Option Refused :=
  let raw := RawGauge.parse (recordBytes p)
  (fieldCheck (raw.checks s.ownAddress)).or <|
  (generationCheck (isConditional p) (expectedGen p) (s.gauge n).generation).or (s.gaugeInUse n raw.record.address)

/-- The write keeps the gauge's good value: only sample_window may have changed (R21). -/
def GaugeRecord.keepsValue (a b : GaugeRecord) : Bool := decide ({ a with sampleWindow := b.sampleWindow } = b)

/-- The sides whose value is recomputed after a gauge write, UPSTREAM first (R21; log 18). -/
def banksOf (a b : Bank) : List Bank := if a = b then [a] else [.upstream, .downstream]

/-- The effects of an accepted gauge record write (R21, R167). A gauge whose good value is discarded has age 0 again, not
counting, as at cold reset (R33; log 18). -/
def State.writeGauge (s : State) (n : GaugeId) (new : GaugeRecord) : State :=
  let old := s.gauge n
  let s := s.rebind old.record.address new.address .gauge (.gauge n)
  let s := s.setGauge n
    { record := new
      generation := old.generation + 1
      value := if old.record.keepsValue new then old.value else none
      age := if old.record.keepsValue new then old.age else 0 }
  s.relevel (banksOf old.record.bank new.bank)

/-- TABLE WRITE of a gauge record (R165, R167). A write that names no table but has this length is answered here too
(R161; log 11). -/
def State.takeWriteGauge (s : State) (p : List Byte) : State :=
  match (if byteAt p 0 = 3 then indexOf 4 (byteAt p 1) else none) with
  | none => s.writeNoRecord p
  | some n =>
    match s.judgeGauge n p with
    | some (result, detail) => s.writeReply p result detail (s.gauge n).generation
    | none =>
      (s.writeGauge n (RawGauge.parse (recordBytes p)).record).writeReply p .accepted 0 ((s.gauge n).generation + 1)

/-! ### Route entries -/

/-- The first check of R165 that refuses a route write (R149). -/
def State.judgeRoute (s : State) (a : LinkAddr) (p : List Byte) : Option Refused :=
  let e := s.route a
  (fieldCheck (routeChecks e.role (recordBytes p))).or <|
  (generationCheck (isConditional p) (expectedGen p) e.generation).or <|
  if !e.role.writable ∧ roleOf (byteAt (recordBytes p) 0) ≠ some e.role then some (.inUse, 1) else none

/-- The entry after an accepted route write: the pass settings, and the role where it is UNUSED or OTHER; the binding
stays (R149). -/
def RouteEntry.written (e : RouteEntry) (r : List Byte) : RouteEntry :=
  { e with
    role := (roleOf (byteAt r 0)).getD e.role
    passDown := passDownOf (byteAt r 1)
    passUp := passUpOf (byteAt r 2)
    generation := e.generation + 1 }

/-- TABLE WRITE of a route entry (R149, R165). -/
def State.takeWriteRoute (s : State) (p : List Byte) : State :=
  match (if byteAt p 0 = 4 then indexOf 64 (byteAt p 1) else none) with
  | none => s.writeNoRecord p
  | some a =>
    match s.judgeRoute a p with
    | some (result, detail) => s.writeReply p result detail (s.route a).generation
    | none =>
      (s.setRoute a ((s.route a).written (recordBytes p))).writeReply p .accepted 0 ((s.route a).generation + 1)

/-! ### Settings -/

/-- Check 6: K below the slots in use (R84, R163). -/
def State.busyCheck (s : State) (k : Settings) : Option Refused :=
  if k.slots < s.slotsInUse then some (.busy, 1) else none

/-- The first check of R165 that refuses a settings write. -/
def State.judgeSettings (s : State) (p : List Byte) : Option Refused :=
  (fieldCheck (settingsChecks (recordBytes p))).or <|
  (generationCheck (isConditional p) (expectedGen p) s.settingsGen).or (s.busyCheck (parseSettings (recordBytes p)))

/-- The silence timer after its window is set: OFF, or RUNNING from the full window (R101, R102). -/
def silenceFor (window : Nat) : Silence := if window = 0 then .off else .running window

/-- What changed settings do to the Level Unit (R32). -/
def State.relevelFor (s : State) (old new : Settings) : State :=
  if old.gaugeAgree ≠ new.gaugeAgree then s.relevel [.upstream, .downstream]
  else if old.reverseLimit ≠ new.reverseLimit ∨ old.reverseHyst ≠ new.reverseHyst then s.newHead s.head
  else s

/-- The effects of an accepted settings write, in the order of R163. -/
def State.writeSettings (s : State) (new : Settings) : State :=
  let old := s.settings
  let s := { s with
    settings := new
    settingsGen := s.settingsGen + 1
    silence := if old.silenceWindow = new.silenceWindow then s.silence else silenceFor new.silenceWindow }
  let s := s.relevelFor old new
  if old.slots = new.slots ∧ old.priorityMask = new.priorityMask then s else s.evaluateNow

/-- TABLE WRITE of the settings record (R163, R165). -/
def State.takeWriteSettings (s : State) (p : List Byte) : State :=
  if byteAt p 0 = 5 ∧ byteAt p 1 = 0 then
    match s.judgeSettings p with
    | some (result, detail) => s.writeReply p result detail s.settingsGen
    | none =>
      (s.writeSettings (parseSettings (recordBytes p))).writeReply p .accepted 0 (s.settingsGen + 1)
  else s.writeNoRecord p

/-! ### Reads -/

/-- The generation and record that a TABLE READ returns; none when identifier or index name no record
(R161, R162, R164). -/
def State.readRecord (s : State) (id ix : Nat) : Option (CountWord × List Byte) :=
  match id with
  | 0 => (indexOf 12 ix).map fun g => ((s.gate g).generation, (s.record g).bytes)
  | 1 => (indexOf 4 ix).map fun c => ((s.curve c).generation, (s.curve c).firstBytes)
  | 2 => (indexOf 4 ix).map fun c => ((s.curve c).generation, (s.curve c).secondBytes)
  | 3 => (indexOf 4 ix).map fun n => ((s.gauge n).generation, (s.gauge n).record.bytes)
  | 4 => (indexOf 64 ix).map fun a =>
    ((s.route a).generation, (s.route a).bytes ++ bindingBytes (s.route a).binding)
  | 5 => if ix = 0 then some (s.settingsGen, s.settings.bytes) else none
  | _ => none

/-- TABLE READ (R161, R164). -/
def State.takeRead (s : State) (p : List Byte) : State :=
  match s.readRecord (byteAt p 0) (byteAt p 1) with
  | none => s.reply Config.kindTableRead .invalid 0 []
  | some (gen, record) =>
    s.reply Config.kindTableRead .accepted 0
      ([byte (byteAt p 0), byte (byteAt p 1)] ++ be16 gen.toNat ++ record)

/-- The part field of a STATUS READ, 0 when absent (R136). -/
def statusPart (p : List Byte) : Nat := if p.length = 2 then byteAt p 1 else 0

/-- STATUS READ (R170). -/
def State.takeStatus (s : State) (p : List Byte) : State :=
  if h : byteAt p 0 < 12 then
    if statusPart p ≤ 1 then
      s.reply Config.kindStatusRead .accepted 0
        ((s.gate ⟨byteAt p 0, h⟩).statusBytes ⟨byteAt p 0, h⟩ (statusPart p))
    else s.reply Config.kindStatusRead .invalid 2 []
  else s.reply Config.kindStatusRead .invalid 1 []

/-- COUNTER SNAPSHOT (R171). -/
def State.takeSnapshot (s : State) (p : List Byte) : State :=
  let data := s.spCounters.bytes ++ s.fpCounters.bytes
  let s := if byteAt p 0 = 0 then s else { s with spCounters := .zero, fpCounters := .zero }
  s.reply Config.kindCounterSnapshot .accepted 0 data

/-- MISROUTE READ (R159, R172). -/
def State.takeMisrouteRead (s : State) : State :=
  { s with capture := none }.reply Config.kindMisrouteRead .accepted 0 (captureBytes s.capture)

/-- TIME SET (R134, R173). -/
def State.takeTimeSet (s : State) (p : List Byte) : State :=
  { s with tideClock := BitVec.ofNat 32 (u32At p 0) }.reply Config.kindTimeSet .accepted 0 (be32 s.tideClock.toNat)

end Sys2Proof.Machine
end

