-- ==== Sys2Proof/Machine/Sorter.lean ====
section
/-! DEFINITION. The Frame Sorter: how a command takes the oldest frame of a receive buffer (R133, R178), and what
becomes of a frame that is no request and no owned report (R151 to R160). -/

namespace Sys2Proof.Machine

/-- A command takes the oldest SP frame when the reply queue has a free place and the frame is of the command's
row; otherwise its event does not occur and nothing changes (R133, R141, R151; log 1, log 3). -/
def State.takeStation (s : State) (row : StationRow) (handle : State → RxFrame → State) : State :=
  match s.spRx with
  | [] => s
  | f :: rest =>
    if s.replies.length < Config.replyFrames ∧ s.stationRow f.frame = row then
      handle { s with spRx := rest } f
    else s

/-- A refusal of a direct order to a hoist: dropped, counted, and answered with the bound gate and side (R152). -/
def State.refuseDirect (s : State) (f : Frame) (result : Result) (g : GateId) (side : Side) : State :=
  (s.count .sp .routeDrops).reply f.kind result g.val [byte (sideCode side)]

/-- The gate is PENDING or holds a slot, so a NODE RESET to its hoist is refused (R152). -/
def Motion.busy (m : Motion) : Bool := m.isPending || m.holdsSlot

/-- A station frame to a supervised hoist (R152, R153). -/
def State.sortDirect (s : State) (f : Frame) (g : GateId) (side : Side) : State :=
  if f.kind = Config.kindHalt then s.joinDown f
  else if f.kind = Config.kindNodeReset then
    if (s.gate g).motion.busy then s.refuseDirect f .running g side else s.joinDown f
  else s.refuseDirect f .refusedDirect g side

/-- A station frame to the part that is no well-formed request (R151). -/
def State.sortUnfit (s : State) (f : Frame) : State :=
  if f.kind ∈ requestKinds then s.reply f.kind .badLength f.payload.length []
  else s.reply f.kind .unknownKind 0 []

/-- A station frame that is no well-formed request, by source and destination role (R151 to R154, R158). -/
def State.sortStation (s : State) (f : RxFrame) : State :=
  let e := s.route f.frame.dest
  if f.frame.source ≠ 0 then s.misroute .sp f
  else
    match e.role, e.binding with
    | .self, _ => s.sortUnfit f.frame
    | .hoist, some (.hoist g side) => s.sortDirect f.frame g side
    | .gauge, _ => s.joinDown f.frame
    | .other, _ =>
      match e.passDown with
      | .forward => s.joinDown f.frame
      | .drop => s.count .sp .routeDrops
    | _, _ => s.misroute .sp f

/-- The second step of an owned report: to the station it is sent on or consumed as pass_up says; to the part it is
not sent on (R155, R156). -/
def State.passReport (s : State) (e : RouteEntry) (f : Frame) : State :=
  if f.dest = 0 then
    match e.passUp with
    | .forward => s.joinUp f
    | .consume => s
  else s

/-- A command takes the oldest FP frame when it is of the command's row; otherwise its event does not occur and
nothing changes (R133, R155; log 1, log 3). `owner` is what the row's block does with the frame. -/
def State.takeReport (s : State) (owner : FieldRow → Option (State → RxFrame → State)) : State :=
  match s.fpRx with
  | [] => s
  | f :: rest =>
    match owner (s.fieldRow f.frame) with
    | some act => (act { s with fpRx := rest } f).passReport (s.route f.frame.source) f.frame
    | none => s

/-- A field frame to the station that no block takes, by pass_up (R155, R157). -/
def State.passUnowned (s : State) (e : RouteEntry) (f : Frame) : State :=
  match e.passUp with
  | .forward => s.joinUp f
  | .consume => s.count .fp .routeDrops

/-- A field frame that is no owned report, by source role and destination (R155 to R158). -/
def State.sortField (s : State) (f : RxFrame) : State :=
  let e := s.route f.frame.source
  match e.role with
  | .hoist =>
    if f.frame.dest = 0 then s.passUnowned e f.frame
    else if f.frame.dest = s.ownAddress then s.count .fp .routeDrops
    else s.misroute .fp f
  | .gauge =>
    if f.frame.dest = 0 then s.passUnowned e f.frame
    else if f.frame.dest = s.ownAddress then s.count .fp .routeDrops
    else s.misroute .fp f
  | .other => if f.frame.dest = 0 then s.passUnowned e f.frame else s.misroute .fp f
  | _ => s.misroute .fp f

/-- FIELD_FRAME_SORT takes the oldest FP frame when it is no owned report (R155). -/
def State.takeUnowned (s : State) : State :=
  match s.fpRx with
  | [] => s
  | f :: rest => if s.fieldRow f.frame = .sort then { s with fpRx := rest }.sortField f else s

end Sys2Proof.Machine
end

