-- ==== Sys2Proof/Machine/MotionCommands.lean ====
section
/-! DEFINITION. The meanings of MOVE, STOP, GROUP_SET, GROUP_STOP, GROUP_INVALID_ACTION and CLEAR_HOLD: each takes its
frame from the SP receive buffer (R151). -/

namespace Sys2Proof.Machine

/-- MOVE (R57 to R60). -/
def execMove (s : State) : Host.Outcome State Fault Refusal :=
  .next (s.takeStation .move fun s f => s.takeMove f.frame.payload)

/-- STOP (R61, R70). -/
def execStop (s : State) : Host.Outcome State Fault Refusal :=
  .next (s.takeStation .stop fun s f => s.takeStop f.frame.payload)

/-- GROUP_SET (R94, R95). -/
def execGroupSet (s : State) : Host.Outcome State Fault Refusal :=
  .next (s.takeStation .groupSet fun s f => s.takeGroupSet f.frame.payload)

/-- GROUP_STOP (R94, R96). -/
def execGroupStop (s : State) : Host.Outcome State Fault Refusal :=
  .next (s.takeStation .groupStop fun s f => s.takeGroupStop f.frame.payload)

/-- GROUP_INVALID_ACTION (R94). -/
def execGroupInvalidAction (s : State) : Host.Outcome State Fault Refusal :=
  .next (s.takeStation .groupInvalid fun s _ => s.takeGroupInvalid)

/-- CLEAR_HOLD (R77, R78). -/
def execClearHold (s : State) : Host.Outcome State Fault Refusal :=
  .next (s.takeStation .clearHold fun s f => s.takeClearHold f.frame.payload)

end Sys2Proof.Machine
end

