-- ==== Sys2Proof/Machine/Receiver.lean ====
section
/-! DEFINITION. The two receivers: hunting, collecting, the CRC check, the rescan after a discard, and the receive
buffers (R101, R132, R133). -/

namespace Sys2Proof.Machine

/-- How a candidate ends: a good frame, or discarded as bad (R132). -/
inductive Heard where
  | good (f : RxFrame)
  | bad
  deriving DecidableEq, Repr

/-- The frame of a candidate's characters after its length: destination, source, kind, payload and two CRC
characters, when the CRC checks (R129, R130). -/
def checkCandidate (len : Byte) (chars : List Byte) : Option Frame :=
  match chars with
  | dst :: src :: kind :: rest =>
    let f : Frame := { dst := dst, src := src, kind := kind, payload := rest.take len.toNat }
    if rest.drop len.toNat = crcBytes (crc (len :: dst :: src :: kind :: f.payload)) then some f else none
  | _ => none

/-- The receiver works through the characters it holds: it passes over what is no sync, discards bad candidates and
looks again from the character after their sync, takes good frames, and stops at a candidate that needs more
characters. It answers what it still holds and what it heard, in order (R132). `fuel` is above the number of
characters. -/
def scan : Nat → List RxChar → List RxChar × List Heard
  | 0, cs => (cs, [])
  | _, [] => ([], [])
  | fuel + 1, c :: rest =>
    if c.data ≠ Config.sync then scan fuel rest
    else
      match rest with
      | [] => ([c], [])
      | l :: body =>
        if 48 < l.data.toNat then
          let (held, heard) := scan fuel rest
          (held, .bad :: heard)
        else if body.length < l.data.toNat + 5 then (c :: rest, [])
        else
          match checkCandidate l.data ((body.take (l.data.toNat + 5)).map RxChar.data) with
          | some f =>
            let (held, heard) := scan fuel (body.drop (l.data.toNat + 5))
            (held, .good { frame := f, stamp := c.stamp } :: heard)
          | none =>
            let (held, heard) := scan fuel rest
            (held, .bad :: heard)

/-- The characters that a port's receiver holds. -/
def State.receiver (s : State) : Port → List RxChar
  | .sp => s.spReceiver
  | .fp => s.fpReceiver

/-- The characters that a port's receiver holds, replaced. -/
def State.setReceiver (s : State) (port : Port) (cs : List RxChar) : State :=
  match port with
  | .sp => { s with spReceiver := cs }
  | .fp => { s with fpReceiver := cs }

/-- A port's receive buffer. -/
def State.buffer (s : State) : Port → List RxFrame
  | .sp => s.spRx
  | .fp => s.fpRx

/-- The number of frames a port's receive buffer holds at most (R133). -/
def bufferFrames : Port → Nat
  | .sp => Config.spBufferFrames
  | .fp => Config.fpBufferFrames

/-- A port's receive buffer, replaced. -/
def State.setBuffer (s : State) (port : Port) (fs : List RxFrame) : State :=
  match port with
  | .sp => { s with spRx := fs }
  | .fp => { s with fpRx := fs }

/-- A good frame on SP restarts the silence timer (R101). -/
def State.hearStation (s : State) (port : Port) : State :=
  match port with
  | .sp => { s with silence := silenceFor s.settings.silenceWindow }
  | .fp => s

/-- A good frame is offered to the receive buffer, or dropped as an overrun (R133). -/
def State.offer (s : State) (port : Port) (f : RxFrame) : State :=
  if (s.buffer port).length < bufferFrames port then s.setBuffer port (s.buffer port ++ [f])
  else s.count port .overruns

/-- What a candidate's end does (R101, R132, R133). -/
def State.hear (s : State) (port : Port) (h : Heard) : State :=
  match h with
  | .good f => ((s.count port .good).hearStation port).offer port f
  | .bad => s.count port .crcErrors

/-- The receiver works through some characters, and holds the rest (R132). -/
def State.rescan (s : State) (port : Port) (cs : List RxChar) : State :=
  let (held, heard) := scan (cs.length + 1) cs
  heard.foldl (fun s h => s.hear port h) (s.setReceiver port held)

/-- Characters arrive at a port, each noted with the present Tide Clock value (R132; log 5). -/
def State.receive (s : State) (port : Port) (chars : List Byte) : State :=
  s.rescan port (s.receiver port ++ chars.map fun c => { data := c, stamp := s.tideClock })

/-- A gap abandons the candidate, which is discarded as bad; the characters after its sync are looked at again
(R132; log 6). -/
def State.abandon (s : State) (port : Port) : State :=
  match s.receiver port with
  | [] => s
  | _ :: rest => (s.hear port .bad).rescan port rest

end Sys2Proof.Machine
end

