-- ==== Sys2Proof/Machine/ReceiveCommands.lean ====
section
/-! DEFINITION. The meanings of CANDIDATE_SYNC, LENGTH_OVER_48, FRAME_CHECK and RECEIVE_GAP_ABANDON (R132): characters,
or a gap, at a receiver. -/

namespace Sys2Proof.Machine

/-- CANDIDATE_SYNC (R132): a sync character arrives. A hunting receiver begins a candidate with it; a collecting one
holds it as the next character of its candidate. -/
def execCandidateSync (port : Port) (s : State) : Host.Outcome State Fault Refusal :=
  .next (s.receive port [Config.sync])

/-- LENGTH_OVER_48 (R132): the length character arrives, and with a value above 48 ends the candidate as bad. -/
def execLengthOver48 (port : Port) (length : Byte) (s : State) : Host.Outcome State Fault Refusal :=
  .next (s.receive port [length])

/-- FRAME_CHECK (R132, R133): characters arrive, and the candidate that they complete is checked. Characters that complete
no candidate are held (log 5). -/
def execFrameCheck (port : Port) (chars : List Byte) (s : State) : Host.Outcome State Fault Refusal :=
  .next (s.receive port chars)

/-- RECEIVE_GAP_ABANDON (R132). -/
def execReceiveGapAbandon (port : Port) (s : State) : Host.Outcome State Fault Refusal :=
  .next (s.abandon port)

end Sys2Proof.Machine
end

