-- ==== Sys2Proof/Machine/Restart.lean ====
section
/-! DEFINITION. The two resets: the cold reset (R18, R33, R82, R104, R126, R144, R147, R177, R184, R188) and the warm
restart of a RESTART request (R34, R42, R83, R105, R127, R145, R174). -/

namespace Sys2Proof.Machine

/-- A cold reset: every block in its cold state, the straps sampled. The command queue is outside the part, and the
count of free values used goes on (log 28). -/
def State.coldReset (s : State) (addrStrap : BitVec 6) (rateHigh stopLow : Bool) : State :=
  { State.cold addrStrap rateHigh stopLow with pending := s.pending, freeCount := s.freeCount }

/-- The state that a warm restart sets a gate to (R83): everything but record, samples and ceiling is discarded. -/
def State.restartGate (s : State) (g : GateId) : State :=
  let s := s.setExcursion g false
  if (s.record g).inService then
    if (s.gate g).freshAtRest then s.setMotion g .idle else s.makeHold g .stale none
  else s.setMotion g (.outOfService none)

/-- Steps 1 and 2 of a RESTART, and the queues and counts that the blocks empty first (R105, R127, R145, R174). The silence
timer runs from the full window anew, also when it has counted on, or has expired, while the RESTART waited in the SP receive
buffer; R105 says too that the restart leaves the timer as the RESTART frame set it (DESIGN CHOICE, log 30). -/
def State.emptied (s : State) : State :=
  { s with
    notices := []
    overflow := false
    staging := none
    capture := none
    orderQueue := []
    upQueue := []
    downQueue := []
    slotsInUse := 0
    grantCounter := 0
    waiting := []
    silence := silenceFor s.settings.silenceWindow }

/-- Both disagreement flags cleared, and the mode re-evaluated from the head pair held (R34). -/
def State.restartLevel (s : State) : State :=
  { s with
    upstream := { s.upstream with disagree := false }
    downstream := { s.downstream with disagree := false } }.newHead s.head

/-- The warm restart of the whole part, up to the reply (R174). The HALTs go to the gates that held a slot; the holds
are made before the excursion checks, each of which has the evaluation of its own join (log 15). -/
def State.warmRestart (s : State) : State :=
  let moving := allGates.filter fun g => (s.gate g).motion.holdsSlot
  let s := s.emptied.sweep moving State.haltGate
  let s := (s.sweep allGates State.restartGate).restartLevel
  let s := s.recomputeCeilings.1
  s.sweep allGates State.checkExcursionOf

end Sys2Proof.Machine
end

