-- ==== Sys2Proof/Machine/ResetCommands.lean ====
section
/-! DEFINITION. The meanings of COLD_RESET, RESTART, STOP_N_ASSERTION and STOP_N_RELEASE. -/

namespace Sys2Proof.Machine

/-- COLD_RESET (R18, R33, R42, R82, R104, R126, R144, R147, R177, R184, R188). -/
def execColdReset (addrStrap : BitVec 6) (rateHigh stopLow : Bool) (s : State) : Host.Outcome State Fault Refusal :=
  .next (s.coldReset addrStrap rateHigh stopLow)

/-- RESTART (R174): the warm restart, and its reply at the tail. -/
def execRestart (s : State) : Host.Outcome State Fault Refusal :=
  .next (s.takeStation .restart fun s _ => s.warmRestart.reply Config.kindRestart .accepted 0 [])

/-- STOP_N_ASSERTION (R97, R98). -/
def execStopNAssertion (s : State) : Host.Outcome State Fault Refusal :=
  .next s.assertStop

/-- STOP_N_RELEASE (R97, R100). -/
def execStopNRelease (s : State) : Host.Outcome State Fault Refusal :=
  .next s.releaseStop

end Sys2Proof.Machine
end

