-- ==== Sys2Proof/Machine/SorterCommands.lean ====
section
/-! DEFINITION. The meanings of STATION_FRAME_SORT, FIELD_FRAME_SORT, POSITION, ACK and LEVEL. -/

namespace Sys2Proof.Machine

/-- STATION_FRAME_SORT (R151 to R154, R158). -/
def execStationFrameSort (s : State) : Host.Outcome State Fault Refusal :=
  .next (s.takeStation .sort State.sortStation)

/-- FIELD_FRAME_SORT (R155 to R158). -/
def execFieldFrameSort (s : State) : Host.Outcome State Fault Refusal :=
  .next s.takeUnowned

/-- The Gate Sequencer takes a POSITION frame (R109, R155). -/
def positionOwner : FieldRow → Option (State → RxFrame → State)
  | .position g side => some fun s f => s.takePosition g side f.frame.payload f.stamp
  | _ => none

/-- The Gate Sequencer takes an ACK frame (R111, R155). -/
def ackOwner : FieldRow → Option (State → RxFrame → State)
  | .ack g side => some fun s f => s.takeAck g side f.frame.payload
  | _ => none

/-- The Level Unit takes a LEVEL frame (R22, R155). -/
def levelOwner : FieldRow → Option (State → RxFrame → State)
  | .level n => some fun s f => s.takeLevel n f.frame.payload
  | _ => none

/-- POSITION (R109, R110, R155, R156). -/
def execPosition (s : State) : Host.Outcome State Fault Refusal :=
  .next (s.takeReport positionOwner)

/-- ACK (R111, R112, R155, R156). -/
def execAck (s : State) : Host.Outcome State Fault Refusal :=
  .next (s.takeReport ackOwner)

/-- LEVEL (R22, R23, R155, R156). -/
def execLevel (s : State) : Host.Outcome State Fault Refusal :=
  .next (s.takeReport levelOwner)

end Sys2Proof.Machine
end

