-- ==== Sys2Proof/Machine/TableCommands.lean ====
section
/-! DEFINITION. The meanings of TABLE_READ, the six TABLE_WRITEs, STATUS_READ, COUNTER_SNAPSHOT, MISROUTE_READ and
TIME_SET: each takes its frame from the SP receive buffer (R151). -/

namespace Sys2Proof.Machine

/-- TABLE_READ (R161, R164). -/
def execTableRead (s : State) : Host.Outcome State Fault Refusal :=
  .next (s.takeStation .tableRead fun s f => s.takeRead f.frame.payload)

/-- TABLE_WRITE_GATE (R165, R167). -/
def execTableWriteGate (s : State) : Host.Outcome State Fault Refusal :=
  .next (s.takeStation .writeGate fun s f => s.takeWriteGate f.frame.payload)

/-- TABLE_WRITE_CURVE_FIRST_PART (R165, R168). -/
def execTableWriteCurveFirstPart (s : State) : Host.Outcome State Fault Refusal :=
  .next (s.takeStation .writeFirstPart fun s f => s.takeWriteFirstPart f.frame.payload)

/-- TABLE_WRITE_CURVE_SECOND_PART (R165, R169). -/
def execTableWriteCurveSecondPart (s : State) : Host.Outcome State Fault Refusal :=
  .next (s.takeStation .writeSecondPart fun s f => s.takeWriteSecondPart f.frame.payload)

/-- TABLE_WRITE_GAUGE (R20, R21, R165). -/
def execTableWriteGauge (s : State) : Host.Outcome State Fault Refusal :=
  .next (s.takeStation .writeGauge fun s f => s.takeWriteGauge f.frame.payload)

/-- TABLE_WRITE_ROUTE (R149, R165). -/
def execTableWriteRoute (s : State) : Host.Outcome State Fault Refusal :=
  .next (s.takeStation .writeRoute fun s f => s.takeWriteRoute f.frame.payload)

/-- TABLE_WRITE_SETTINGS (R163, R165). -/
def execTableWriteSettings (s : State) : Host.Outcome State Fault Refusal :=
  .next (s.takeStation .writeSettings fun s f => s.takeWriteSettings f.frame.payload)

/-- STATUS_READ (R170). -/
def execStatusRead (s : State) : Host.Outcome State Fault Refusal :=
  .next (s.takeStation .statusRead fun s f => s.takeStatus f.frame.payload)

/-- COUNTER_SNAPSHOT (R171). -/
def execCounterSnapshot (s : State) : Host.Outcome State Fault Refusal :=
  .next (s.takeStation .counterSnapshot fun s f => s.takeSnapshot f.frame.payload)

/-- MISROUTE_READ (R172). -/
def execMisrouteRead (s : State) : Host.Outcome State Fault Refusal :=
  .next (s.takeStation .misrouteRead fun s _ => s.takeMisrouteRead)

/-- TIME_SET (R173). -/
def execTimeSet (s : State) : Host.Outcome State Fault Refusal :=
  .next (s.takeStation .timeSet fun s f => s.takeTimeSet f.frame.payload)

end Sys2Proof.Machine
end

