-- ==== Sys2Proof/Machine/Transmit.lean ====
section
/-! DEFINITION. The transmit arbiters of the two ports (R107, R140, R141, R181). -/

namespace Sys2Proof.Machine

/-- The SP transmitter is free: the arbiter hands it the oldest reply, else the oldest notice, else the oldest frame
of the up queue; with nothing waiting the line idles (R140, R141, R181; log 7). -/
def State.transmitStation (s : State) : State :=
  match s.replies, s.notices, s.upQueue with
  | r :: rest, _, _ => { s with replies := rest, spTx := some (r.frame s.ownAddress).bytes }
  | [], n :: rest, _ =>
    { s with notices := rest, overflow := false, spTx := some (n.frame s.ownAddress s.overflow).bytes }
  | [], [], f :: rest => { s with upQueue := rest, spTx := some f.bytes }
  | [], [], [] => { s with spTx := none }

/-- The FP transmitter is free: the arbiter hands it the oldest HALT, else the oldest order, else the oldest frame of
the down queue; with nothing waiting the line idles (R107, R140; log 7). -/
def State.transmitField (s : State) : State :=
  match s.haltQueue, s.orderQueue, s.downQueue with
  | a :: rest, _, _ => { s with haltQueue := rest, fpTx := some (haltFrame s.ownAddress a).bytes }
  | [], o :: rest, _ => { s with orderQueue := rest, fpTx := some (o.frame s.ownAddress).bytes }
  | [], [], f :: rest => { s with downQueue := rest, fpTx := some f.bytes }
  | [], [], [] => { s with fpTx := none }

end Sys2Proof.Machine
end

