-- ==== Sys2Proof/Machine/TransmitCommands.lean ====
section
/-! DEFINITION. The meanings of SP_TRANSMIT and FP_TRANSMIT. -/

namespace Sys2Proof.Machine

/-- SP_TRANSMIT (R140, R141, R181). -/
def execSpTransmit (s : State) : Host.Outcome State Fault Refusal :=
  .next s.transmitStation

/-- FP_TRANSMIT (R107, R140). -/
def execFpTransmit (s : State) : Host.Outcome State Fault Refusal :=
  .next s.transmitField

end Sys2Proof.Machine
end

