-- ==== Sys2Proof/Machine/Dispatch.lean ====
section
/-! DEFINITION. What each command does to everything but the command queue: one arm per row of the opcode table. -/

namespace Sys2Proof.Machine

def exec (i : Instr) (s : State) : Host.Outcome State Fault Refusal :=
  match i with
  | .coldReset addrStrap rateHigh stopLow => Sys2Proof.Machine.execColdReset addrStrap rateHigh stopLow s
  | .stopNAssertion => Sys2Proof.Machine.execStopNAssertion s
  | .stopNRelease => Sys2Proof.Machine.execStopNRelease s
  | .frameCheck port chars => Sys2Proof.Machine.execFrameCheck port chars s
  | .receiveGapAbandon port => Sys2Proof.Machine.execReceiveGapAbandon port s
  | .stationFrameSort => Sys2Proof.Machine.execStationFrameSort s
  | .fieldFrameSort => Sys2Proof.Machine.execFieldFrameSort s
  | .position => Sys2Proof.Machine.execPosition s
  | .ack => Sys2Proof.Machine.execAck s
  | .level => Sys2Proof.Machine.execLevel s
  | .move => Sys2Proof.Machine.execMove s
  | .stop => Sys2Proof.Machine.execStop s
  | .groupSet => Sys2Proof.Machine.execGroupSet s
  | .groupStop => Sys2Proof.Machine.execGroupStop s
  | .clearHold => Sys2Proof.Machine.execClearHold s
  | .tableRead => Sys2Proof.Machine.execTableRead s
  | .tableWriteGate => Sys2Proof.Machine.execTableWriteGate s
  | .tableWriteCurveFirstPart => Sys2Proof.Machine.execTableWriteCurveFirstPart s
  | .tableWriteCurveSecondPart => Sys2Proof.Machine.execTableWriteCurveSecondPart s
  | .tableWriteGauge => Sys2Proof.Machine.execTableWriteGauge s
  | .tableWriteRoute => Sys2Proof.Machine.execTableWriteRoute s
  | .tableWriteSettings => Sys2Proof.Machine.execTableWriteSettings s
  | .statusRead => Sys2Proof.Machine.execStatusRead s
  | .counterSnapshot => Sys2Proof.Machine.execCounterSnapshot s
  | .misrouteRead => Sys2Proof.Machine.execMisrouteRead s
  | .timeSet => Sys2Proof.Machine.execTimeSet s
  | .restart => Sys2Proof.Machine.execRestart s
  | .spTransmit => Sys2Proof.Machine.execSpTransmit s
  | .fpTransmit => Sys2Proof.Machine.execFpTransmit s
  | .hoistStale gate side => Sys2Proof.Machine.execHoistStale gate side s
  | .gaugeStale gauge => Sys2Proof.Machine.execGaugeStale gauge s
  | .ackWindowExpiry gate => Sys2Proof.Machine.execAckWindowExpiry gate s
  | .deadlineExpiry gate => Sys2Proof.Machine.execDeadlineExpiry gate s
  | .haltWindowExpiry gate => Sys2Proof.Machine.execHaltWindowExpiry gate s
  | .silenceExpiry => Sys2Proof.Machine.execSilenceExpiry s
  | .candidateSync port => Sys2Proof.Machine.execCandidateSync port s
  | .lengthOver48 port length => Sys2Proof.Machine.execLengthOver48 port length s
  | .groupInvalidAction => Sys2Proof.Machine.execGroupInvalidAction s

end Sys2Proof.Machine
end

