-- ==== Sys2Proof/Machine/Time.lean ====
section
/-! DEFINITION. One millisecond of the part's internal millisecond base: what counts (R17, R24, R97, R101, R114, R122,
R123, R134), and the expiries that fall due (log 2). -/

namespace Sys2Proof.Machine

/-- An age one millisecond later; it stops at 100000 (R17, R24). -/
def older (age : Nat) : Nat := if age < Config.ageStop then age + 1 else age

/-- A motion state one millisecond later: the deadline counts in STARTING and TRAVELLING, the ack window in STARTING,
the halt window in STOPPING (R114, R122, R123). -/
def Motion.later : Motion → Motion
  | .starting r l w => .starting r { l with deadline := l.deadline - 1 } (w - 1)
  | .travelling r l => .travelling r { l with deadline := l.deadline - 1 }
  | .stopping n l w => .stopping n l (w - 1)
  | m => m

/-- A sample one millisecond later (R17). -/
def Sample.later (x : Sample) : Sample := { x with age := older x.age }

/-- A gate one millisecond later. -/
def Gate.later (x : Gate) : Gate :=
  { x with motion := x.motion.later, left := x.left.map Sample.later, right := x.right.map Sample.later }

/-- A gauge one millisecond later: the age counts while there is a good value (R24, R33). -/
def Gauge.later (x : Gauge) : Gauge := { x with age := if x.value.isSome then older x.age else x.age }

/-- The silence timer one millisecond later (R101). -/
def Silence.later : Silence → Silence
  | .running n => .running (n - 1)
  | t => t

/-- The count of milliseconds for which the STOP_N pin has read against the STOP_N state (R97). -/
def State.filterLater (s : State) : Nat := if s.stopPinLow = s.stopAsserted then 0 else s.stopFilter + 1

/-- Everything that counts, one millisecond later. -/
def State.tick (s : State) : State :=
  { s with
    tideClock := s.tideClock + 1
    stopFilter := s.filterLater
    gates := Vector.ofFn fun g => (s.gate g).later
    gauges := Vector.ofFn fun n => (s.gauge n).later
    silence := s.silence.later }

/-- An event in a list when its condition holds. -/
def whenever (b : Bool) (i : Instr) : List Instr := if b then [i] else []

/-- The STOP_N change that the filter has completed (R97). -/
def State.stopDue (s : State) : List Instr :=
  if s.stopPinLow ≠ s.stopAsserted ∧ Config.stopFilterTime ≤ s.stopFilter then
    [if s.stopPinLow then .stopNAssertion else .stopNRelease]
  else []

/-- The expiries of a gate that fall due: ack window, deadline, halt window, and a hoist whose age has first exceeded
the window (R114, R116, R122, R123). -/
def gateDue (g : GateId) (before after : Gate) : List Instr :=
  whenever (match after.motion with
    | .starting _ _ 0 => true
    | _ => false) (.ackWindowExpiry g) ++
  whenever (match after.motion.countingLeg with
    | some l => decide (l.deadline = 0)
    | none => false) (.deadlineExpiry g) ++
  whenever (match after.motion with
    | .stopping _ _ 0 => true
    | _ => false) (.haltWindowExpiry g) ++
  whenever (!before.stale .left && after.stale .left) (.hoistStale g .left) ++
  whenever (!before.stale .right && after.stale .right) (.hoistStale g .right)

/-- A gauge whose age has first exceeded its window (R24). -/
def gaugeDue (n : GaugeId) (before after : Gauge) : List Instr :=
  whenever (!before.overdue && after.overdue) (.gaugeStale n)

/-- All the expiries that fall due with a millisecond, in the order in which they are queued (log 2). -/
def State.due (before after : State) : List Instr :=
  after.stopDue ++
  whenever (decide (after.silence = .running 0)) .silenceExpiry ++
  allGates.flatMap (fun g => gateDue g (before.gate g) (after.gate g)) ++
  allGauges.flatMap (fun n => gaugeDue n (before.gauge n) (after.gauge n))

/-- One millisecond passes: everything counts, and the expiries that fall due are queued (log 2). -/
def State.elapse (s : State) : State := { s.tick with pending := s.pending ++ s.due s.tick }

end Sys2Proof.Machine
end

