-- ==== Sys2Proof/WellFormed.lean ====
section
/-! DEFINITION. Which commands are well formed: those whose operands the event of their row can have. The
operands that come in frames are judged by the part itself (R151, R165) and are no part of this. And which port a
command takes a frame from, or brings characters to. -/

namespace Sys2Proof

/-- A FRAME_CHECK brings at least one character and no more than the 54 that follow a sync in the longest
frame (R129); the character of a LENGTH_OVER_48 is above 48 (R132). Every other command is well formed. -/
def Instr.wellFormed : Instr → Bool
  | .frameCheck _ chars => !chars.isEmpty && decide (chars.length ≤ 54)
  | .lengthOver48 _ len => decide (48 < len.toNat)
  | _ => true

/-- The port from whose receive buffer a command takes a frame (R133, R151, R155). -/
def Instr.takesFrom : Instr → Option Port
  | .stationFrameSort => some .sp
  | .move => some .sp
  | .stop => some .sp
  | .groupSet => some .sp
  | .groupStop => some .sp
  | .clearHold => some .sp
  | .tableRead => some .sp
  | .tableWriteGate => some .sp
  | .tableWriteCurveFirstPart => some .sp
  | .tableWriteCurveSecondPart => some .sp
  | .tableWriteGauge => some .sp
  | .tableWriteRoute => some .sp
  | .tableWriteSettings => some .sp
  | .statusRead => some .sp
  | .counterSnapshot => some .sp
  | .misrouteRead => some .sp
  | .timeSet => some .sp
  | .restart => some .sp
  | .groupInvalidAction => some .sp
  | .fieldFrameSort => some .fp
  | .position => some .fp
  | .ack => some .fp
  | .level => some .fp
  | .coldReset _ _ _ => none
  | .stopNAssertion => none
  | .stopNRelease => none
  | .frameCheck _ _ => none
  | .receiveGapAbandon _ => none
  | .spTransmit => none
  | .fpTransmit => none
  | .hoistStale _ _ => none
  | .gaugeStale _ => none
  | .ackWindowExpiry _ => none
  | .deadlineExpiry _ => none
  | .haltWindowExpiry _ => none
  | .silenceExpiry => none
  | .candidateSync _ => none
  | .lengthOver48 _ _ => none

/-- The port whose receiver a command brings characters or a gap to (R132). -/
def Instr.hearsAt : Instr → Option Port
  | .frameCheck port _ => some port
  | .receiveGapAbandon port => some port
  | .candidateSync port => some port
  | .lengthOver48 port _ => some port
  | _ => none

end Sys2Proof
end

