-- ==== Sys2Proof/Safety.lean ====
section
/-! DEFINITION. What the statements about the part speak of: what stands at the head of a receive buffer, what refuses a
TABLE WRITE, what a fault keeps of a gate's target, and the invariants that every step keeps. -/

namespace Sys2Proof.Machine

/-! ### What a command finds -/

/-- The oldest SP frame is a request to the part with this kind and payload, and the reply queue has room for its reply
(R133, R141, R151). `rest` is what then stays in the buffer. -/
def State.HasRequest (s : State) (kind : Byte) (payload : List Byte) (rest : List RxFrame) : Prop :=
  ∃ f, s.spRx = f :: rest ∧ f.frame.source = 0 ∧ (s.route f.frame.dest).role = .self ∧
    f.frame.kind = kind ∧ f.frame.payload = payload ∧ s.replies.length < 4

/-- The oldest SP frame is `f`, and the reply queue has room (R133). -/
def State.HasStationFrame (s : State) (f : RxFrame) (rest : List RxFrame) : Prop :=
  s.spRx = f :: rest ∧ s.replies.length < 4

/-- The oldest FP frame is a report of this kind to the station or to the part, from the hoist bound to a gate and side
(R155, R156). -/
def State.HasHoistReport (s : State) (f : RxFrame) (rest : List RxFrame) (kind : Byte) (g : GateId) (side : Side) : Prop :=
  s.fpRx = f :: rest ∧ f.frame.kind = kind ∧ (f.frame.dest = 0 ∨ f.frame.dest = s.ownAddress) ∧
    (s.route f.frame.source).role = .hoist ∧ (s.route f.frame.source).binding = some (.hoist g side)

/-- The oldest FP frame is a LEVEL report to the station or to the part, from the address bound to a gauge
(R155, R156). -/
def State.HasLevelReport (s : State) (f : RxFrame) (rest : List RxFrame) (n : GaugeId) : Prop :=
  s.fpRx = f :: rest ∧ f.frame.kind = 0x58#8 ∧ (f.frame.dest = 0 ∨ f.frame.dest = s.ownAddress) ∧
    (s.route f.frame.source).role = .gauge ∧ (s.route f.frame.source).binding = some (.gauge n)

/-- A report taken by its owner is sent on when it goes to the station and its source's entry says FORWARD: it joins the
up queue and is counted forwarded, or finds it full and is counted as a queue drop (R143, R155). `s` is the state in
which the report was found, `t` the one its owner left. -/
def State.sentOn (s t : State) (f : Frame) : State :=
  if f.dest = 0 ∧ (s.route f.source).passUp = .forward then
    if t.upQueue.length < 16 then { t with upQueue := t.upQueue ++ [f] }.count .fp .forwarded
    else t.count .fp .queueDrops
  else t

/-- A station frame sent on to the field joins the down queue and is counted forwarded, or finds it full and is counted
as a queue drop (R142). -/
def State.relayed (s : State) (f : Frame) : State :=
  if s.downQueue.length < 8 then { s with downQueue := s.downQueue ++ [f] }.count .sp .forwarded
  else s.count .sp .queueDrops

/-- A misroute is counted at its port, and an empty Misroute Capture record is filled with it and posts its notice
(R158, R159). -/
def State.misrouted (s : State) (port : Port) (f : RxFrame) : State :=
  if s.capture = none then
    { s.count port .misroutes with capture := some { port := port, src := f.frame.source, dst := f.frame.dest,
                                                     kind := f.frame.kind, stamp := f.stamp } }.post
      (.misroute port f.frame.source f.frame.dest f.frame.kind)
  else s.count port .misroutes

/-- The payload lengths that the catalogue lists for a request of one of the kinds but TABLE WRITE (R136). -/
def requestLengths (kind : Byte) : Option (List Nat) :=
  match kind.toNat with
  | 0x10 => some [3, 4]
  | 0x11 => some [1]
  | 0x12 => some [5, 6]
  | 0x13 => some [1]
  | 0x20 => some [2]
  | 0x22 => some [1, 2]
  | 0x23 => some [1]
  | 0x24 => some [0]
  | 0x25 => some [4]
  | 0x26 => some [0]
  | _ => none

/-- The payload lengths at which a TABLE WRITE with this table identifier is no wrong length (R151, R161). -/
def writeLengths (id : Byte) : List Nat :=
  match id.toNat with
  | 0 => [40]
  | 1 => [38]
  | 2 => [37]
  | 3 => [16]
  | 4 => [8]
  | 5 => [16]
  | _ => [40, 38, 37, 16, 8]

/-- The payload of a MOVE for a gate, with its asked target and its applied level: the level it carries, or the gate's
default_priority, lowered to 7 (R57, R136). -/
def State.AsksMove (s : State) (g : GateId) (payload : List Byte) (asked level : Nat) : Prop :=
  ∃ hi lo, asked = hi.toNat * 256 + lo.toNat ∧
    (payload = [byte g.val, hi, lo] ∧ level = min (s.record g).defaultPriority 7 ∨
      ∃ lv, payload = [byte g.val, hi, lo, lv] ∧ level = min lv.toNat 7)

/-- The payload of a GROUP with an action, with its mask, its target and its applied level: the level it carries lowered
to 7, or 1 (R94, R136). -/
def asksGroup (payload : List Byte) (action : Byte) (mask target level : Nat) : Prop :=
  ∃ m n hi lo, mask = m.toNat * 256 + n.toNat ∧ target = hi.toNat * 256 + lo.toNat ∧
    (payload = [m, n, action, hi, lo] ∧ level = 1 ∨ ∃ lv, payload = [m, n, action, hi, lo, lv] ∧ level = min lv.toNat 7)

/-- The gates that a mask names (R94). -/
def named (mask : Nat) (g : GateId) : Bool := mask.testBit g.val

/-- A reason of a hold is still present at a gate (R77). -/
def Gate.reasonPresent (x : Gate) : HoldReason → Prop
  | .skew => ∀ k, x.skew = some k → x.record.trip < k.natAbs
  | .hoistFault => ∃ side, ∀ v, x.sample side = some v → v.state = .fault
  | .stale => ∃ side, ∀ v, x.sample side = some v → 8 * x.record.sampleWindow < v.age
  | _ => False

/-- A gauge of a side is fresh with a value and an age (R24, R25). -/
def State.FreshAt (s : State) (b : Bank) (n : GaugeId) (value : Int) (age : Nat) : Prop :=
  (s.gauge n).record.bank = b ∧ (s.gauge n).record.enabled = true ∧ (s.gauge n).value = some value ∧
    (s.gauge n).age = age ∧ age ≤ (s.gauge n).record.sampleWindow

/-- A level is masked: neither 0 nor at or below priority_mask (R89). -/
def State.Masked (s : State) (level : Nat) : Prop := level ≠ 0 ∧ s.settings.priorityMask < level

/-- Every request that waits is masked, so no evaluation weighs one (R89). -/
def State.AllMasked (s : State) : Prop := ∀ h q, (s.gate h).motion = .pending q → s.Masked q.level

/-! ### Reports of a hoist -/

/-- The payload of a POSITION report with a position and a state byte; a fourth byte is a fault code (R109, R135). -/
def Frame.Reports (f : Frame) (hi lo code : Byte) : Prop :=
  f.payload = [hi, lo, code] ∨ ∃ c, f.payload = [hi, lo, code, c]

/-- The state byte of a POSITION report and the hoist state it names, other than FAULT (R109, R135). -/
def namesState (code : Byte) (state : HoistState) : Prop :=
  code = 0 ∧ state = .atRest ∨ code = 1 ∧ state = .moving ∨ code = 2 ∧ state = .paused

/-- The state once a POSITION report without a fault is taken from the buffer and stored, before any check (R13, R17, R109,
R110). -/
def State.reported (s : State) (f : RxFrame) (rest : List RxFrame) (g : GateId) (side : Side) (hi lo : Byte)
    (state : HoistState) : State :=
  let raw := min (hi.toNat * 256 + lo.toNat) 16383
  { s with fpRx := rest }.setGate g ((s.gate g).withSample side (some
    { raw := raw, corrected := (s.record g).corrected side raw, state := state, faultCode := none
      stamp := f.stamp, age := 0 }))

/-- The oldest FP frame is a POSITION report without a fault, of a gate and side, and the skew it leaves is within the trip:
the checks of steps 2 and 3 of R110 find nothing (R109, R110, R120). -/
def State.HasQuietReport (s : State) (f : RxFrame) (rest : List RxFrame) (g : GateId) (side : Side) (hi lo : Byte)
    (state : HoistState) : Prop :=
  s.HasHoistReport f rest 0x50#8 g side ∧ (∃ code, f.frame.Reports hi lo code ∧ namesState code state) ∧
    ∀ k, ((s.reported f rest g side hi lo state).gate g).skew = some k → k.natAbs ≤ (s.record g).trip

/-- The leg of a decision, as a grant or a restart begins it (R63, R71). -/
def Plan.begun (p : Plan) (stamp : Nat) : Leg where
  target := p.target
  direction := p.direction
  speed := p.speed
  deadline := p.deadline
  acks := { left := false, right := false }
  paused := none
  stamp := stamp

/-- A request as a decision leaves it, with a wait reason and the mark of a CLAMPED notice with limit CEILING (R50, R51). -/
def Weighing.marks (w : Weighing) (r : Request) (reason : WaitReason) : Request :=
  { r with waitReason := reason, clampReported := r.clampReported || w.clampedTo.isSome }

/-- The order queue after a PAUSE for a hoist (R108; a PAUSE that waits already: log 8). -/
def ordersPaused (orders : List Order) (a : LinkAddr) : List Order :=
  if .resume a ∈ orders then orders.filter (· ≠ .resume a)
  else if .pause a ∈ orders then orders else orders ++ [.pause a]

/-- The order queue after a RESUME for a hoist (R108; a RESUME that waits already: log 8). -/
def ordersResumed (orders : List Order) (a : LinkAddr) : List Order :=
  if .pause a ∈ orders then orders.filter (· ≠ .pause a)
  else if .resume a ∈ orders then orders else orders ++ [.resume a]

/-! ### The neighbours of a gate and its band -/

/-- Gate `h`, at an opening `n`, is a linked neighbour of gate `g` (R45). -/
def State.Linked (s : State) (g h : GateId) (n : Nat) : Prop :=
  (s.record g).spread ≠ 0 ∧
    ((s.record g).linkLeft = true ∧ h.val + 1 = g.val ∨ (s.record g).linkRight = true ∧ h.val = g.val + 1) ∧
    (s.record h).inService = true ∧ (s.gate h).opening = some n

/-- How far from a linked neighbour a gate may stand: spread, or the distance it has already (R46). -/
def State.allowance (s : State) (g : GateId) (opening n : Nat) : Int := max (s.record g).spread (distance opening n)

/-- The spread band of a gate with linked neighbours, from the greatest low end of their intervals, lowered to the ceiling, to
the least high end (R46). -/
def State.Band (s : State) (g : GateId) (opening : Nat) (lo hi : Int) : Prop :=
  ∃ low : Int,
    (∃ h n, s.Linked g h n ∧ low = n - s.allowance g opening n) ∧
    (∀ h n, s.Linked g h n → n - s.allowance g opening n ≤ low) ∧
    (∃ h n, s.Linked g h n ∧ hi = n + s.allowance g opening n) ∧
    (∀ h n, s.Linked g h n → hi ≤ n + s.allowance g opening n) ∧
    lo = match (s.gate g).ceiling with
      | some c => min low c
      | none => low

/-- The goal for a target: lowered to the ceiling, or to the opening while there is no ceiling (R44). -/
def State.goal (s : State) (g : GateId) (target opening : Nat) : Nat :=
  match (s.gate g).ceiling with
  | some c => min target c
  | none => min target opening

/-- The goal clamped into the band, which is unbounded without linked neighbours (R46, R47). -/
def State.ClampsTo (s : State) (g : GateId) (opening goal : Nat) (leg : Int) : Prop :=
  (∀ h n, ¬ s.Linked g h n) ∧ leg = goal ∨ ∃ lo hi, s.Band g opening lo hi ∧ leg = max lo (min goal hi)

/-! ### The checks of a TABLE WRITE -/

/-- A field value lies outside its range, whose ends are both included (00_scope.md 6.1). -/
abbrev beyond (lo hi n : Int) : Prop := n < lo ∨ hi < n

/-- An index fails, and none below it does. -/
def FirstAt (fails : Nat → Prop) (i : Nat) : Prop := fails i ∧ ∀ j, j < i → ¬ fails j

/-- What refuses a TABLE WRITE: the first of the checks, in their order, that fails at an index, with its result and the
first index at which it fails as detail (R165). -/
def Refuses : List (Result × (Nat → Prop)) → Result → Nat → Prop
  | [], _, _ => False
  | (name, fails) :: later, result, detail =>
    result = name ∧ FirstAt fails detail ∨ (∀ i, ¬ fails i) ∧ Refuses later result detail

/-- An address byte names what an optional address holds, 0 for absent (R162). -/
def namesAddress (n : Nat) : Option LinkAddr → Prop
  | none => n = 0
  | some a => n ≠ 0 ∧ n = a.val

/-- The fields of a gate record, as its 35 bytes carry them, that fail their check (R2, R3, R10, R162; a curve number that
names no curve: log 10). -/
def State.gateFieldFails (s : State) (r : List Byte) : Nat → Prop
  | 1 => 1 < byteAt r 0 ∨ byteAt r 0 = 1 ∧ (byteAt r 1 = 0 ∨ byteAt r 2 = 0 ∨ byteAt r 1 = byteAt r 2 ∨
      ∃ c : Fin 4, c.val = byteAt r 9 ∧ (s.curve c).points.length < 2)
  | 2 => byteAt r 1 ≠ 0 ∧ (beyond 1 62 (byteAt r 1) ∨ byteAt r 1 = s.ownAddress.val)
  | 3 => byteAt r 2 ≠ 0 ∧ (beyond 1 62 (byteAt r 2) ∨ byteAt r 2 = s.ownAddress.val ∨ byteAt r 2 = byteAt r 1)
  | 4 => beyond (-500) 500 (s16At r 3)
  | 5 => beyond (-500) 500 (s16At r 5)
  | 6 => beyond 1000 16000 (u16At r 7)
  | 7 => 3 < byteAt r 9
  | 8 => u16At r 10 ≠ 0 ∧ beyond 100 5000 (u16At r 10)
  | 9 => 1 < byteAt r 12
  | 10 => 1 < byteAt r 13
  | 11 => beyond 10 2000 (u16At r 14)
  | 12 => beyond 10 (u16At r 14) (u16At r 16)
  | 13 => 30000 < u16At r 18
  | 14 => beyond 1000 60000 (u16At r 20)
  | 15 => beyond 5 200 (u16At r 22)
  | 16 => beyond 10 500 (u16At r 24)
  | 17 => beyond (u16At r 24 + 10) 1000 (u16At r 26)
  | 18 => beyond 100 10000 (u16At r 28)
  | 19 => 1 < byteAt r 30
  | 20 => beyond 100 10000 (u16At r 31)
  | 21 => 1 < byteAt r 33
  | 22 => beyond 1 7 (byteAt r 34)
  | _ => False

/-- The motion-fixed fields in which a written gate record differs from the one in force (R11). -/
def GateRecord.fixedFieldDiffers (old : GateRecord) (r : List Byte) : Nat → Prop
  | 2 => ¬ namesAddress (byteAt r 1) old.leftHoist
  | 3 => ¬ namesAddress (byteAt r 2) old.rightHoist
  | 4 => s16At r 3 ≠ old.leftOffset
  | 5 => s16At r 5 ≠ old.rightOffset
  | 6 => u16At r 7 ≠ old.fullTravel
  | 19 => ¬ (byteAt r 30 = 1 ↔ old.handshake = .pulsed)
  | _ => False

/-- A present address serves something else: its route entry has a role other than UNUSED and is not bound as asked
(R3, R20). -/
def State.addressUsed (s : State) (n : Nat) (role : Role) (b : Binding) : Prop :=
  n ≠ 0 ∧ ∃ a : LinkAddr, a.val = n ∧ (s.route a).role ≠ .unused ∧
    ¬ ((s.route a).role = role ∧ (s.route a).binding = some b)

/-- The items of breakpoints `first` to `last` of a curve that fail their check: the bytes of the first of them stand at
`off`, and `before` is the head of the one before it. Breakpoint k has its head at index 2k and its ceiling at 2k + 1 (R36, R162). -/
def pointFails (r : List Byte) (off first last : Nat) (before : Option Int) (i : Nat) : Prop :=
  ∃ k, first ≤ k ∧ k ≤ last ∧
    let place := off + 4 * (k - first)
    (i = 2 * k ∧ (beyond (-3000) 30000 (s16At r place) ∨ (first < k ∧ s16At r place ≤ s16At r (place - 4)) ∨
      (k = first ∧ ∃ h, before = some h ∧ s16At r place ≤ h)) ∨
    i = 2 * k + 1 ∧ 16000 < u16At r (place + 2))

/-- The items of a curve's first part that fail their check (R36, R168). -/
def firstPartFails (r : List Byte) (i : Nat) : Prop :=
  i = 1 ∧ byteAt r 0 ≠ 0 ∧ beyond 2 16 (byteAt r 0) ∨ pointFails r 1 1 (min (byteAt r 0) 8) none i

/-- The items of a curve's second part that fail their check, after the first part staged (R36, R169). -/
def Staging.secondPartFails (t : Staging) (r : List Byte) (i : Nat) : Prop :=
  pointFails r 0 9 t.count (t.points.getLast?.map Breakpoint.head) i

/-- The fields of a gauge record, as its 11 bytes carry them, that fail their check (R19, R20, R162). -/
def State.gaugeFieldFails (s : State) (r : List Byte) : Nat → Prop
  | 1 => 1 < byteAt r 0 ∨ byteAt r 0 = 1 ∧ byteAt r 2 = 0
  | 2 => 1 < byteAt r 1
  | 3 => byteAt r 2 ≠ 0 ∧ (beyond 1 62 (byteAt r 2) ∨ byteAt r 2 = s.ownAddress.val)
  | 4 => beyond (-5000) 5000 (s16At r 3)
  | 5 => beyond (-10000) 20000 (s16At r 5)
  | 6 => beyond (-10000) 20000 (s16At r 7) ∨ s16At r 7 ≤ s16At r 5
  | 7 => beyond 100 60000 (u16At r 9)
  | _ => False

/-- The fields of a route record that fail their check against the entry's present role (R149, R162). -/
def routeFieldFails (present : Role) (r : List Byte) : Nat → Prop
  | 1 => 5 < byteAt r 0 ∨ (present = .unused ∨ present = .other) ∧ byteAt r 0 ≠ 0 ∧ byteAt r 0 ≠ 5
  | 2 => 1 < byteAt r 1
  | 3 => 1 < byteAt r 2
  | _ => False

/-- A route write names another role than the present one that no write may change (R149, R162). -/
def roleChanges (present : Role) (r : List Byte) : Prop :=
  present = .station ∧ byteAt r 0 ≠ 1 ∨ present = .self ∧ byteAt r 0 ≠ 2 ∨ present = .hoist ∧ byteAt r 0 ≠ 3 ∨
  present = .gauge ∧ byteAt r 0 ≠ 4

/-- The fields of a settings record, as its 11 bytes carry them, that fail their check (R162, R163). -/
def settingsFieldFails (r : List Byte) : Nat → Prop
  | 1 => beyond 1 6 (byteAt r 0)
  | 2 => 7 < byteAt r 1
  | 3 => u16At r 2 ≠ 0 ∧ beyond 500 60000 (u16At r 2)
  | 4 => beyond 100 5000 (u16At r 4)
  | 5 => beyond 10 1000 (u16At r 6)
  | 6 => beyond 10 2000 (u16At r 8)
  | 7 => 1 < byteAt r 10
  | _ => False

/-! ### What a fault keeps -/

/-- The target that entry to HOLD keeps from a motion state (R74). -/
def Motion.keptTarget : Motion → Option Target
  | .pending r => some { target := r.target, level := r.level }
  | .starting r _ _ => some { target := r.target, level := r.level }
  | .travelling r _ => some { target := r.target, level := r.level }
  | .stopping (.restartLeg r) _ _ => some { target := r.target, level := r.level }
  | .stopping (.requeue r) _ _ => some { target := r.target, level := r.level }
  | .stopping (.outOfService c) _ _ => c
  | _ => none

/-- A gate that a fault condition finds in a state other than HOLD and OUT_OF_SERVICE is held with that one reason, and
what R74 and R79 say of it holds: FAULT_N is asserted, the HELD notice is posted while there is room, and the hoists of
a gate that held a slot have a HALT waiting. -/
def State.heldFor (s t : State) (g : GateId) (reason : HoldReason) : Prop :=
  (t.gate g).motion = .hold { primary := reason, further := [] } (s.gate g).motion.keptTarget ∧
  t.faultN = true ∧
  (s.notices.length < 16 →
    { notice := .held g reason (t.gate g).opening (t.gate g).skew, stamp := s.tideClock } ∈ t.notices) ∧
  ((s.gate g).motion.holdsSlot = true → ∀ side a, (s.record g).hoist side = some a → a ∈ t.haltQueue)

/-! ### Invariants -/

/-- The receive buffers and the reply, notice, up and down queues are within their sizes; the overflow flag is set only
while the Notice Queue is full (R180); the halt queue holds at most one order for each hoist, and the order queue at most
one RUN and at most one PAUSE or RESUME (R108, R133, R141, R142, R143, R179; for two equal orders: log 8). -/
structure State.QueuesBounded (s : State) : Prop where
  spRx : s.spRx.length ≤ 4
  fpRx : s.fpRx.length ≤ 8
  replies : s.replies.length ≤ 4
  notices : s.notices.length ≤ 16
  overflow : s.overflow = true → s.notices.length = 16
  upQueue : s.upQueue.length ≤ 16
  downQueue : s.downQueue.length ≤ 8
  halts : s.haltQueue.Nodup
  runs : ∀ a, (s.orderQueue.filter (Order.isRunFor a)).length ≤ 1
  trims : ∀ a, (s.orderQueue.filter fun o => o = .pause a ∨ o = .resume a).length ≤ 1

/-- FAULT_N is asserted exactly while at least one gate is in HOLD (R79). -/
def State.FaultShown (s : State) : Prop := s.faultN = true ↔ ∃ g, (s.gate g).motion.isHold = true

/-- The pending list holds each gate at most once and exactly the gates in PENDING (R86); the count of slots in use is the
number of slot holders and at most K (R85); while STOP_N is asserted no gate has a request (R99). -/
structure State.SlotsCounted (s : State) : Prop where
  once : s.waiting.Nodup
  pendingGates : ∀ g, g ∈ s.waiting ↔ (s.gate g).motion.isPending = true
  count : s.slotsInUse = (allGates.filter fun g => (s.gate g).motion.holdsSlot).length
  withinK : s.slotsInUse ≤ s.settings.slots
  quiet : s.stopAsserted = true → ∀ g, (s.gate g).motion.request = none

/-- The Route Table has STATION at address 0 alone and SELF at the own address alone, which is not 0, and its bindings are
those of the gate and gauge records (R146, R148). -/
structure State.RoutesBound (s : State) : Prop where
  own : s.ownAddress ≠ 0
  station : ∀ a, (s.route a).role = .station ↔ a = 0
  self : ∀ a, (s.route a).role = .self ↔ a = s.ownAddress
  hoists : ∀ a, (s.route a).role = .hoist ↔ ∃ g side, (s.route a).binding = some (.hoist g side)
  gauges : ∀ a, (s.route a).role = .gauge ↔ ∃ n, (s.route a).binding = some (.gauge n)
  hoistRecords : ∀ a g side, (s.route a).binding = some (.hoist g side) ↔ (s.record g).hoist side = some a
  gaugeRecords : ∀ a n, (s.route a).binding = some (.gauge n) ↔ (s.gauge n).record.address = some a

/-- A link address that a record may name (R3, R20). -/
def addressLegal (own a : LinkAddr) : Prop := 1 ≤ a.val ∧ a.val ≤ 62 ∧ a ≠ own

/-- A gate record within the ranges of R2 and the conditions of R3 and R10 that stand in the record alone. -/
structure GateRecord.Legal (own : LinkAddr) (r : GateRecord) : Prop where
  served : r.inService = true → r.leftHoist ≠ none ∧ r.rightHoist ≠ none
  left : ∀ a, r.leftHoist = some a → addressLegal own a
  right : ∀ a, r.rightHoist = some a → addressLegal own a
  apart : ∀ a, r.leftHoist = some a → r.rightHoist ≠ some a
  leftOffset : -500 ≤ r.leftOffset ∧ r.leftOffset ≤ 500
  rightOffset : -500 ≤ r.rightOffset ∧ r.rightOffset ≤ 500
  fullTravel : 1000 ≤ r.fullTravel ∧ r.fullTravel ≤ 16000
  spread : r.spread = 0 ∨ 100 ≤ r.spread ∧ r.spread ≤ 5000
  normalSpeed : 10 ≤ r.normalSpeed ∧ r.normalSpeed ≤ 2000
  creepSpeed : 10 ≤ r.creepSpeed ∧ r.creepSpeed ≤ r.normalSpeed
  creepHead : r.creepHead ≤ 30000
  startAllowance : 1000 ≤ r.startAllowance ∧ r.startAllowance ≤ 60000
  arriveTol : 5 ≤ r.arriveTol ∧ r.arriveTol ≤ 200
  trim : 10 ≤ r.trim ∧ r.trim ≤ 500
  trip : r.trim + 10 ≤ r.trip ∧ r.trip ≤ 1000
  sampleWindow : 100 ≤ r.sampleWindow ∧ r.sampleWindow ≤ 10000
  ackWindow : 100 ≤ r.ackWindow ∧ r.ackWindow ≤ 10000
  defaultPriority : 1 ≤ r.defaultPriority ∧ r.defaultPriority ≤ 7

/-- Breakpoints in range, their heads strictly increasing (R35, R36). -/
def pointsLegal (ps : List Breakpoint) : Prop :=
  (∀ b ∈ ps, -3000 ≤ b.head ∧ b.head ≤ 30000 ∧ b.ceiling ≤ 16000) ∧ ps.Pairwise fun a b => a.head < b.head

/-- A curve holds no breakpoints or 2 to 16 legal ones (R35). -/
def Curve.Legal (c : Curve) : Prop :=
  (c.points = [] ∨ 2 ≤ c.points.length ∧ c.points.length ≤ 16) ∧ pointsLegal c.points

/-- A gauge record within the ranges of R19 and the conditions of R20 (R19, R20). -/
structure GaugeRecord.Legal (own : LinkAddr) (r : GaugeRecord) : Prop where
  served : r.enabled = true → r.address ≠ none
  address : ∀ a, r.address = some a → addressLegal own a
  datumOffset : -5000 ≤ r.datumOffset ∧ r.datumOffset ≤ 5000
  bounds : -10000 ≤ r.lowPlaus ∧ r.lowPlaus < r.highPlaus ∧ r.highPlaus ≤ 20000
  sampleWindow : 100 ≤ r.sampleWindow ∧ r.sampleWindow ≤ 60000

/-- A settings record within the ranges of R163. -/
structure Settings.Legal (k : Settings) : Prop where
  slots : 1 ≤ k.slots ∧ k.slots ≤ 6
  priorityMask : k.priorityMask ≤ 7
  silenceWindow : k.silenceWindow = 0 ∨ 500 ≤ k.silenceWindow ∧ k.silenceWindow ≤ 60000
  reverseLimit : 100 ≤ k.reverseLimit ∧ k.reverseLimit ≤ 5000
  reverseHyst : 10 ≤ k.reverseHyst ∧ k.reverseHyst ≤ 1000
  gaugeAgree : 10 ≤ k.gaugeAgree ∧ k.gaugeAgree ≤ 2000

/-- A full staging record holds breakpoints 1 to 8, legal ones, of a curve of 9 to 16 (R168). -/
def Staging.Legal (t : Staging) : Prop := 9 ≤ t.count ∧ t.count ≤ 16 ∧ t.points.length = 8 ∧ pointsLegal t.points

/-- Every record is legal, and the curve of every in-service gate holds at least two breakpoints (R2, R10, R19, R35, R36,
R163, R168). -/
structure State.RecordsLegal (s : State) : Prop where
  gates : ∀ g, (s.record g).Legal s.ownAddress
  curves : ∀ c, (s.curve c).Legal
  inUse : ∀ g, (s.record g).inService = true → 2 ≤ (s.curve (s.record g).curve).points.length
  gauges : ∀ n, (s.gauge n).record.Legal s.ownAddress
  settings : s.settings.Legal
  staging : ∀ t, s.staging = some t → t.Legal

/-- A sample is of the kind that R17 describes, its corrected position that of R13 under the gate's record. -/
def Sample.Sound (r : GateRecord) (side : Side) (x : Sample) : Prop :=
  x.raw ≤ 16383 ∧ x.corrected = r.corrected side x.raw ∧ x.age ≤ 100000 ∧ (x.faultCode ≠ none ↔ x.state = .fault) ∧
  ∀ c, x.faultCode = some c → 1 ≤ c ∧ c ≤ 255

/-- The target that a motion state stores, in a request, as deferred or carried target, or in a leg, lies within a full
travel (R5, R44, R47, R57). -/
def Motion.within (m : Motion) (travel : Nat) : Prop :=
  (∀ r, m.request = some r → r.target ≤ travel) ∧ (∀ t, m.storedTarget = some t → t.target ≤ travel) ∧
  ∀ l, m.leg = some l → l.target ≤ travel

/-- Every sample is sound, every target, leg and ceiling of a gate lies within the gate's full travel (R13, R17, R38,
R44, R47), and a gauge's age is at most 100000, and 0 without a good value (R24, R33; log 18). -/
structure State.TravelKept (s : State) : Prop where
  samples : ∀ g side x, (s.gate g).sample side = some x → x.Sound (s.record g) side
  targets : ∀ g, (s.gate g).motion.within (s.record g).fullTravel
  ceilings : ∀ g c, (s.gate g).ceiling = some c → c ≤ (s.record g).fullTravel
  gaugeAges : ∀ n, (s.gauge n).age ≤ 100000 ∧ ((s.gauge n).value = none → (s.gauge n).age = 0)

/-- The head pair is that of the side values (R28), the mode is the one that the head pair keeps (R29), and every gate's
ceiling is the one that R38 gives. -/
structure State.LevelsSettled (s : State) : Prop where
  head : s.head = headOf s.upstream.value s.downstream.value
  mode : modeAfter s.settings s.mode s.head = s.mode
  ceilings : ∀ g, (s.gate g).ceiling = s.computeCeiling (s.gate g)

/-- The further reasons of every hold are distinct and leave out the primary (R75). -/
def State.HoldsSound (s : State) : Prop :=
  ∀ g h d, (s.gate g).motion = .hold h d → h.further.Nodup ∧ h.primary ∉ h.further

/-! ### Counters by name -/

/-- The counters that a command may change: those of the events of R185 that the command can bring, at its port; all of them
for COUNTER SNAPSHOT and COLD_RESET (R171, R185, R188). -/
def mayCount : Instr → Port → CounterName → Prop
  | .coldReset _ _ _, _, _ => True
  | .counterSnapshot, _, _ => True
  | .frameCheck port _, p, name => p = port ∧ (name = .good ∨ name = .crcErrors ∨ name = .overruns)
  | .candidateSync port, p, name => p = port ∧ (name = .good ∨ name = .crcErrors ∨ name = .overruns)
  | .receiveGapAbandon port, p, name => p = port ∧ (name = .good ∨ name = .crcErrors ∨ name = .overruns)
  | .lengthOver48 port _, p, name => p = port ∧ (name = .good ∨ name = .crcErrors ∨ name = .overruns)
  | .stationFrameSort, .sp, name => name = .forwarded ∨ name = .routeDrops ∨ name = .queueDrops ∨ name = .misroutes
  | .fieldFrameSort, .fp, name => name = .forwarded ∨ name = .routeDrops ∨ name = .queueDrops ∨ name = .misroutes
  | .position, .fp, name => name = .forwarded ∨ name = .queueDrops
  | .ack, .fp, name => name = .forwarded ∨ name = .queueDrops
  | .level, .fp, name => name = .forwarded ∨ name = .queueDrops
  | _, _, _ => False

/-- A counter of a port (R185). -/
def Counters.read (c : Counters) : CounterName → CountWord
  | .good => c.good
  | .crcErrors => c.crcErrors
  | .overruns => c.overruns
  | .forwarded => c.forwarded
  | .routeDrops => c.routeDrops
  | .queueDrops => c.queueDrops
  | .misroutes => c.misroutes

end Sys2Proof.Machine
end

