-- ==== Sys2Proof/Certificates/Slice0/Obligations.lean ====
section
/-! DEFINITION. The statements for the provers. `HasRequest`, `HasHoistReport` and the like (Safety.lean) say what stands
at the head of a receive buffer; "log n" is notes/assumptions/n.md. -/

open Sys2Proof Sys2Proof.Machine

/-! ## Steps and time -/

/-- A step with a waiting command is that command's meaning, on the state with the rest of the queue (log 1). -/
def Obligations.StepRunsTheFrontCommand : Prop :=
  ∀ (s : State) (c : Instr) (rest : List Instr), s.pending = c :: rest → step s = exec c { s with pending := rest }

/-- With no command waiting a step is one millisecond, and this is all that counts in it; the expiries that it puts into
the queue are those that fall due in its millisecond (the model's choice, log 2; a gauge without a good value: log 18). -/
def Obligations.IdleStepIsOneMillisecond : Prop :=
  (∀ s : State, s.pending = [] → ∃ t, step s = .next t ∧
    t = { s with
      tideClock := s.tideClock + 1, stopFilter := t.stopFilter, gates := t.gates, gauges := t.gauges,
      silence := t.silence, pending := t.pending } ∧
    t.stopFilter = (if s.stopPinLow = s.stopAsserted then 0 else s.stopFilter + 1) ∧
    t.silence = (match s.silence with
      | .running n => .running (n - 1)
      | other => other) ∧
    (∀ g, t.gate g = { s.gate g with
      motion := (match (s.gate g).motion with
        | .starting r l w => .starting r { l with deadline := l.deadline - 1 } (w - 1)
        | .travelling r l => .travelling r { l with deadline := l.deadline - 1 }
        | .stopping n l w => .stopping n l (w - 1)
        | other => other)
      left := (s.gate g).left.map fun x => { x with age := if x.age < 100000 then x.age + 1 else x.age }
      right := (s.gate g).right.map fun x => { x with age := if x.age < 100000 then x.age + 1 else x.age } }) ∧
    ∀ n, t.gauge n = { s.gauge n with
      age := if (s.gauge n).value ≠ none ∧ (s.gauge n).age < 100000 then (s.gauge n).age + 1 else (s.gauge n).age }) ∧
  ∀ s t : State, s.pending = [] → step s = .next t →
    (∀ g, .ackWindowExpiry g ∈ t.pending ↔ ∃ r l, (t.gate g).motion = .starting r l 0) ∧
    (∀ g, .deadlineExpiry g ∈ t.pending ↔
      ∃ r l, l.deadline = 0 ∧ ((∃ w, (t.gate g).motion = .starting r l w) ∨ (t.gate g).motion = .travelling r l)) ∧
    (∀ g, .haltWindowExpiry g ∈ t.pending ↔ ∃ n l, (t.gate g).motion = .stopping n l 0) ∧
    (∀ g side, .hoistStale g side ∈ t.pending ↔ (s.gate g).stale side = false ∧ (t.gate g).stale side = true) ∧
    (∀ n, .gaugeStale n ∈ t.pending ↔ (s.gauge n).overdue = false ∧ (t.gauge n).overdue = true) ∧
    (.silenceExpiry ∈ t.pending ↔ t.silence = .running 0) ∧
    (.stopNAssertion ∈ t.pending ↔ s.stopPinLow = true ∧ s.stopAsserted = false ∧ 20 ≤ t.stopFilter) ∧
    (.stopNRelease ∈ t.pending ↔ s.stopPinLow = false ∧ s.stopAsserted = true ∧ 20 ≤ t.stopFilter)

/-- Inputs, clock, straps, receivers, buffers, forwarding queues, transmitters and the command queue move by their own
commands alone (R101, R132 to R134, R140 to R143, R147, R159, R168). By the model's choice the STOP_N pin, its filter and the
STOP_N state move by the two STOP_N commands (R97; log 19), what a transmitter holds by its own command (log 7), and the
command queue by none (log 1, log 28). -/
def Obligations.InputsMoveByTheirOwnCommands : Prop :=
  ∀ (c : Instr) (s t : State), exec c s = .next t →
    t.pending = s.pending ∧
    ((∀ a b d, c ≠ .coldReset a b d) →
      t.ownAddress = s.ownAddress ∧ t.rate = s.rate ∧
      (c ≠ .timeSet → t.tideClock = s.tideClock) ∧
      (c ≠ .stopNAssertion → c ≠ .stopNRelease →
        t.stopAsserted = s.stopAsserted ∧ t.stopPinLow = s.stopPinLow ∧ t.stopFilter = s.stopFilter) ∧
      (∀ port, c.hearsAt ≠ some port → t.receiver port = s.receiver port ∧
        (c.takesFrom ≠ some port → t.buffer port = s.buffer port)) ∧
      (c.hearsAt ≠ some .sp → c ≠ .silenceExpiry → c ≠ .tableWriteSettings → c ≠ .restart → t.silence = s.silence) ∧
      (c.takesFrom ≠ some .sp → c ≠ .spTransmit → t.replies = s.replies) ∧
      (c.takesFrom ≠ some .fp → c ≠ .spTransmit → c ≠ .restart → t.upQueue = s.upQueue) ∧
      (c ≠ .stationFrameSort → c ≠ .fpTransmit → c ≠ .restart → t.downQueue = s.downQueue) ∧
      (c ≠ .stationFrameSort → c ≠ .fieldFrameSort → c ≠ .misrouteRead → c ≠ .restart → t.capture = s.capture) ∧
      (c ≠ .tableWriteCurveFirstPart → c ≠ .tableWriteCurveSecondPart → c ≠ .restart → t.staging = s.staging) ∧
      (c ≠ .spTransmit → t.spTx = s.spTx) ∧ (c ≠ .fpTransmit → t.fpTx = s.fpTx))

/-- Records, their generations, bindings, samples, gauge values, levels, ceilings and counters change by the commands that
the manual gives for them alone (R4, R17, R21, R22, R24, R32, R37, R40, R148, R149, R163, R166, R185); of the counters each
command leaves every one but those of the events it can bring (`mayCount`, R185). -/
def Obligations.RecordsChangeByTheirOwnCommands : Prop :=
  ∀ (c : Instr) (s t : State), exec c s = .next t → (∀ a b d, c ≠ .coldReset a b d) →
    (c ≠ .tableWriteGate → ∀ g, t.record g = s.record g ∧ (t.gate g).generation = (s.gate g).generation) ∧
    (c ≠ .tableWriteCurveFirstPart → c ≠ .tableWriteCurveSecondPart → t.curves = s.curves) ∧
    (c ≠ .tableWriteGauge → ∀ n, (t.gauge n).record = (s.gauge n).record ∧
      (t.gauge n).generation = (s.gauge n).generation) ∧
    (c ≠ .tableWriteGate → c ≠ .tableWriteGauge → c ≠ .tableWriteRoute → t.routes = s.routes) ∧
    (c ≠ .tableWriteSettings → t.settings = s.settings ∧ t.settingsGen = s.settingsGen) ∧
    (c ≠ .position → c ≠ .tableWriteGate → ∀ g, (t.gate g).left = (s.gate g).left ∧ (t.gate g).right = (s.gate g).right) ∧
    (c ≠ .level → c ≠ .tableWriteGauge → ∀ n, (t.gauge n).value = (s.gauge n).value ∧
      (t.gauge n).age = (s.gauge n).age) ∧
    (c ≠ .level → (∀ n, c ≠ .gaugeStale n) → c ≠ .tableWriteGauge → c ≠ .tableWriteSettings → c ≠ .restart →
      t.upstream = s.upstream ∧ t.downstream = s.downstream ∧ t.head = s.head ∧ t.mode = s.mode ∧
      (c ≠ .tableWriteGate → c ≠ .tableWriteCurveFirstPart → c ≠ .tableWriteCurveSecondPart →
        ∀ g, (t.gate g).ceiling = (s.gate g).ceiling)) ∧
    ∀ port name, ¬ mayCount c port name → (t.counters port).read name = (s.counters port).read name

/-! ## Invariants of every step -/

/-- Every step keeps the receive buffers and the reply, notice, up and down queues within their sizes, and the hoist orders
merged: for each hoist one HALT, one RUN, and one PAUSE or one RESUME (R108, R133, R141 to R143, R179, R180; two equal orders:
log 8). The 24 and 48 places of R107 are not part of it: the model tests neither (log 8). -/
def Obligations.QueuesStayBounded : Prop :=
  ∀ s t : State, s.QueuesBounded → step s = .next t → t.QueuesBounded

/-- Every step keeps FAULT_N asserted exactly while a gate is in HOLD, and so it stands after a cold reset (R79). -/
def Obligations.FaultOutputShowsHolds : Prop :=
  (∀ s t : State, s.FaultShown → step s = .next t → t.FaultShown) ∧
  ∀ a b d s t, exec (.coldReset a b d) s = .next t → t.faultN = false ∧ t.FaultShown

/-- Every step keeps the pending list equal to the PENDING gates, the count of slots equal to the slot holders and within
K, and no request while STOP_N is asserted (R85, R86, R99). -/
def Obligations.SlotsAndPendingListAgree : Prop :=
  ∀ s t : State, s.SlotsCounted → step s = .next t → t.SlotsCounted

/-- Every step keeps the Route Table in agreement with the gate and gauge records (R146, R148). -/
def Obligations.RoutesFollowRecords : Prop :=
  ∀ s t : State, s.RoutesBound → step s = .next t → t.RoutesBound

/-- Every step keeps every record within its ranges and conditions (R2, R10, R19, R20, R35, R36, R163, R168). -/
def Obligations.RecordsStayLegal : Prop :=
  ∀ s t : State, s.RecordsLegal → step s = .next t → t.RecordsLegal

/-- Every step keeps samples sound, and targets, legs and ceilings within full travel (R5, R13, R17, R38, R44, R47), and keeps
the age of a gauge at most 100000 and 0 without a good value (R24, R33). That the age is 0 after a record write has discarded the
good value is the model's choice (log 18). -/
def Obligations.TargetsStayWithinTravel : Prop :=
  ∀ s t : State, s.TravelKept → step s = .next t → t.TravelKept

/-- Every step keeps head pair, ceiling mode and ceilings in agreement (R28, R29, R38, R40). -/
def Obligations.LevelsStaySettled : Prop :=
  ∀ s t : State, s.LevelsSettled → step s = .next t → t.LevelsSettled

/-- Every step keeps the further reasons of a hold distinct and different from its primary (R75), and leaves no grant
evaluation owed when it is over (R56, R88; log 16). -/
def Obligations.HoldsAndEvaluationsStaySound : Prop :=
  (∀ s t : State, s.HoldsSound → step s = .next t → t.HoldsSound) ∧
  ∀ s t : State, s.evalDue = false → step s = .next t → t.evalDue = false

/-- The state after reset meets every invariant above (its straps: log 4). -/
def Obligations.ResetMeetsEveryInvariant : Prop :=
  State.reset.QueuesBounded ∧ State.reset.FaultShown ∧ State.reset.SlotsCounted ∧ State.reset.RoutesBound ∧
  State.reset.RecordsLegal ∧ State.reset.TravelKept ∧ State.reset.LevelsSettled ∧ State.reset.HoldsSound ∧
  State.reset.evalDue = false

/-- A count raises its own counter by one by the counter mode in force, stopping at 65535 under SATURATE and going from 65535
to 0 under WRAP; and under SATURATE no command but a clearing snapshot, and the cold reset, lowers a counter (R186). -/
def Obligations.CountersSaturateOrWrap : Prop :=
  (∀ c : CountWord, c ≠ 0xFFFF#16 → bump .saturate c = c + 1 ∧ bump .wrap c = c + 1) ∧
  bump .saturate 0xFFFF#16 = 0xFFFF#16 ∧ bump .wrap 0xFFFF#16 = 0#16 ∧
  (∀ (s : State) (port : Port) (name : CounterName),
    ((s.count port name).counters port).read name = bump s.settings.counterMode ((s.counters port).read name) ∧
    ∀ p n, p ≠ port ∨ n ≠ name → ((s.count port name).counters p).read n = (s.counters p).read n) ∧
  ∀ (c : Instr) (s t : State), exec c s = .next t → s.settings.counterMode = .saturate →
    (∀ a b d, c ≠ .coldReset a b d) →
    (c = .counterSnapshot → ∀ f rest, s.spRx = f :: rest → byteAt f.frame.payload 0 = 0) →
    ∀ port name, ((s.counters port).read name).toNat ≤ ((t.counters port).read name).toNat

/-! ## Encodings -/

/-- A receiver that has heard a sync and is then given the other characters of any frame takes exactly that frame, with
the Tide Clock value noted at the sync: it is counted good, on SP it restarts the silence timer, and it joins the receive
buffer or, when that is full, is dropped and counted as an overrun (R101, R129, R130, R132, R133). -/
def Obligations.FrameCheckReadsTheEncodedFrame : Prop :=
  ∀ (s : State) (port : Port) (f : Frame) (stamp : ClockWord), f.payload.length ≤ 48 →
    s.receiver port = [{ data := 0xA5#8, stamp := stamp }] →
    exec (.frameCheck port f.bytes.tail) s = .next (
      let heard := (s.setReceiver port []).count port .good
      let timed := match port with
        | .sp => { heard with
            silence := if s.settings.silenceWindow = 0 then .off else .running s.settings.silenceWindow }
        | .fp => heard
      let room := match port with
        | .sp => 4
        | .fp => 8
      if (s.buffer port).length < room then
        timed.setBuffer port (s.buffer port ++ [{ frame := f, stamp := stamp }])
      else timed.count port .overruns)

/-- A gate record, a gauge record, a route record and a settings record whose bytes pass their checks are read back as
exactly those bytes, which carry the fields in index order and in the widths and codes of R162, and the two parts of a curve carry its
breakpoints in their slots, zero beyond the count, from which a legal curve's are read again (R162, R164). -/
def Obligations.RecordsReadBackAsWritten : Prop :=
  let yes (b : Bool) : Byte := if b then 1 else 0
  let address (a : Option LinkAddr) : Byte := match a with
    | none => 0
    | some a => byte a.val
  let signed (z : Int) : List Byte := be16 (z % 65536).toNat
  (∀ (s : State) (r : List Byte), r.length = 35 → firstFailing ((RawGate.parse r).checks s) = none →
    let x := (RawGate.parse r).record
    x.bytes = r ∧
    r = [yes x.inService, address x.leftHoist, address x.rightHoist] ++ signed x.leftOffset ++ signed x.rightOffset ++
      be16 x.fullTravel ++ [byte x.curve.val] ++ be16 x.spread ++ [yes x.linkLeft, yes x.linkRight] ++
      be16 x.normalSpeed ++ be16 x.creepSpeed ++ be16 x.creepHead ++ be16 x.startAllowance ++ be16 x.arriveTol ++
      be16 x.trim ++ be16 x.trip ++ be16 x.sampleWindow ++ [match x.handshake with
        | .interlocked => 0
        | .pulsed => 1] ++ be16 x.ackWindow ++ [yes x.trackCeiling, byte x.defaultPriority]) ∧
  (∀ (own : LinkAddr) (r : List Byte), r.length = 11 → firstFailing ((RawGauge.parse r).checks own) = none →
    let x := (RawGauge.parse r).record
    x.bytes = r ∧
    r = [yes x.enabled, (match x.bank with
        | .upstream => 0
        | .downstream => 1), address x.address] ++ signed x.datumOffset ++ signed x.lowPlaus ++ signed x.highPlaus ++
      be16 x.sampleWindow) ∧
  (∀ (e : RouteEntry) (r : List Byte), r.length = 3 → firstFailing (routeChecks e.role r) = none →
    let x := e.written r
    x.bytes = r ∧
    r = [match x.role with
        | .unused => 0
        | .station => 1
        | .self => 2
        | .hoist => 3
        | .gauge => 4
        | .other => 5, match x.passDown with
        | .forward => 0
        | .drop => 1, match x.passUp with
        | .forward => 0
        | .consume => 1]) ∧
  (∀ r : List Byte, r.length = 11 → firstFailing (settingsChecks r) = none →
    let x := parseSettings r
    x.bytes = r ∧
    r = [byte x.slots, byte x.priorityMask] ++ be16 x.silenceWindow ++ be16 x.reverseLimit ++ be16 x.reverseHyst ++
      be16 x.gaugeAgree ++ [match x.counterMode with
        | .saturate => 0
        | .wrap => 1]) ∧
  (∀ c : Curve,
    let slot (k : Nat) : List Byte := match c.points[k]? with
      | none => [0, 0, 0, 0]
      | some b => signed b.head ++ be16 b.ceiling
    c.firstBytes = byte c.points.length :: (List.range 8).flatMap slot ∧
    c.secondBytes = (List.range 8).flatMap fun k => slot (8 + k)) ∧
  ∀ c : Curve, c.Legal → byteAt c.firstBytes 0 = c.points.length ∧
    toPoints (rawPoints c.firstBytes 1 (min c.points.length 8)) ++
      toPoints (rawPoints c.secondBytes 0 (c.points.length - 8)) = c.points

/-! ## Envelope arithmetic and choice of a victim -/

/-- The curve value at a head (R39): the first ceiling up to the first head, the last from the last head on, and between
two breakpoints the line between them rounded toward minus infinity, which lies between their ceilings. -/
def Obligations.CurveValueFollowsTheBreakpoints : Prop :=
  ∀ (points : List Breakpoint) (h : Int), points.Pairwise (fun a b => a.head < b.head) →
    (∀ b rest, points = b :: rest → h ≤ b.head → curveValue points h = some b.ceiling) ∧
    (∀ b, points.getLast? = some b → b.head ≤ h → curveValue points h = some b.ceiling) ∧
    ∀ before b c after, points = before ++ b :: c :: after → b.head ≤ h → h < c.head →
      ∃ v, curveValue points h = some v ∧
        (v : Int) = b.ceiling + (((c.ceiling : Int) - b.ceiling) * (h - b.head)) / (c.head - b.head) ∧
        min b.ceiling c.ceiling ≤ v ∧ v ≤ max b.ceiling c.ceiling

/-- The leg target of a leg-needed decision lies within full travel, at or below the ceiling, at or below the opening when
there is no ceiling, within the band of the linked neighbours, and between the goal and the opening (R44 to R48). A neighbour
that counts is in service with an opening, on a side to which the gate links with a spread above 0; the gate stays within its
allowance of it, unless the ceiling takes it lower (R45, R46). -/
def Obligations.LegsStayWithinTheirBounds : Prop :=
  ∀ (s : State) (g : GateId) (target opening : Nat) (p : Plan),
    target ≤ (s.record g).fullTravel → opening ≤ (s.record g).fullTravel →
    (s.decideAt g target opening).decision = .legNeeded p →
    p.target ≤ (s.record g).fullTravel ∧
    (∀ c, (s.gate g).ceiling = some c → p.target ≤ c) ∧
    ((s.gate g).ceiling = none → p.target ≤ opening) ∧
    (∀ lo hi, s.Band g opening lo hi → lo ≤ p.target ∧ (p.target : Int) ≤ hi) ∧
    (∀ h n, s.Linked g h n →
      (p.target : Int) ≤ n + s.allowance g opening n ∧
      (n - s.allowance g opening n ≤ p.target ∨ (s.gate g).ceiling = some p.target)) ∧
    min (s.goal g target opening) opening ≤ p.target ∧ p.target ≤ max (s.goal g target opening) opening

/-- The decision (R44 to R49): with the goal clamped into the band of the linked neighbours, satisfied by the target alone;
blocked when the leg would end within arrive_tol of the opening, with the term of the goal stage, CEILING or NO_HEAD, before
SPREAD; else a leg to that target with the direction from the opening, the speed of R52, and a deadline that is the distance's
time at that speed, rounded up, and the start_allowance (R53). A request is weighed so from the opening, and is blocked without
a term while that is absent (R43); its wait reason follows the decision (R50), and its first CEILING posts CLAMPED (R51). -/
def Obligations.DecisionsFollowTheStages : Prop :=
  (∀ (s : State) (g : GateId) (target opening : Nat),
    let rec_ := s.record g
    let d := (s.decideAt g target opening).decision
    ∃ leg : Int, s.ClampsTo g opening (s.goal g target opening) leg ∧
      (d = .satisfied ↔ distance target opening ≤ rec_.arriveTol) ∧
      (rec_.arriveTol < distance target opening → (leg - opening).natAbs ≤ rec_.arriveTol →
        d = .blocked (some (if s.goal g target opening = target then .spread else match (s.gate g).ceiling with
          | some _ => .ceiling
          | none => .noHead))) ∧
      (rec_.arriveTol < distance target opening → rec_.arriveTol < (leg - opening).natAbs → ∃ p, d = .legNeeded p ∧
        (p.target : Int) = leg ∧
        (opening < p.target → p.direction = .raise) ∧ (p.target < opening → p.direction = .lower) ∧
        (s.mode = .noHead → p.speed = rec_.creepSpeed) ∧ (s.mode = .reverse → p.speed = rec_.normalSpeed) ∧
        (∀ h, s.mode = .curve → s.head = some h →
          p.speed = if (rec_.creepHead : Int) ≤ h.fwd then rec_.creepSpeed else rec_.normalSpeed) ∧
        (0 < p.speed → ∃ n, p.deadline = n + rec_.startAllowance ∧
          distance p.target opening * 60000 ≤ n * p.speed ∧
          ∀ m, distance p.target opening * 60000 ≤ m * p.speed → n ≤ m))) ∧
  ∀ (s : State) (g : GateId) (r : Request),
    let w := s.decideFor g r.target
    ((s.gate g).opening = none → w = { decision := .blocked none, clampedTo := none }) ∧
    (∀ o, (s.gate g).opening = some o → w = s.decideAt g r.target o ∧
      w.clampedTo = match (s.gate g).ceiling with
        | some c => if c < r.target then some c else none
        | none => none) ∧
    s.weigh g r = (w.decision,
      w.marks r (match w.decision with
        | .blocked (some term) => term
        | .legNeeded _ => .none
        | _ => r.waitReason),
      match w.clampedTo with
      | some goal => if r.clampReported then s else s.post (.clamped g r.target goal .ceiling)
      | none => s)

/-- The victim of a preemption moves, on a request above level 0, and no other such gate has a higher level, nor a later
stamp at that level; there is none only when no gate qualifies (R92). -/
def Obligations.VictimIsTheLeastUrgentMover : Prop :=
  ∀ s : State,
    let mover (g : GateId) (r : Request) (l : Leg) : Prop :=
      ((∃ w, (s.gate g).motion = .starting r l w) ∨ (s.gate g).motion = .travelling r l) ∧ 0 < r.level
    (∀ v, s.victim = some v → ∃ r l, mover v r l ∧ ∀ h r' l', mover h r' l' →
      r'.level < r.level ∨ (r'.level = r.level ∧ l'.stamp ≤ l.stamp)) ∧
    (s.victim = none → ∀ h r' l', ¬ mover h r' l')

/-- The preemption test stops one victim for each movable level-0 request beyond the gates that already stop for REQUEUE, as
long as there is one to stop. A MOVE at level 0 that needs a leg while no slot is free stops the victim with next step REQUEUE,
its request kept and a HALT for its hoists, and posts PREEMPTED with the gate as beneficiary; while a gate stops for REQUEUE, or
with no victim, it stops none. Both ways the gate waits as PENDING, and no slot moves (R69, R91, R92; M: log 20). -/
def Obligations.PreemptionStopsTheVictims : Prop :=
  (∀ (s : State) (unweighed : List GateId),
    let weighed := s.movable (unweighed.filter fun g => s.pendingLevel g = some 0)
    let movers := allGates.filter fun h => match (weighed.1.gate h).motion with
      | .starting r _ _ => decide (0 < r.level)
      | .travelling r _ => decide (0 < r.level)
      | _ => false
    (s.preemptionTest unweighed).requeueing =
      weighed.1.requeueing + min (weighed.2.length - weighed.1.requeueing) movers.length) ∧
  ∀ (s : State) (g : GateId) (payload : List Byte) (asked : Nat) (rest : List RxFrame) (p : Plan) (c : Option Nat),
    s.HasRequest 0x10#8 payload rest → s.AsksMove g payload asked 0 → s.stopAsserted = false → s.evalDue = false →
    (s.gate g).motion = .idle → s.waiting = [] → s.settings.slots ≤ s.slotsInUse →
    (∀ o, (s.gate g).opening = some o → (s.record g).arriveTol < distance (min asked (s.record g).fullTravel) o) →
    s.decideFor g (min asked (s.record g).fullTravel) = { decision := .legNeeded p, clampedTo := c } →
    ∃ t, exec .move s = .next t ∧ t.waiting = [g] ∧ t.slotsInUse = s.slotsInUse ∧
      (t.gate g).motion = .pending { target := min asked (s.record g).fullTravel, level := 0, origin := .station
                                     clampReported := c.isSome, waitReason := .none } ∧
      ((∃ h r l w, (s.gate h).motion = .stopping (.requeue r) l w) ∨ s.victim = none →
        ∀ h, h ≠ g → t.gate h = s.gate h) ∧
      ∀ v r l, (∀ h r l w, (s.gate h).motion ≠ .stopping (.requeue r) l w) → s.victim = some v →
        (∃ w, (s.gate v).motion = .starting r l w) ∨ (s.gate v).motion = .travelling r l →
        (t.gate v).motion =
          .stopping (.requeue r) { l with acks := .empty, paused := none } (4 * (s.record v).sampleWindow) ∧
        (∀ side a, (s.record v).hoist side = some a → a ∈ t.haltQueue) ∧
        (s.notices.length < 14 → { notice := .preempted v g, stamp := s.tideClock } ∈ t.notices) ∧
        ∀ h, h ≠ g → h ≠ v → t.gate h = s.gate h

/-! ## Resets and STOP_N -/

/-- Cold reset: every gate has the cold record and generation 0, is OUT_OF_SERVICE with nothing optional (R2, R18, R82); every
curve is empty with generation 0 (R35); every gauge disabled with no address, no good value and age 0, no side value, head or
disagreement, mode NO_HEAD (R33); the settings record and its generation cold, the staging record empty (R177); nothing waits, holds
a slot or counts in the Arbiter (R104); no notice and no overflow flag (R184). The part's own address and the bit rate are those of
the straps, the Route Table has STATION, SELF and UNUSED alone, and clock, counters, buffers and queues are empty (R128, R144,
R147, R188). By the model's choice the command queue stays as it is (log 28), and the command carries the level of the STOP_N pin,
whose filter counts from 0 (log 19). -/
def Obligations.ColdResetClearsThePart : Prop :=
  ∀ (s : State) (strap : BitVec 6) (rateHigh stopLow : Bool), ∃ t,
    exec (.coldReset strap rateHigh stopLow) s = .next t ∧
    (∀ g, (t.gate g).motion = .outOfService none ∧ (t.gate g).left = none ∧ (t.gate g).right = none ∧
      (t.gate g).ceiling = none ∧ (t.gate g).excursionReported = false ∧ (t.gate g).generation = 0 ∧
      t.record g = {
        inService := false, leftHoist := none, rightHoist := none, leftOffset := 0, rightOffset := 0, fullTravel := 8000
        curve := 0, spread := 0, linkLeft := false, linkRight := false, normalSpeed := 300, creepSpeed := 100
        creepHead := 30000, startAllowance := 10000, arriveTol := 25, trim := 40, trip := 120, sampleWindow := 500
        handshake := .interlocked, ackWindow := 1000, trackCeiling := false, defaultPriority := 4 }) ∧
    (∀ c, t.curve c = { points := [], generation := 0 }) ∧
    t.settings = { slots := 1, priorityMask := 7, silenceWindow := 0, reverseLimit := 300, reverseHyst := 100
                   gaugeAgree := 150, counterMode := .saturate } ∧
    t.settingsGen = 0 ∧ t.slotsInUse = 0 ∧ t.grantCounter = 0 ∧ t.waiting = [] ∧ t.silence = .off ∧
    t.stopAsserted = false ∧ t.faultN = false ∧ t.notices = [] ∧ t.overflow = false ∧
    (∀ n, t.gauge n = {
      record := { enabled := false, bank := .upstream, address := none, datumOffset := 0, lowPlaus := -10000
                  highPlaus := 20000, sampleWindow := 2000 }
      generation := 0, value := none, age := 0 }) ∧
    t.upstream = { value := none, disagree := false } ∧ t.downstream = { value := none, disagree := false } ∧
    t.head = none ∧ t.mode = .noHead ∧
    t.ownAddress.val = (if strap = 0 then 63 else strap.toNat) ∧
    t.rate = (if rateHigh then .r460800 else .r115200) ∧ t.stopPinLow = stopLow ∧ t.stopFilter = 0 ∧
    (∀ a, t.route a = { role := if a = 0 then .station else if a = t.ownAddress then .self else .unused
                        binding := none, passDown := .drop, passUp := .forward, generation := 0 }) ∧
    t.tideClock = 0 ∧ t.spCounters = .zero ∧ t.fpCounters = .zero ∧ t.spReceiver = [] ∧ t.fpReceiver = [] ∧
    t.spRx = [] ∧ t.fpRx = [] ∧ t.replies = [] ∧ t.upQueue = [] ∧ t.downQueue = [] ∧ t.haltQueue = [] ∧
    t.orderQueue = [] ∧ t.spTx = none ∧ t.fpTx = none ∧ t.capture = none ∧ t.staging = none ∧ t.pending = s.pending

/-- STOP_N assertion posts STOP_INPUT first, empties the pending list and stops every moving gate, with a HALT for its
hoists; gates in IDLE, HOLD and OUT_OF_SERVICE, and stops toward IDLE or OUT_OF_SERVICE, are unchanged (R98). Its release posts
STOP_INPUT and runs one evaluation, which has nothing to weigh: the pending list is empty while the input is asserted (R99,
R100). -/
def Obligations.StopInputStopsAllMotion : Prop :=
  (∀ s : State, s.SlotsCounted → s.stopAsserted = false → ∃ t, exec .stopNAssertion s = .next t ∧
    t.stopAsserted = true ∧ t.stopPinLow = true ∧ t.waiting = [] ∧ t.slotsInUse = s.slotsInUse ∧
    (s.notices.length < 16 →
      s.notices ++ [{ notice := .stopInput true, stamp := s.tideClock }] <+: t.notices) ∧
    ∀ g,
      (t.gate g).motion = (match (s.gate g).motion with
        | .pending _ => .idle
        | .starting _ l _ => .stopping .idle { l with acks := .empty, paused := none } (4 * (s.record g).sampleWindow)
        | .travelling _ l => .stopping .idle { l with acks := .empty, paused := none } (4 * (s.record g).sampleWindow)
        | .stopping (.restartLeg _) l w => .stopping .idle l w
        | .stopping (.requeue _) l w => .stopping .idle l w
        | other => other) ∧
      ((∃ r l, (∃ w, (s.gate g).motion = .starting r l w) ∨ (s.gate g).motion = .travelling r l) →
        ∀ side a, (s.record g).hoist side = some a → a ∈ t.haltQueue)) ∧
  ∀ s : State, s.stopAsserted = true → s.waiting = [] → s.evalDue = false → s.notices.length < 16 →
    exec .stopNRelease s = .next { s with
      stopPinLow := false, stopFilter := 0, stopAsserted := false
      notices := s.notices ++ [{ notice := .stopInput false, stamp := s.tideClock }] }

/-! ## Receivers -/

/-- A sync begins a candidate in a hunting receiver and is held as a character in a collecting one; a length above 48
discards the candidate, counts it, and the length character is looked at again, which begins a candidate when it is itself
0xA5. A candidate whose CRC is wrong, or which a gap abandons, is counted bad; where no further sync stands among its
characters the receiver then hunts (R132). A gap in a hunting receiver changes nothing (log 1). -/
def Obligations.CandidatesAreCollectedOrCountedBad : Prop :=
  ∀ (s : State) (port : Port),
    (s.receiver port = [] → exec (.candidateSync port) s =
      .next (s.setReceiver port [{ data := 0xA5#8, stamp := s.tideClock }])) ∧
    (∀ stamp len body, s.receiver port = { data := 0xA5#8, stamp := stamp } :: len :: body → len.data.toNat ≤ 48 →
      body.length + 1 < len.data.toNat + 5 → exec (.candidateSync port) s =
      .next (s.setReceiver port (s.receiver port ++ [{ data := 0xA5#8, stamp := s.tideClock }]))) ∧
    (∀ stamp len, s.receiver port = [{ data := 0xA5#8, stamp := stamp }] → 48 < len.toNat → len ≠ 0xA5#8 →
      exec (.lengthOver48 port len) s = .next ((s.setReceiver port []).count port .crcErrors)) ∧
    (∀ stamp, s.receiver port = [{ data := 0xA5#8, stamp := stamp }] →
      exec (.lengthOver48 port 0xA5#8) s =
        .next ((s.setReceiver port [{ data := 0xA5#8, stamp := s.tideClock }]).count port .crcErrors)) ∧
    (∀ stamp (len : Byte) (body : List Byte), s.receiver port = [{ data := 0xA5#8, stamp := stamp }] →
      len.toNat ≤ 48 → body.length = len.toNat + 5 → 0xA5#8 ∉ len :: body →
      body.drop (len.toNat + 3) ≠ crcBytes (crc (len :: body.take (len.toNat + 3))) →
      exec (.frameCheck port (len :: body)) s = .next ((s.setReceiver port []).count port .crcErrors)) ∧
    (∀ first rest, s.receiver port = first :: rest → (∀ x ∈ rest, x.data ≠ 0xA5#8) →
      exec (.receiveGapAbandon port) s = .next ((s.setReceiver port []).count port .crcErrors)) ∧
    (s.receiver port = [] → exec (.receiveGapAbandon port) s = .next s)

/-! ## The Frame Sorter -/

/-- A station frame from another source than 0, or to an address of role STATION or UNUSED, and a field frame from an
address of role UNUSED, STATION or SELF or to an address that is not its to send to, is a misroute (R158, R159). -/
def Obligations.MisroutesAreCountedAndCaptured : Prop :=
  ∀ (s : State) (f : RxFrame) (rest : List RxFrame),
    (s.HasStationFrame f rest →
      f.frame.source ≠ 0 ∨ (s.route f.frame.dest).role = .station ∨ (s.route f.frame.dest).role = .unused →
      exec .stationFrameSort s = .next ({ s with spRx := rest }.misrouted .sp f)) ∧
    (s.fpRx = f :: rest →
      (s.route f.frame.source).role = .unused ∨ (s.route f.frame.source).role = .station ∨
        (s.route f.frame.source).role = .self ∨
        ((s.route f.frame.source).role = .hoist ∨ (s.route f.frame.source).role = .gauge) ∧
          f.frame.dest ≠ 0 ∧ f.frame.dest ≠ s.ownAddress ∨
        (s.route f.frame.source).role = .other ∧ f.frame.dest ≠ 0 →
      exec .fieldFrameSort s = .next ({ s with fpRx := rest }.misrouted .fp f))

/-- A frame to the part that is none of the eleven requests is answered UNKNOWN_KIND, and one of them with a payload
length that is not listed for it BAD_LENGTH with that length; nothing else happens (R136, R151, R161, R176). -/
def Obligations.UnfitRequestsAreAnswered : Prop :=
  ∀ (s : State) (kind : Byte) (payload : List Byte) (rest : List RxFrame), s.HasRequest kind payload rest →
    (requestLengths kind = none → kind ≠ 0x21#8 →
      exec .stationFrameSort s = .next ({ s with spRx := rest }.reply kind .unknownKind 0 [])) ∧
    (∀ lengths, requestLengths kind = some lengths → payload.length ∉ lengths →
      exec .stationFrameSort s = .next ({ s with spRx := rest }.reply kind .badLength payload.length [])) ∧
    (kind = 0x21#8 → (∀ id, payload.head? = some id → payload.length ∉ writeLengths id) →
      exec .stationFrameSort s = .next ({ s with spRx := rest }.reply kind .badLength payload.length []))

/-- A station frame to a supervised hoist: HALT is relayed whatever the gate's state, NODE RESET unless the gate is PENDING
or holds a slot, and every other kind is refused; a refusal is counted as a route drop and answered with gate and side
(R152). -/
def Obligations.DirectOrdersAreRelayedOrRefused : Prop :=
  ∀ (s : State) (f : RxFrame) (rest : List RxFrame) (g : GateId) (side : Side),
    s.HasStationFrame f rest → f.frame.source = 0 → (s.route f.frame.dest).role = .hoist →
    (s.route f.frame.dest).binding = some (.hoist g side) →
    let taken : State := { s with spRx := rest }
    let refused (result : Result) : State :=
      (taken.count .sp .routeDrops).reply f.frame.kind result g.val
        [match side with
         | .left => 0#8
         | .right => 1#8]
    let busy : Prop := (s.gate g).motion.isPending = true ∨ (s.gate g).motion.holdsSlot = true
    (f.frame.kind = 0x43#8 → exec .stationFrameSort s = .next (taken.relayed f.frame)) ∧
    (f.frame.kind = 0x44#8 → ¬ busy → exec .stationFrameSort s = .next (taken.relayed f.frame)) ∧
    (f.frame.kind = 0x44#8 → busy → exec .stationFrameSort s = .next (refused .running)) ∧
    (f.frame.kind ≠ 0x43#8 → f.frame.kind ≠ 0x44#8 → exec .stationFrameSort s = .next (refused .refusedDirect))

/-- A station frame to a gauge is relayed whatever its kind, and one to an OTHER address by its pass_down; no reply is made,
and no reading is touched (R154). A field frame from an OTHER address to the station goes up unchanged with pass_up FORWARD and
is a route drop with CONSUME, whatever its kind; no block takes it (R157). -/
def Obligations.FramesArePassedThrough : Prop :=
  ∀ (s : State) (f : RxFrame) (rest : List RxFrame),
    (s.HasStationFrame f rest → f.frame.source = 0 →
      ((s.route f.frame.dest).role = .gauge →
        exec .stationFrameSort s = .next ({ s with spRx := rest }.relayed f.frame)) ∧
      ((s.route f.frame.dest).role = .other → (s.route f.frame.dest).passDown = .forward →
        exec .stationFrameSort s = .next ({ s with spRx := rest }.relayed f.frame)) ∧
      ((s.route f.frame.dest).role = .other → (s.route f.frame.dest).passDown = .drop →
        exec .stationFrameSort s = .next ({ s with spRx := rest }.count .sp .routeDrops))) ∧
    (s.fpRx = f :: rest → (s.route f.frame.source).role = .other → f.frame.dest = 0 →
      ((s.route f.frame.source).passUp = .forward → exec .fieldFrameSort s = .next (
        if s.upQueue.length < 16 then
          { s with fpRx := rest, upQueue := s.upQueue ++ [f.frame] }.count .fp .forwarded
        else { s with fpRx := rest }.count .fp .queueDrops)) ∧
      ((s.route f.frame.source).passUp = .consume →
        exec .fieldFrameSort s = .next ({ s with fpRx := rest }.count .fp .routeDrops)))

/-- A frame of a hoist or gauge that is no report of its role is taken by no block: to the station it is passed up, or
counted as a route drop when its entry consumes it; to the part it is a route drop (R155, R156, R160). -/
def Obligations.UnownedReportsAreNotTaken : Prop :=
  ∀ (s : State) (f : RxFrame) (rest : List RxFrame), s.fpRx = f :: rest →
    (s.route f.frame.source).role = .hoist ∧ f.frame.kind ≠ 0x50#8 ∧ f.frame.kind ≠ 0x51#8 ∨
      (s.route f.frame.source).role = .gauge ∧ f.frame.kind ≠ 0x58#8 →
    (f.frame.dest = 0 → (s.route f.frame.source).passUp = .forward →
      exec .fieldFrameSort s = .next (s.sentOn { s with fpRx := rest } f.frame)) ∧
    (f.frame.dest = 0 → (s.route f.frame.source).passUp = .consume →
      exec .fieldFrameSort s = .next ({ s with fpRx := rest }.count .fp .routeDrops)) ∧
    (f.frame.dest ≠ 0 → f.frame.dest = s.ownAddress →
      exec .fieldFrameSort s = .next ({ s with fpRx := rest }.count .fp .routeDrops))

/-! ## Reports of hoists and gauges -/

/-- A POSITION report replaces its side's sample whole, whatever its gate's checks then do, and leaves every other sample
and every record as they were; out of service that is all it does, and another payload length does nothing (R13, R17,
R109, R138). -/
def Obligations.PositionReplacesTheSample : Prop :=
  ∀ (s : State) (f : RxFrame) (rest : List RxFrame) (g : GateId) (side : Side), s.HasHoistReport f rest 0x50#8 g side →
    (∀ (hi lo st : Byte) (code : Nat),
      f.frame.payload = [hi, lo, st] ∧ code = 0 ∨ (∃ c, f.frame.payload = [hi, lo, st, c] ∧ code = c.toNat) →
      ∃ t x, exec .position s = .next t ∧ (t.gate g).sample side = some x ∧
        x.raw = min (hi.toNat * 256 + lo.toNat) 16383 ∧
        x.corrected = min ((x.raw : Int) + (s.record g).offset side).toNat (s.record g).fullTravel ∧
        x.stamp = f.stamp ∧ x.age = 0 ∧
        (st = 0 → x.state = .atRest ∧ x.faultCode = none) ∧ (st = 1 → x.state = .moving ∧ x.faultCode = none) ∧
        (st = 2 → x.state = .paused ∧ x.faultCode = none) ∧
        (st = 3 → x.state = .fault ∧ x.faultCode = some (if code = 0 then 255 else code)) ∧
        (3 < st.toNat → x.state = .fault ∧ x.faultCode = some 255) ∧
        (t.gate g).sample (otherSide side) = (s.gate g).sample (otherSide side) ∧
        (∀ h, h ≠ g → (t.gate h).left = (s.gate h).left ∧ (t.gate h).right = (s.gate h).right) ∧
        (∀ h, t.record h = s.record h) ∧
        ((s.gate g).motion.isOutOfService = true →
          t = s.sentOn ({ s with fpRx := rest }.setGate g ((s.gate g).withSample side (some x))) f.frame)) ∧
    (f.frame.payload.length ≠ 3 → f.frame.payload.length ≠ 4 →
      exec .position s = .next (s.sentOn { s with fpRx := rest } f.frame))

/-- A POSITION report that takes the skew above the trip holds its gate with SKEW, and one that reports FAULT with the skew
within the trip holds it with HOIST_FAULT, from every state but HOLD and OUT_OF_SERVICE (R74, R120, R124). -/
def Obligations.SkewAndFaultReportsHoldTheGate : Prop :=
  ∀ (s : State) (f : RxFrame) (rest : List RxFrame) (g : GateId) (side : Side) (hi lo st : Byte) (x : Sample),
    s.HasHoistReport f rest 0x50#8 g side → f.frame.Reports hi lo st →
    (s.gate g).motion.isOutOfService = false → (s.gate g).motion.isHold = false →
    x.corrected = (s.record g).corrected side (min (hi.toNat * 256 + lo.toNat) 16383) →
    (st.toNat < 3 → (∃ k, ((s.gate g).withSample side (some x)).skew = some k ∧ (s.record g).trip < k.natAbs) →
      ∃ t, exec .position s = .next t ∧ s.heldFor t g .skew) ∧
    (3 ≤ st.toNat → (∀ k, ((s.gate g).withSample side (some x)).skew = some k → k.natAbs ≤ (s.record g).trip) →
      ∃ t, exec .position s = .next t ∧ s.heldFor t g .hoistFault)

/-- The report that brings both hoists of a TRAVELLING gate to rest completes its leg: within arrive_tol of leg target and
request target, and with no excursion, the gate becomes IDLE and ARRIVED is posted; outside arrive_tol of the leg target it
is held with SHORTFALL (R65, R72, R121). A request not satisfied at a complete leg joins the tail of the pending list, and is
granted anew when it can move: told where nothing else that waits can be granted (R50, R56, R65, R89, R90). No evaluation is
owed when the report is taken, as HoldsAndEvaluationsStaySound says (log 16). -/
def Obligations.RestReportsEndTheLeg : Prop :=
  ∀ (s : State) (f : RxFrame) (rest : List RxFrame) (g : GateId) (side : Side) (hi lo : Byte) (x : Sample)
    (r : Request) (l : Leg) (o : Nat) (k : Int),
    s.HasHoistReport f rest 0x50#8 g side → f.frame.Reports hi lo 0 → (s.gate g).motion = .travelling r l →
    (match side with
      | .left => l.acks.right
      | .right => l.acks.left) = true →
    x.corrected = (s.record g).corrected side (min (hi.toNat * 256 + lo.toNat) 16383) →
    ((s.gate g).withSample side (some x)).opening = some o →
    ((s.gate g).withSample side (some x)).skew = some k → k.natAbs ≤ (s.record g).trip → s.evalDue = false →
    (distance o l.target ≤ (s.record g).arriveTol → distance r.target o ≤ (s.record g).arriveTol →
      (∀ c, (s.gate g).ceiling = some c → o ≤ c + (s.record g).arriveTol) → s.notices.length < 15 →
      ∃ t, exec .position s = .next t ∧ (t.gate g).motion = .idle ∧
        { notice := .arrived g o, stamp := s.tideClock } ∈ t.notices) ∧
    ((s.record g).arriveTol < distance o l.target →
      ∃ t, exec .position s = .next t ∧ s.heldFor t g .shortfall) ∧
    (distance o l.target ≤ (s.record g).arriveTol → (s.record g).arriveTol < distance r.target o → s.AllMasked →
      s.stopAsserted = false → 1 ≤ s.slotsInUse → s.slotsInUse ≤ s.settings.slots →
      let w := (s.setGate g ((s.gate g).withSample side (some x))).decideFor g r.target
      (s.Masked r.level → ∃ t, exec .position s = .next t ∧ (t.gate g).motion = .pending (w.marks r .masked) ∧
        t.waiting = s.waiting ++ [g] ∧ t.slotsInUse = s.slotsInUse - 1) ∧
      (∀ term, ¬ s.Masked r.level → w.decision = .blocked (some term) →
        ∃ t, exec .position s = .next t ∧ (t.gate g).motion = .pending (w.marks r term) ∧
          t.waiting = s.waiting ++ [g] ∧ t.slotsInUse = s.slotsInUse - 1) ∧
      ∀ p, ¬ s.Masked r.level → w.decision = .legNeeded p → s.grantCounter < 4294967295 → g ∉ s.waiting →
        staleUnder (s.record g).sampleWindow ((s.gate g).sample (otherSide side)) = false →
        ∃ t, exec .position s = .next t ∧ t.waiting = s.waiting ∧ t.slotsInUse = s.slotsInUse ∧
          (t.gate g).motion =
            .starting (w.marks r .none) (p.begun (s.grantCounter + 1)) (s.record g).ackWindow)

/-- The report that brings both hoists of a STOPPING gate to rest ends the stop by its next step: IDLE and OUT_OF_SERVICE give
the slot back; REQUEUE gives it back and joins the head of the pending list; RESTART_LEG weighs the request at rest and starts a
new leg with the stamp it had, arrives, or joins the head (R71, R72, R86, R88, R123); told where nothing else that waits can be
granted. -/
def Obligations.StopsEndByTheirNextStep : Prop :=
  ∀ (s : State) (f : RxFrame) (rest : List RxFrame) (g : GateId) (side : Side) (hi lo : Byte) (n : NextStep) (l : Leg)
    (window o : Nat),
    s.HasQuietReport f rest g side hi lo .atRest → (s.gate g).motion = .stopping n l window →
    (match side with
      | .left => l.acks.right
      | .right => l.acks.left) = true →
    let stored := s.reported f rest g side hi lo .atRest
    (stored.gate g).opening = some o → s.evalDue = false → s.stopAsserted = false → s.AllMasked → g ∉ s.waiting →
    1 ≤ s.slotsInUse → s.slotsInUse ≤ s.settings.slots → s.notices.length < 14 → s.grantCounter < 4294967295 →
    ∃ t, exec .position s = .next t ∧
      let ends (m : Motion) (list : List GateId) : Prop :=
        (t.gate g).motion = m ∧ t.waiting = list ∧ t.slotsInUse = s.slotsInUse - 1
      let arrives : Prop := ends .idle s.waiting ∧ { notice := .arrived g o, stamp := s.tideClock } ∈ t.notices
      (n = .idle → (stored.gate g).excursion = none → ends .idle s.waiting) ∧
      (∀ c, n = .outOfService c → ends (.outOfService c) s.waiting) ∧
      ∀ r, n = .restartLeg r ∨ n = .requeue r →
        let w := stored.decideFor g r.target
        (s.Masked r.level → n = .requeue r → ends (.pending { r with waitReason := .masked }) (g :: s.waiting)) ∧
        (∀ term, w.decision = .blocked (some term) →
          (s.Masked r.level → n = .restartLeg r → ends (.pending (w.marks r .masked)) (g :: s.waiting)) ∧
          (¬ s.Masked r.level → ends (.pending (w.marks r term)) (g :: s.waiting))) ∧
        (w.decision = .satisfied → (stored.gate g).excursion = none → n = .restartLeg r ∨ ¬ s.Masked r.level → arrives) ∧
        ∀ p, w.decision = .legNeeded p →
          (n = .restartLeg r → t.slotsInUse = s.slotsInUse ∧ t.waiting = s.waiting ∧
            (t.gate g).motion = .starting (w.marks r .none) (p.begun l.stamp) (s.record g).ackWindow ∧
            (s.linkingToward g = [] → (∀ a, (s.record g).leftHoist = some a → (s.record g).rightHoist ≠ some a) →
              ∀ side a, (s.record g).hoist side = some a →
                .run a (min ((p.target : Int) - (s.record g).offset side).toNat 16383) p.speed ∈ t.orderQueue)) ∧
          (n = .requeue r → ¬ s.Masked r.level →
            staleUnder (s.record g).sampleWindow ((s.gate g).sample (otherSide side)) = false →
            t.slotsInUse = s.slotsInUse ∧ t.waiting = s.waiting ∧ (t.gate g).motion =
              .starting (w.marks r .none) (p.begun (s.grantCounter + 1)) (s.record g).ackWindow)

/-- The skew trim of a TRAVELLING gate at a report of MOVING or PAUSED (R117, R118, R119): PAUSE to the lead hoist once the skew
exceeds trim, RESUME to the paused hoist at floor(trim / 2), with the skew absent, or when the other hoist leads, and no order
else; the paused hoist follows, the reporting side is taken from those at rest (R121), and nothing else changes. The orders
merge as R108 says; that a PAUSE or RESUME equal to an unsent one is not added is the model's reading (log 8). Told of a gate
toward which no other links. -/
def Obligations.SkewTrimPausesTheLeadHoist : Prop :=
  ∀ (s : State) (f : RxFrame) (rest : List RxFrame) (g : GateId) (side : Side) (hi lo : Byte) (state : HoistState)
    (r : Request) (l : Leg),
    s.HasQuietReport f rest g side hi lo state → state = .moving ∨ state = .paused →
    (s.gate g).motion = .travelling r l → s.evalDue = false → s.linkingToward g = [] →
    let stored := s.reported f rest g side hi lo state
    let trim := (s.record g).trim
    let acks : SideSet := match side with
      | .left => { l.acks with left := false }
      | .right => { l.acks with right := false }
    let goes (held : Option Side) (orders : List Order) : Host.Outcome State Fault Refusal :=
      .next (s.sentOn { stored.setMotion g (.travelling r { l with acks := acks, paused := held }) with
        orderQueue := orders } f.frame)
    ((stored.gate g).skew = none →
      (l.paused = none → exec .position s = goes none s.orderQueue) ∧
      ∀ held a, l.paused = some held → (s.record g).hoist held = some a →
        exec .position s = goes none (ordersResumed s.orderQueue a)) ∧
    ∀ k : Int, (stored.gate g).skew = some k →
      let leads (x : Side) : Prop := match l.direction, x with
        | .raise, .left => 0 < k
        | .raise, .right => k < 0
        | .lower, .left => k < 0
        | .lower, .right => 0 < k
      (l.paused = none → k.natAbs ≤ trim → exec .position s = goes none s.orderQueue) ∧
      (∀ lead a, l.paused = none → trim < k.natAbs → leads lead → (s.record g).hoist lead = some a →
        exec .position s = goes (some lead) (ordersPaused s.orderQueue a)) ∧
      (∀ held a, l.paused = some held → k.natAbs ≤ trim / 2 ∨ leads (otherSide held) → (s.record g).hoist held = some a →
        exec .position s = goes none (ordersResumed s.orderQueue a)) ∧
      ∀ held, l.paused = some held → trim / 2 < k.natAbs → leads held →
        exec .position s = goes (some held) s.orderQueue

/-- The excursion check that an opening change makes in IDLE (R72, R73): within tolerance of the ceiling the mark is cleared;
above it, a gate that follows its ceiling with STOP_N released asks for the ceiling by a request of origin ENVELOPE, at level 0
in REVERSE and at default_priority otherwise, at the tail of the pending list; any other gate is reported once, by an EXCURSION
notice, until the mark is cleared. In every other state the check does nothing. -/
def Obligations.ExcursionsAreFollowedOrReported : Prop :=
  (∀ (s : State) (g : GateId), (s.gate g).motion ≠ .idle → s.excursionCheck g = s) ∧
  ∀ (s : State) (f : RxFrame) (rest : List RxFrame) (g : GateId) (side : Side) (hi lo : Byte) (state : HoistState) (o c : Nat),
    s.HasQuietReport f rest g side hi lo state → (s.gate g).motion = .idle → s.evalDue = false →
    ((s.reported f rest g side hi lo state).gate g).opening = some o → (s.gate g).opening ≠ some o →
    (s.gate g).ceiling = some c →
    let rec_ := s.record g
    (o ≤ c + rec_.arriveTol →
      ∃ t, exec .position s = .next t ∧ (t.gate g).motion = .idle ∧ (t.gate g).excursionReported = false) ∧
    (c + rec_.arriveTol < o → rec_.trackCeiling = false ∨ s.stopAsserted = true →
      ∃ t, exec .position s = .next t ∧ (t.gate g).motion = .idle ∧ (t.gate g).excursionReported = true ∧
        ((s.gate g).excursionReported = false → s.notices.length < 16 →
          s.notices ++ [{ notice := .excursion g o c, stamp := s.tideClock }] <+: t.notices) ∧
        ((s.gate g).excursionReported = true → s.linkingToward g = [] → t.notices = s.notices)) ∧
    (c + rec_.arriveTol < o → rec_.trackCeiling = true → s.stopAsserted = false →
      let level := if s.mode = .reverse then 0 else rec_.defaultPriority
      let asks (reason : WaitReason) : Request :=
        { target := c, level := level, origin := .envelope, clampReported := false, waitReason := reason }
      ∃ t, exec .position s = .next t ∧
        ((∃ q, (t.gate g).motion.request = some q ∧ q.target = c ∧ q.level = level ∧ q.origin = .envelope) ∨
          ∃ h, (t.gate g).motion = .hold h (some { target := c, level := level })) ∧
        (s.AllMasked → s.Masked level →
          (t.gate g).motion = .pending (asks .masked) ∧ t.waiting = s.waiting ++ [g]) ∧
        (s.AllMasked → ¬ s.Masked level → level ≠ 0 → s.settings.slots ≤ s.slotsInUse →
          (t.gate g).motion = .pending (asks .none) ∧ t.waiting = s.waiting ++ [g]))

/-- An ACK of RUN adds its side in STARTING under INTERLOCKED, and the second side's starts the gate travelling; every other
ACK leaves the gate as it was (R111, R112). Under PULSED a report of MOVING adds its side and the second side's starts the gate
travelling; one of AT_REST or PAUSED takes no side away (R64, R110, R113; told of a gate toward which no other links, with the
skew within trim). -/
def Obligations.StartEvidenceStartsTheTravel : Prop :=
  (∀ (s : State) (f : RxFrame) (rest : List RxFrame) (g : GateId) (side : Side), s.HasHoistReport f rest 0x51#8 g side →
    (∀ r l w, (s.gate g).motion = .starting r l w → (s.record g).handshake = .interlocked →
      f.frame.payload = [0x40#8] →
      let acks : SideSet := match side with
        | .left => { l.acks with left := true }
        | .right => { l.acks with right := true }
      exec .ack s = .next (s.sentOn ({ s with fpRx := rest }.setMotion g
        (if acks.left && acks.right then .travelling r { l with acks := { left := false, right := false } }
         else .starting r { l with acks := acks } w)) f.frame)) ∧
    ((∀ r l w, (s.gate g).motion ≠ .starting r l w) ∨ (s.record g).handshake = .pulsed ∨ f.frame.payload ≠ [0x40#8] →
      exec .ack s = .next (s.sentOn { s with fpRx := rest } f.frame))) ∧
  ∀ (s : State) (f : RxFrame) (rest : List RxFrame) (g : GateId) (side : Side) (hi lo : Byte) (state : HoistState)
    (r : Request) (l : Leg) (w : Nat),
    s.HasQuietReport f rest g side hi lo state → (s.gate g).motion = .starting r l w →
    (s.record g).handshake = .pulsed → l.paused = none → s.evalDue = false → s.linkingToward g = [] →
    let stored := s.reported f rest g side hi lo state
    (∀ k, (stored.gate g).skew = some k → k.natAbs ≤ (s.record g).trim) →
    (state = .moving →
      let acks : SideSet := match side with
        | .left => { l.acks with left := true }
        | .right => { l.acks with right := true }
      exec .position s = .next (s.sentOn (stored.setMotion g
        (if acks.left && acks.right then .travelling r { l with acks := { left := false, right := false } }
         else .starting r { l with acks := acks } w)) f.frame)) ∧
    (state ≠ .moving → (l.acks.left && l.acks.right) = false → exec .position s = .next (s.sentOn stored f.frame))

/-- The side value (R24, R25, R26, R27): none without a fresh gauge, the level of a single one, and of two or more the two
freshest, by age and then by number: the average rounded toward minus infinity when they are at most gauge_agree apart, else the
interval between them, with the disagreement flag set and GAUGE_DISAGREE posted where the flag was clear, the lower-numbered
gauge's level first. Nothing else changes. -/
def Obligations.SideValuesFollowTheFreshestGauges : Prop :=
  ∀ (s : State) (b : Bank),
    let forms (value : Option Levels) : State := s.setBank b { value := value, disagree := false }
    ((∀ n v a, ¬ s.FreshAt b n v a) → s.recomputeBank b = forms none) ∧
    (∀ n v a, s.FreshAt b n v a → (∀ m w e, s.FreshAt b m w e → m = n) →
      s.recomputeBank b = forms (some { hi := v, lo := v })) ∧
    ∀ m n v w a e, s.FreshAt b m v a → s.FreshAt b n w e → m < n →
      (∀ k x i, s.FreshAt b k x i → k = m ∨ k = n ∨ ((a < i ∨ a = i ∧ m < k) ∧ (e < i ∨ e = i ∧ n < k))) →
      ((v - w).natAbs ≤ s.settings.gaugeAgree →
        ∃ q, 2 * q ≤ v + w ∧ v + w < 2 * q + 2 ∧ s.recomputeBank b = forms (some { hi := q, lo := q })) ∧
      (s.settings.gaugeAgree < (v - w).natAbs →
        let apart := s.setBank b { value := some { hi := max v w, lo := min v w }, disagree := true }
        s.recomputeBank b = if (s.bank b).disagree then apart else apart.post (.gaugeDisagree b v w))

/-- An accepted LEVEL sample becomes the gauge's good value with age 0, and its side, head pair and mode are recomputed; a
sample of a disabled gauge, with another status than OK, outside the plausibility bounds, or in another payload length, changes
nothing (R22, R23, R28, R29, R138). -/
def Obligations.LevelSamplesAreAcceptedOrRejected : Prop :=
  ∀ (s : State) (f : RxFrame) (rest : List RxFrame) (n : GaugeId), s.HasLevelReport f rest n →
    let r := (s.gauge n).record
    (∀ hi lo v, f.frame.payload = [hi, lo, 0] → v = signed16 (hi.toNat * 256 + lo.toNat) + r.datumOffset →
      r.enabled = true → r.lowPlaus ≤ v → v ≤ r.highPlaus →
      ∃ t, exec .level s = .next t ∧ t.gauge n = { s.gauge n with value := some v, age := 0 } ∧
        (let taken : State := { s with fpRx := rest }.setGauge n { s.gauge n with value := some v, age := 0 }
         (∀ b, t.bank b = if b = r.bank then (taken.recomputeBank b).bank b else s.bank b) ∧
         (taken.recomputeBank r.bank).notices <+: t.notices) ∧
        (∀ m, m ≠ n → t.gauge m = s.gauge m) ∧ t.head = headOf t.upstream.value t.downstream.value ∧
        t.mode = modeAfter s.settings s.mode t.head) ∧
    (∀ hi lo st v, f.frame.payload = [hi, lo, st] → v = signed16 (hi.toNat * 256 + lo.toNat) + r.datumOffset →
      r.enabled = false ∨ st ≠ 0 ∨ v < r.lowPlaus ∨ r.highPlaus < v →
      exec .level s = .next (s.sentOn { s with fpRx := rest } f.frame)) ∧
    (f.frame.payload.length ≠ 3 → exec .level s = .next (s.sentOn { s with fpRx := rest } f.frame))

/-- The head pair is there when both side values are, with its two differences (R28). Handed to the Level Unit it is stored
with the mode of the table of R29, each of the six changes of mode posts its notices in the order of R30 and no other does, and
the ceilings of in-service gates are those of R38 (R28, R29, R30, R38). -/
def Obligations.HeadModeAndCeilingsFollowTheTables : Prop :=
  (∀ up down, headOf up down = none ↔ up = none ∨ down = none) ∧
  (∀ u d, headOf (some u) (some d) = some { fwd := u.hi - d.lo, rev := d.hi - u.lo }) ∧
  ∀ (s t : State) (head : Option Head), t = s.newHead head →
    t.head = head ∧ (head = none → t.mode = .noHead) ∧
    (∀ h, head = some h →
      (s.mode ≠ .reverse → t.mode = if (s.settings.reverseLimit : Int) ≤ h.rev then .reverse else .curve) ∧
      (s.mode = .reverse →
        t.mode = if (s.settings.reverseLimit : Int) - s.settings.reverseHyst ≤ h.rev then .reverse else .curve)) ∧
    (s.notices.length < 15 →
      let posts (ns : List Notice) : Prop :=
        s.notices ++ ns.map (fun n => { notice := n, stamp := s.tideClock }) <+: t.notices
      (∀ h, head = some h →
        (s.mode = .curve → t.mode = .reverse → posts [.reverseOn h.rev]) ∧
        (s.mode = .reverse → t.mode = .curve → posts [.reverseOff h.rev]) ∧
        (s.mode = .noHead → t.mode = .curve → posts [.noHeadOff]) ∧
        (s.mode = .noHead → t.mode = .reverse → posts [.noHeadOff, .reverseOn h.rev])) ∧
      (s.mode = .curve → t.mode = .noHead → posts [.noHeadOn]) ∧
      (∀ h, s.mode = .reverse → s.head = some h → t.mode = .noHead → posts [.reverseOff h.rev, .noHeadOn])) ∧
    (t.mode = s.mode → head = s.head → t = s) ∧
    (∀ n ∈ t.notices, n ∈ s.notices ∨ (s.mode ≠ t.mode ∧
        ((∃ v, n.notice = .reverseOn v) ∨ (∃ v, n.notice = .reverseOff v) ∨ n.notice = .noHeadOn ∨ n.notice = .noHeadOff)) ∨
      ((∀ v, n.notice ≠ .reverseOn v) ∧ (∀ v, n.notice ≠ .reverseOff v) ∧ n.notice ≠ .noHeadOn ∧ n.notice ≠ .noHeadOff)) ∧
    ((∀ g, (s.gate g).ceiling = s.computeCeiling (s.gate g)) → ∀ g,
      ((s.record g).inService = false ∨ t.mode = .noHead → (t.gate g).ceiling = none) ∧
      ((s.record g).inService = true → t.mode = .reverse → (t.gate g).ceiling = some 0) ∧
      ∀ h, (s.record g).inService = true → t.mode = .curve → head = some h →
        (t.gate g).ceiling =
          (curveValue (s.curve (s.record g).curve).points h.fwd).map fun v => min v (s.record g).fullTravel)

/-- A gauge that goes stale has its side recomputed (R24); as the last fresh one of its side it takes the side value, the head
pair and every ceiling away, and the mode becomes NO_HEAD (R24, R26, R28, R29, R38). By the model's choice a command for a
gauge within its window changes nothing (log 1). -/
def Obligations.StaleGaugesRemoveTheHead : Prop :=
  ∀ (s : State) (n : GaugeId), (s.gauge n).value ≠ none → (s.gauge n).record.enabled = true →
    ((s.gauge n).record.sampleWindow < (s.gauge n).age → ∃ t, exec (.gaugeStale n) s = .next t ∧
      (∀ b, t.bank b = if b = (s.gauge n).record.bank then (s.recomputeBank b).bank b else s.bank b) ∧
      (s.recomputeBank (s.gauge n).record.bank).notices <+: t.notices ∧
      t.head = headOf t.upstream.value t.downstream.value ∧ t.mode = modeAfter s.settings s.mode t.head ∧
      t.gauges = s.gauges) ∧
    ((s.gauge n).record.sampleWindow < (s.gauge n).age → s.LevelsSettled →
      (∀ m, m ≠ n → (s.gauge m).record.bank = (s.gauge n).record.bank → (s.gauge m).fresh = none) →
      ∃ t, exec (.gaugeStale n) s = .next t ∧
        t.bank (s.gauge n).record.bank = { value := none, disagree := false } ∧ t.head = none ∧ t.mode = .noHead ∧
        (∀ g, (t.gate g).ceiling = none) ∧ t.gauges = s.gauges) ∧
    ((s.gauge n).age ≤ (s.gauge n).record.sampleWindow → exec (.gaugeStale n) s = .next s)

/-! ## Motion requests -/

/-- What the motion requests are refused for, with no further effect: a gate above 11 (INVALID 1), a GROUP action that is
neither STOP nor SET (INVALID 2), a MOVE or GROUP SET while STOP_N is asserted (STOP_INPUT), and a MOVE at a level above that
of the gate's request (OUTRANKED with the standing level) (R57, R59, R61, R77, R94, R99, R175, R176). -/
def Obligations.RefusedMotionRequestsChangeNothing : Prop :=
  ∀ (s : State) (kind : Byte) (payload : List Byte) (rest : List RxFrame), s.HasRequest kind payload rest →
    let answer (result : Result) (detail : Nat) (data : List Byte) : Host.Outcome State Fault Refusal :=
      .next { s with
        spRx := rest
        replies := s.replies ++ [{ kind := kind, result := result, detail := byte detail, data := data }] }
    (∀ (n hi lo : Byte), 11 < n.toNat →
      (kind = 0x10#8 → payload = [n, hi, lo] ∨ (∃ lv, payload = [n, hi, lo, lv]) →
        exec .move s = answer .invalid 1 []) ∧
      (kind = 0x11#8 → payload = [n] → exec .stop s = answer .invalid 1 []) ∧
      (kind = 0x13#8 → payload = [n] → exec .clearHold s = answer .invalid 1 [])) ∧
    (∀ action mask target level, kind = 0x12#8 → asksGroup payload action mask target level →
      action ≠ 0 → action ≠ 1 → exec .groupInvalidAction s = answer .invalid 2 []) ∧
    (∀ g asked level, kind = 0x10#8 → s.AsksMove g payload asked level → s.stopAsserted = true →
      exec .move s = answer .stopInput 0 []) ∧
    (∀ mask target level, kind = 0x12#8 → asksGroup payload 1 mask target level → s.stopAsserted = true →
      exec .groupSet s = answer .stopInput 0 [0, 0, 0, 0, byte level]) ∧
    (∀ g asked level r, kind = 0x10#8 → s.AsksMove g payload asked level → s.stopAsserted = false →
      (s.gate g).motion.request = some r → r.level < level →
      exec .move s = answer .outranked r.level (be16 (min asked (s.record g).fullTravel) ++ [byte level]))

/-- A MOVE to a gate out of service, held, or stopping to leave service becomes its deferred or carried target (DEFERRED); to
a gate stopping for another reason it becomes the request that the stop ends with; a target above full_travel is lowered and
posts CLAMPED (R57, R58, R59, R70). -/
def Obligations.MovesToGatesThatCannotMoveAreKept : Prop :=
  ∀ (s : State) (g : GateId) (payload : List Byte) (asked level : Nat) (rest : List RxFrame),
    s.HasRequest 0x10#8 payload rest → s.AsksMove g payload asked level → s.stopAsserted = false → s.evalDue = false →
    let travel := (s.record g).fullTravel
    let kept : Target := { target := min asked travel, level := level }
    let told : State := if travel < asked then { s with spRx := rest }.post (.clamped g asked travel .travel)
      else { s with spRx := rest }
    let answer (m : Motion) (result : Result) : Host.Outcome State Fault Refusal :=
      .next ((told.setMotion g m).reply 0x10#8 result 0 (be16 (min asked travel) ++ [byte level]))
    let taken : Result := if travel < asked then .clamped else .accepted
    (∀ d, (s.gate g).motion = .outOfService d → exec .move s = answer (.outOfService (some kept)) .deferred) ∧
    (∀ h d, (s.gate g).motion = .hold h d → exec .move s = answer (.hold h (some kept)) .deferred) ∧
    (∀ c l w, (s.gate g).motion = .stopping (.outOfService c) l w →
      exec .move s = answer (.stopping (.outOfService (some kept)) l w) .deferred) ∧
    (∀ l w, (s.gate g).motion = .stopping .idle l w →
      let asks : Request := { target := min asked travel, level := level, origin := .station
                              clampReported := false, waitReason := .none }
      exec .move s = answer (.stopping (.restartLeg asks) l w) taken) ∧
    ∀ r l w, level ≤ r.level →
      let replaced : Request := { target := min asked travel, level := level, origin := .station
                                  clampReported := false, waitReason := r.waitReason }
      ((s.gate g).motion = .stopping (.restartLeg r) l w →
        exec .move s = answer (.stopping (.restartLeg replaced) l w) taken) ∧
      ((s.gate g).motion = .stopping (.requeue r) l w →
        exec .move s = answer (.stopping (.requeue replaced) l w) taken)

/-- A MOVE to an IDLE gate within tolerance is answered and ARRIVED at once, with no request; one that needs a leg, with a
slot free, nothing else waiting, an unmasked level and fresh hoists, is granted: the gate is STARTING on the decision's leg
with the next stamp, and RUN waits for each hoist with its raw target (R54, R57, R60, R63, R89, R90). -/
def Obligations.MovesOfIdleGatesAreGranted : Prop :=
  ∀ (s : State) (g : GateId) (payload : List Byte) (asked level o : Nat) (rest : List RxFrame),
    s.HasRequest 0x10#8 payload rest → s.AsksMove g payload asked level → s.stopAsserted = false → s.evalDue = false →
    (s.gate g).motion = .idle → (s.gate g).opening = some o →
    let r := s.record g
    let target := min asked r.fullTravel
    let answer : Reply := { kind := 0x10#8, result := if r.fullTravel < asked then .clamped else .accepted, detail := 0,
                            data := be16 target ++ [byte level] }
    (distance target o ≤ r.arriveTol → asked ≤ r.fullTravel → s.notices.length < 16 →
      exec .move s = .next { s with
        spRx := rest
        notices := s.notices ++ [{ notice := .arrived g o, stamp := s.tideClock }]
        replies := s.replies ++ [answer] }) ∧
    (∀ p c, r.arriveTol < distance target o →
      s.decideFor g target = { decision := .legNeeded p, clampedTo := c } →
      s.waiting = [] → s.slotsInUse < s.settings.slots → level = 0 ∨ level ≤ s.settings.priorityMask →
      staleUnder r.sampleWindow (s.gate g).left = false → staleUnder r.sampleWindow (s.gate g).right = false →
      s.grantCounter < 4294967295 → (∀ a, r.leftHoist = some a → r.rightHoist ≠ some a) →
      ∃ t, exec .move s = .next t ∧
        (t.gate g).motion = .starting
          { target := target, level := level, origin := .station, clampReported := c.isSome, waitReason := .none }
          { target := p.target, direction := p.direction, speed := p.speed, deadline := p.deadline
            acks := { left := false, right := false }, paused := none, stamp := s.grantCounter + 1 }
          r.ackWindow ∧
        (∀ h, h ≠ g → t.gate h = s.gate h) ∧ t.slotsInUse = s.slotsInUse + 1 ∧
        t.grantCounter = s.grantCounter + 1 ∧ t.waiting = [] ∧ t.replies = s.replies ++ [answer] ∧
        (∀ side a, r.hoist side = some a →
          .run a (min ((p.target : Int) - r.offset side).toNat 16383) p.speed ∈ t.orderQueue))

/-- A MOVE that cannot be granted at once waits in the pending list: one of an IDLE gate joins it with the wait reason of its
decision, with MASKED above the priority mask, or with none while no slot is free; one of a PENDING gate replaces its request
in its place and is weighed anew: it waits on, is granted, or has arrived. Told where no other request waits; and a replaced
request keeps its place behind any others while no slot is free (R50, R58, R59, R60, R86, R89, R90). -/
def Obligations.MovesWaitInThePendingList : Prop :=
  ∀ (s : State) (g : GateId) (payload : List Byte) (asked level : Nat) (rest : List RxFrame),
    s.HasRequest 0x10#8 payload rest → s.AsksMove g payload asked level → s.stopAsserted = false → s.evalDue = false →
    let rec_ := s.record g
    let target := min asked rec_.fullTravel
    let w := s.decideFor g target
    let asks (reason : WaitReason) (clamped : Bool) : Request :=
      { target := target, level := level, origin := .station, clampReported := clamped, waitReason := reason }
    let answer : Reply := { kind := 0x10#8, result := if rec_.fullTravel < asked then .clamped else .accepted, detail := 0,
                            data := be16 target ++ [byte level] }
    let goes (m : Motion) (list : List GateId) (slots : Nat) : Prop :=
      ∃ t, exec .move s = .next t ∧ (t.gate g).motion = m ∧ t.waiting = list ∧ t.slotsInUse = slots ∧
        (∀ h, h ≠ g → t.gate h = s.gate h) ∧ t.replies = s.replies ++ [answer]
    ((s.gate g).motion = .idle → s.waiting = [] →
      (∀ o, (s.gate g).opening = some o → rec_.arriveTol < distance target o) →
      (s.Masked level → goes (.pending (asks .masked false)) [g] s.slotsInUse) ∧
      (¬ s.Masked level → level ≠ 0 → s.settings.slots ≤ s.slotsInUse →
        goes (.pending (asks .none false)) [g] s.slotsInUse) ∧
      ∀ term, ¬ s.Masked level → s.slotsInUse < s.settings.slots → w.decision = .blocked term →
        goes (.pending (asks (term.getD .none) w.clampedTo.isSome)) [g] s.slotsInUse) ∧
    ∀ r, (s.gate g).motion = .pending r → level ≤ r.level →
      let reason := if r.waitReason = .masked then .none else r.waitReason
      (s.waiting = [g] →
        (s.Masked level → goes (.pending (asks .masked false)) [g] s.slotsInUse) ∧
        (¬ s.Masked level → level ≠ 0 → s.settings.slots ≤ s.slotsInUse →
          goes (.pending (asks reason false)) [g] s.slotsInUse) ∧
        (¬ s.Masked level → s.slotsInUse < s.settings.slots →
          (∀ term, w.decision = .blocked term →
            goes (.pending (asks (term.getD reason) w.clampedTo.isSome)) [g] s.slotsInUse) ∧
          (∀ p, w.decision = .legNeeded p → s.grantCounter < 4294967295 →
            staleUnder rec_.sampleWindow (s.gate g).left = false →
            staleUnder rec_.sampleWindow (s.gate g).right = false →
            goes (.starting (asks .none w.clampedTo.isSome) (p.begun (s.grantCounter + 1)) rec_.ackWindow) []
              (s.slotsInUse + 1)) ∧
          (w.decision = .satisfied → (s.gate g).excursion = none →
            goes .idle [] s.slotsInUse ∧
            ∀ t o, exec .move s = .next t → (s.gate g).opening = some o → s.notices.length < 14 →
              { notice := .arrived g o, stamp := s.tideClock } ∈ t.notices))) ∧
      (g ∈ s.waiting → 0 < level → s.settings.slots ≤ s.slotsInUse →
        (∀ h q, (s.gate h).motion = .pending q → h ≠ g → 0 < q.level) →
        ∃ t q, exec .move s = .next t ∧ t.waiting = s.waiting ∧ (t.gate g).motion = .pending q ∧
          q.target = target ∧ q.level = level ∧ q.origin = .station)

/-- A MOVE that replaces the request of a moving gate re-targets it: a leg in its present direction goes on, and when target or
speed differ with a RESUME for a paused hoist and then a new RUN for each hoist, else with no order; a leg the other way, or
none, stops it for a restart, and a blocked request for its place at the head of the list, with a HALT for each hoist in the
place of their unsent orders (R54, R59, R66, R67, R68, R69, R108, R112 to R114; two equal orders: log 8). -/
def Obligations.MovesRetargetMovingGates : Prop :=
  ∀ (s : State) (g : GateId) (payload : List Byte) (asked level : Nat) (rest : List RxFrame) (old : Request) (l : Leg)
    (window : Option Nat),
    s.HasRequest 0x10#8 payload rest → s.AsksMove g payload asked level → s.stopAsserted = false → s.evalDue = false →
    (s.gate g).motion = (match window with
      | some w => .starting old l w
      | none => .travelling old l) →
    level ≤ old.level → (s.gate g).opening ≠ none →
    let rec_ := s.record g
    let target := min asked rec_.fullTravel
    let w := s.decideFor g target
    let asks (reason : WaitReason) : Request :=
      { target := target, level := level, origin := .station, clampReported := w.clampedTo.isSome, waitReason := reason }
    ∃ t, exec .move s = .next t ∧
      let unmoved : Prop := t.orderQueue = s.orderQueue ∧ t.haltQueue = s.haltQueue
      let stopped (next : NextStep) : Prop :=
        (t.gate g).motion = .stopping next { l with acks := .empty, paused := none } (4 * rec_.sampleWindow) ∧
        (∀ side a, rec_.hoist side = some a → a ∈ t.haltQueue) ∧ s.haltQueue <+: t.haltQueue ∧
        t.orderQueue = s.orderQueue.filter fun o =>
          decide (rec_.leftHoist ≠ some o.hoist) && decide (rec_.rightHoist ≠ some o.hoist)
      (∀ h, h ≠ g → t.gate h = s.gate h) ∧ t.slotsInUse = s.slotsInUse ∧ t.waiting = s.waiting ∧
      t.replies = s.replies ++ [{ kind := 0x10#8, result := if rec_.fullTravel < asked then .clamped else .accepted
                                  detail := 0, data := be16 target ++ [byte level] }] ∧
      (w.decision = .satisfied → stopped (.restartLeg (asks old.waitReason))) ∧
      (∀ reason, w.decision = .blocked (some reason) → stopped (.requeue (asks reason))) ∧
      ∀ p, w.decision = .legNeeded p →
        let goesOn : Leg := { l with target := p.target, speed := p.speed, deadline := p.deadline, paused := none }
        (p.direction ≠ l.direction → stopped (.restartLeg (asks .none))) ∧
        (p.direction = l.direction → p.target = l.target → p.speed = l.speed →
          (t.gate g).motion = (match window with
            | some k => .starting (asks .none) l k
            | none => .travelling (asks .none) l) ∧ unmoved) ∧
        (p.direction = l.direction → p.target ≠ l.target ∨ p.speed ≠ l.speed →
          (∀ a b, rec_.leftHoist = some a → rec_.rightHoist = some b → a ≠ b →
            let raw (side : Side) : Nat := min ((p.target : Int) - rec_.offset side).toNat 16383
            let waiting : List Order := match l.paused with
              | none => s.orderQueue
              | some .left => ordersResumed s.orderQueue a
              | some .right => ordersResumed s.orderQueue b
            t.haltQueue = s.haltQueue ∧
            t.orderQueue = waiting.filter (fun o => !o.isRunFor a && !o.isRunFor b) ++
              [.run a (raw .left) p.speed, .run b (raw .right) p.speed]) ∧
          (rec_.handshake = .interlocked →
            (t.gate g).motion = .starting (asks .none) { goesOn with acks := .empty } rec_.ackWindow) ∧
          (rec_.handshake = .pulsed → ∀ k, window = some k → (t.gate g).motion = .starting (asks .none) goesOn k) ∧
          (rec_.handshake = .pulsed → window = none →
            (t.gate g).motion = .travelling (asks .none) { goesOn with acks := .empty }))

/-- STOP is ACCEPTED in every state: a moving gate is stopped toward IDLE, a stop keeps no request and no carried target, a
PENDING request is discarded, a deferred target is discarded (R61, R69, R70, R72). The excursion check of the entry into IDLE
is the one that finds nothing. -/
def Obligations.StopActsByTheGateState : Prop :=
  ∀ (s : State) (g : GateId) (rest : List RxFrame), s.HasRequest 0x11#8 [byte g.val] rest → s.evalDue = false →
    let taken : State := { s with spRx := rest }
    let answer (t : State) : Host.Outcome State Fault Refusal := .next (t.reply 0x11#8 .accepted 0 [])
    (∀ d, (s.gate g).motion = .outOfService d → exec .stop s = answer (taken.setMotion g (.outOfService none))) ∧
    ((s.gate g).motion = .idle → exec .stop s = answer taken) ∧
    (∀ r, (s.gate g).motion = .pending r → (s.gate g).excursion = none →
      exec .stop s = answer ({ taken.setMotion g .idle with waiting := s.waiting.filter (· ≠ g) }.setExcursion g false)) ∧
    (∀ r l w, (s.gate g).motion = .starting r l w ∨ (s.gate g).motion = .travelling r l →
      exec .stop s = answer ((taken.haltGate g).setMotion g
        (.stopping .idle { l with acks := .empty, paused := none } (4 * (s.record g).sampleWindow)))) ∧
    (∀ c l w, (s.gate g).motion = .stopping (.outOfService c) l w →
      exec .stop s = answer (taken.setMotion g (.stopping (.outOfService none) l w))) ∧
    (∀ n l w, (s.gate g).motion = .stopping n l w → (∀ c, n ≠ .outOfService c) →
      exec .stop s = answer (taken.setMotion g (.stopping .idle l w))) ∧
    ∀ h d, (s.gate g).motion = .hold h d → exec .stop s = answer (taken.setMotion g (.hold h none))

/-- GROUP SET: the reply's two masks sort the named gates as R95 says, and each gate that takes the target acts by its state as
a MOVE does: it stores it, is IDLE at once within tolerance, waits or is granted, re-targets, or keeps it for the end of its
stop; a refused gate out of service stores none (R50, R58, R59, R60, R66 to R68, R70, R94, R95). -/
def Obligations.GroupSetSortsTheNamedGates : Prop :=
  ∀ (s : State) (payload : List Byte) (mask target level : Nat) (rest : List RxFrame),
    s.HasRequest 0x12#8 payload rest → asksGroup payload 1 mask target level → s.stopAsserted = false →
    let undeferrable (g : GateId) : Bool :=
      (s.gate g).motion.isOutOfService && (s.record g).leftHoist.isNone && (s.record g).rightHoist.isNone
    let outranked (g : GateId) : Bool := match (s.gate g).motion.request with
      | some r => decide (r.level < level)
      | none => false
    let effect := allGates.filter fun g => named mask g && !(undeferrable g || outranked g)
    let refused := allGates.filter fun g => named mask g && (undeferrable g || outranked g)
    ∃ t, exec .groupSet s = .next t ∧
      t.replies = s.replies ++ [{ kind := 0x12#8, result := .accepted, detail := 0
                                  data := be16 (gatesMask effect) ++ be16 (gatesMask refused) ++ [byte level] }] ∧
      (∀ g, undeferrable g = true → (t.gate g).motion = (s.gate g).motion) ∧
      ∀ g, g ∈ effect →
        let kept : Target := { target := min target (s.record g).fullTravel, level := level }
        (∀ d, (s.gate g).motion = .outOfService d → (t.gate g).motion = .outOfService (some kept)) ∧
        (∀ h d, (s.gate g).motion = .hold h d → (t.gate g).motion = .hold h (some kept)) ∧
        let w := s.decideFor g kept.target
        let full : Prop := s.settings.slots ≤ s.slotsInUse ∧ 0 < level
        let asks (reason : WaitReason) : Request :=
          { target := kept.target, level := level, origin := .group, clampReported := false, waitReason := reason }
        let takes (q : Request) : Prop := q.target = kept.target ∧ q.level = level ∧ q.origin = .group
        let asksOrHolds : Prop :=
          (∃ q, (t.gate g).motion.request = some q ∧ takes q) ∨ ∃ h, (t.gate g).motion = .hold h (some kept)
        let stopsFor (next : Request → NextStep) : Prop :=
          ∃ q l k, (t.gate g).motion = .stopping (next q) l k ∧ takes q
        let outside : Prop := ∀ o, (s.gate g).opening = some o → (s.record g).arriveTol < distance kept.target o
        (∀ c l k, (s.gate g).motion = .stopping (.outOfService c) l k →
          ∃ l', (t.gate g).motion = .stopping (.outOfService (some kept)) l' k) ∧
        (∀ l k, (s.gate g).motion = .stopping .idle l k →
          ∃ l', (t.gate g).motion = .stopping (.restartLeg (asks .none)) l' k) ∧
        (∀ r l k, (s.gate g).motion = .stopping (.restartLeg r) l k →
          ∃ l', (t.gate g).motion = .stopping (.restartLeg (asks r.waitReason)) l' k) ∧
        (∀ r l k, (s.gate g).motion = .stopping (.requeue r) l k →
          ∃ l', (t.gate g).motion = .stopping (.requeue (asks r.waitReason)) l' k) ∧
        ((s.gate g).motion = .idle →
          (∀ o, (s.gate g).opening = some o → distance kept.target o ≤ (s.record g).arriveTol →
            (t.gate g).motion = .idle ∧
            ({ notice := .arrived g o, stamp := s.tideClock } ∈ t.notices ∨ t.overflow = true)) ∧
          (outside → asksOrHolds ∧
            (full → (s.Masked level → (t.gate g).motion = .pending (asks .masked)) ∧
              (¬ s.Masked level → (t.gate g).motion = .pending (asks .none))))) ∧
        (∀ r, (s.gate g).motion = .pending r →
          (outside → asksOrHolds) ∧
          (g ∈ s.waiting → full → (s.Masked level → (t.gate g).motion = .pending (asks .masked)) ∧
            (¬ s.Masked level → (t.gate g).motion =
              .pending (asks (if r.waitReason = .masked then .none else r.waitReason))))) ∧
        ∀ r l, (∃ k, (s.gate g).motion = .starting r l k) ∨ (s.gate g).motion = .travelling r l →
          (w.decision = .satisfied → stopsFor .restartLeg) ∧
          (∀ term, w.decision = .blocked (some term) → stopsFor .requeue) ∧
          (w.decision = .blocked none → ∃ q, (t.gate g).motion.request = some q ∧ takes q) ∧
          ∀ p, w.decision = .legNeeded p →
            (p.direction ≠ l.direction → stopsFor .restartLeg) ∧
            (p.direction = l.direction → ∃ q, (t.gate g).motion.request = some q ∧ takes q)

/-- GROUP STOP: every named gate is in the effect mask and is stopped as by STOP, no gate is refused (R61, R70, R94, R96; the
applied level in the reply: log 12), and a moving one has a HALT waiting for its hoists (R69). A PENDING gate leaves the pending
list for IDLE, its request discarded; one that follows its ceiling and stands above it then asks anew with origin ENVELOPE
(R72, R73). Where no named gate does so, no evaluation falls between the stops, and each named gate goes on exactly as its state
says, the others stay as they are; else an earlier gate's join may have granted a PENDING gate before its own stop is made. -/
def Obligations.GroupStopStopsTheNamedGates : Prop :=
  ∀ (s : State) (payload : List Byte) (mask target level : Nat) (rest : List RxFrame),
    s.HasRequest 0x12#8 payload rest → asksGroup payload 0 mask target level →
    let moves (g : GateId) : Prop :=
      ∃ r l, (∃ w, (s.gate g).motion = .starting r l w) ∨ (s.gate g).motion = .travelling r l
    let follows (g : GateId) : Prop :=
      (s.record g).trackCeiling = true ∧ s.stopAsserted = false ∧ (s.gate g).excursion ≠ none
    let quiet : Prop := s.evalDue = false ∧
      ∀ g r, named mask g = true → (s.gate g).motion = .pending r → ¬ follows g
    ∃ t, exec .groupStop s = .next t ∧
      t.replies = s.replies ++ [{ kind := 0x12#8, result := .accepted, detail := 0
                                  data := be16 (gatesMask (allGates.filter (named mask))) ++ [0, 0] ++ [byte level] }] ∧
      (quiet →
        t.waiting = s.waiting.filter (fun g => !(named mask g && (s.gate g).motion.isPending)) ∧
        t.slotsInUse = s.slotsInUse ∧
        (∀ a, a ∈ t.haltQueue ↔
          a ∈ s.haltQueue ∨ ∃ g side, named mask g = true ∧ moves g ∧ (s.record g).hoist side = some a) ∧
        (∀ g, named mask g = false → t.gate g = s.gate g) ∧
        ∀ g, named mask g = true → (t.gate g).motion = match (s.gate g).motion with
          | .outOfService _ => .outOfService none
          | .idle => .idle
          | .pending _ => .idle
          | .starting _ l _ =>
            .stopping .idle { l with acks := .empty, paused := none } (4 * (s.record g).sampleWindow)
          | .travelling _ l =>
            .stopping .idle { l with acks := .empty, paused := none } (4 * (s.record g).sampleWindow)
          | .stopping (.outOfService _) l w => .stopping (.outOfService none) l w
          | .stopping _ l w => .stopping .idle l w
          | .hold h _ => .hold h none) ∧
      ∀ g, named mask g = true →
        let halts : Prop := ∃ l w, (t.gate g).motion = .stopping .idle l w
        (moves g → halts ∧ ∀ side a, (s.record g).hoist side = some a → a ∈ t.haltQueue) ∧
        (∀ n l w, (s.gate g).motion = .stopping n l w → (∀ c, n ≠ .outOfService c) →
          ∃ l', (t.gate g).motion = .stopping .idle l' w) ∧
        (∀ c l w, (s.gate g).motion = .stopping (.outOfService c) l w →
          ∃ l', (t.gate g).motion = .stopping (.outOfService none) l' w) ∧
        (∀ h d, (s.gate g).motion = .hold h d → (t.gate g).motion = .hold h none) ∧
        (∀ d, (s.gate g).motion = .outOfService d → (t.gate g).motion = .outOfService none) ∧
        ((s.gate g).motion = .idle → (t.gate g).motion = .idle) ∧
        ∀ r, (s.gate g).motion = .pending r →
          (¬ follows g → (t.gate g).motion = .idle ∨ halts ∨ ∃ h, (t.gate g).motion = .hold h none) ∧
          ∀ o c, follows g → (s.gate g).excursion = some (o, c) →
            let asks : Target := { target := c, level := if s.mode = .reverse then 0 else (s.record g).defaultPriority }
            halts ∨ (∃ h, (t.gate g).motion = .hold h none ∨ (t.gate g).motion = .hold h (some asks)) ∨
            ∃ q, (t.gate g).motion.request = some q ∧ q.target = asks.target ∧ q.level = asks.level ∧ q.origin = .envelope

/-- CLEAR HOLD: without a hold it has no effect; while a reason is still present the first such reason is answered and the
hold stands; otherwise the gate leaves HOLD with a HOLD_CLEARED notice marked REQUEST, for OUT_OF_SERVICE with its deferred
target, or for IDLE (here with no deferred target to use up, and no excursion) (R72, R77, R78). A POSITION report that finds
both hoists fresh takes STALE out of the further reasons; where STALE is the primary reason the first further one takes its
place with a HELD notice, or without one the gate leaves HOLD with HOLD_CLEARED marked AUTO, its deferred target used up as a
request of origin STATION; a report with the other hoist stale leaves the hold as it was (R60, R62, R76, R78, R115). -/
def Obligations.HoldsClearByRequestOrFreshReports : Prop :=
  (∀ (s : State) (g : GateId) (rest : List RxFrame), s.HasRequest 0x13#8 [byte g.val] rest → s.evalDue = false →
    let taken : State := { s with spRx := rest }
    let answer (t : State) : Host.Outcome State Fault Refusal := .next (t.reply 0x13#8 .accepted 0 [])
    ((∀ h d, (s.gate g).motion ≠ .hold h d) → exec .clearHold s = answer taken) ∧
    ∀ h d, (s.gate g).motion = .hold h d →
      (∀ before reason after, h.primary :: h.further = before ++ reason :: after → (s.gate g).reasonPresent reason →
        (∀ x ∈ before, ¬ (s.gate g).reasonPresent x) →
        exec .clearHold s = .next (taken.reply 0x13#8 .stillPresent reason.code [])) ∧
      ((∀ x ∈ h.primary :: h.further, ¬ (s.gate g).reasonPresent x) →
        ((s.record g).inService = false → exec .clearHold s =
          answer (((taken.post (.holdCleared g .request)).setMotion g (.outOfService d)).setExcursion g false)) ∧
        ((s.record g).inService = true → d = none ∨ s.stopAsserted = true → (s.gate g).excursion = none →
          exec .clearHold s =
            answer (((taken.post (.holdCleared g .request)).setMotion g .idle).setExcursion g false)))) ∧
  ∀ (s : State) (f : RxFrame) (rest : List RxFrame) (g : GateId) (side : Side) (hi lo : Byte) (state : HoistState) (h : Hold)
    (d : Option Target),
    s.HasQuietReport f rest g side hi lo state → (s.gate g).motion = .hold h d → s.evalDue = false →
    let x := (s.reported f rest g side hi lo state).gate g
    let fresh := !staleUnder (8 * (s.record g).sampleWindow) (x.sample (otherSide side))
    let others := h.further.filter (· ≠ .stale)
    let posts (t : State) (n : Notice) : Prop :=
      s.notices.length < 15 → { notice := n, stamp := s.tideClock } ∈ t.notices
    ∃ t, exec .position s = .next t ∧
      (fresh = false → (t.gate g).motion = .hold h d) ∧
      (fresh = true → h.primary ≠ .stale → (t.gate g).motion = .hold { h with further := others } d) ∧
      (∀ next later, fresh = true → h.primary = .stale → others = next :: later →
        (t.gate g).motion = .hold { primary := next, further := later } d ∧ posts t (.held g next x.opening x.skew)) ∧
      (fresh = true → h.primary = .stale → others = [] →
        posts t (.holdCleared g .auto) ∧
        ((s.record g).inService = false → (t.gate g).motion = .outOfService d) ∧
        ((s.record g).inService = true → d = none ∨ s.stopAsserted = true → x.excursion = none →
          (t.gate g).motion = .idle) ∧
        ∀ kept, (s.record g).inService = true → d = some kept → s.stopAsserted = false →
          (∀ o, x.opening = some o → distance kept.target o ≤ (s.record g).arriveTol →
            posts t (.arrived g o) ∧ (x.excursion = none → (t.gate g).motion = .idle)) ∧
          ((∀ o, x.opening = some o → (s.record g).arriveTol < distance kept.target o) →
            (∃ q, (t.gate g).motion.request = some q ∧ q.target = kept.target ∧ q.level = kept.level ∧
              q.origin = .station) ∨
            ∃ h, (t.gate g).motion = .hold h (some kept)))

/-! ## Tables, status and time -/

/-- TABLE READ returns identifier, index, generation and record of every table, and refuses an identifier or index outside
them INVALID with detail 0; STATUS READ returns the part asked for, part 0 when none is named, with its items in the
order, the widths and the codes of R170, and refuses a gate above 11 with detail 1 and a part above 1 with detail 2 (R161, R162,
R164, R170, R175). -/
def Obligations.ReadsReturnTheRecordsAsTheyStand : Prop :=
  ∀ (s : State) (kind : Byte) (payload : List Byte) (rest : List RxFrame), s.HasRequest kind payload rest →
    let answer (result : Result) (detail : Nat) (data : List Byte) : Host.Outcome State Fault Refusal :=
      .next ({ s with spRx := rest }.reply kind result detail data)
    let record (ix : Nat) (id : Byte) (gen : CountWord) (bytes : List Byte) : Prop :=
      payload = [id, byte ix] → exec .tableRead s = answer .accepted 0 ([id, byte ix] ++ be16 gen.toNat ++ bytes)
    let item (width : Nat) (value : Option (List Byte)) : List Byte := match value with
      | none => 0 :: List.replicate width 0
      | some bytes => 1 :: bytes
    let yes (b : Bool) : Byte := if b then 1 else 0
    let sample (x : Sample) : List Byte :=
      be16 x.raw ++ be16 x.corrected ++ [(match x.state with
        | .atRest => 0
        | .moving => 1
        | .paused => 2
        | .fault => 3), byte (x.faultCode.getD 0)] ++ be32 x.stamp.toNat ++ be32 x.age
    let request (r : Request) : List Byte :=
      be16 r.target ++ [byte r.level, (match r.origin with
        | .station => 0
        | .group => 1
        | .envelope => 2), yes r.clampReported, (match r.waitReason with
        | .none => 0
        | .masked => 1
        | .spread => 2
        | .ceiling => 3
        | .noHead => 4)]
    let leg (l : Leg) : List Byte :=
      be16 l.target ++ [match l.direction with
        | .raise => 0
        | .lower => 1] ++ be16 l.speed ++ be32 l.deadline ++
      [byte ((if l.acks.left then 1 else 0) + if l.acks.right then 2 else 0), (match l.paused with
        | none => 0
        | some .left => 1
        | some .right => 2)] ++ be32 l.stamp
    let reason : HoldReason → Byte
      | .skew => 1
      | .stale => 2
      | .noAck => 3
      | .noStart => 4
      | .timeout => 5
      | .shortfall => 6
      | .hoistFault => 7
      | .noStop => 8
    let hold (h : Hold) : List Byte :=
      [reason h.primary, byte h.further.length] ++ (List.range 7).map fun i => (h.further[i]?.map reason).getD 0
    let state (m : Motion) : Byte := match m with
      | .outOfService _ => 0
      | .idle => 1
      | .pending _ => 2
      | .starting _ _ _ => 3
      | .travelling _ _ => 4
      | .stopping _ _ _ => 5
      | .hold _ _ => 6
    let part0 (x : Gate) : List Byte :=
      item 14 (x.left.map sample) ++ item 14 (x.right.map sample) ++ item 2 (x.opening.map be16) ++
      item 2 (x.skew.map fun k => be16 (k % 65536).toNat) ++ item 2 (x.ceiling.map be16) ++ [yes x.excursionReported]
    let part1 (m : Motion) : List Byte :=
      item 6 ((match m with
        | .pending r => some r
        | .starting r _ _ => some r
        | .travelling r _ => some r
        | .stopping (.restartLeg r) _ _ => some r
        | .stopping (.requeue r) _ _ => some r
        | _ => none).map request) ++
      item 3 ((match m with
        | .hold _ d => d
        | .outOfService d => d
        | .stopping (.outOfService c) _ _ => c
        | _ => none).map fun (k : Target) => be16 k.target ++ [byte k.level]) ++
      item 15 ((match m with
        | .starting _ l _ => some l
        | .travelling _ l => some l
        | .stopping _ l _ => some l
        | _ => none).map leg) ++
      item 1 (match m with
        | .stopping .idle _ _ => some [0]
        | .stopping (.restartLeg _) _ _ => some [1]
        | .stopping (.requeue _) _ _ => some [2]
        | .stopping (.outOfService _) _ _ => some [3]
        | _ => none) ++
      item 9 (match m with
        | .hold h _ => some (hold h)
        | _ => none)
    let status (g : GateId) (part : Byte) : List Byte :=
      [byte g.val, part, state (s.gate g).motion] ++ if part = 0 then part0 (s.gate g) else part1 (s.gate g).motion
    (kind = 0x20#8 →
      (∀ g : GateId, record g.val 0 (s.gate g).generation (s.record g).bytes) ∧
      (∀ c : Fin 4, record c.val 1 (s.curve c).generation (s.curve c).firstBytes ∧
        record c.val 2 (s.curve c).generation (s.curve c).secondBytes) ∧
      (∀ n : GaugeId, record n.val 3 (s.gauge n).generation (s.gauge n).record.bytes) ∧
      (∀ a : LinkAddr, record a.val 4 (s.route a).generation ((s.route a).bytes ++ match (s.route a).binding with
        | none => [0, 0, 0]
        | some (.hoist g .left) => [1, byte g.val, 0]
        | some (.hoist g .right) => [1, byte g.val, 1]
        | some (.gauge n) => [1, byte n.val, 0])) ∧
      record 0 5 s.settingsGen s.settings.bytes ∧
      ∀ id ix : Byte, payload = [id, ix] →
        5 < id.toNat ∨ (id = 0 ∧ 11 < ix.toNat) ∨ ((id = 1 ∨ id = 2 ∨ id = 3) ∧ 3 < ix.toNat) ∨
          (id = 4 ∧ 63 < ix.toNat) ∨ (id = 5 ∧ ix ≠ 0) →
        exec .tableRead s = answer .invalid 0 []) ∧
    (kind = 0x22#8 →
      (∀ g : GateId, payload = [byte g.val] → exec .statusRead s = answer .accepted 0 (status g 0)) ∧
      (∀ (g : GateId) (part : Byte), payload = [byte g.val, part] → part.toNat ≤ 1 →
        exec .statusRead s = answer .accepted 0 (status g part)) ∧
      (∀ (g : GateId) (part : Byte), payload = [byte g.val, part] → 1 < part.toNat →
        exec .statusRead s = answer .invalid 2 []) ∧
      ∀ n : Byte, 11 < n.toNat → payload = [n] ∨ (∃ part, payload = [n, part]) →
        exec .statusRead s = answer .invalid 1 [])

/-- COUNTER SNAPSHOT copies the fourteen counters and, with the clear flag, zeroes them; MISROUTE READ returns the capture
record and empties it; TIME SET sets the clock and returns the one before, and touches no stamp, age, window or timer
(R171, R172, R173). -/
def Obligations.SnapshotMisrouteReadAndTimeSet : Prop :=
  ∀ (s : State) (kind : Byte) (payload : List Byte) (rest : List RxFrame), s.HasRequest kind payload rest →
    let ofPort (c : Counters) : List Byte :=
      be16 c.good.toNat ++ be16 c.crcErrors.toNat ++ be16 c.overruns.toNat ++ be16 c.forwarded.toNat ++
      be16 c.routeDrops.toNat ++ be16 c.queueDrops.toNat ++ be16 c.misroutes.toNat
    (∀ flag, kind = 0x23#8 → payload = [flag] → exec .counterSnapshot s = .next (
      { s with
        spRx := rest
        spCounters := if flag = 0 then s.spCounters else .zero
        fpCounters := if flag = 0 then s.fpCounters else .zero }.reply 0x23#8 .accepted 0
        (ofPort s.spCounters ++ ofPort s.fpCounters))) ∧
    (kind = 0x24#8 → payload = [] → exec .misrouteRead s = .next (
      { s with spRx := rest, capture := none }.reply 0x24#8 .accepted 0 (match s.capture with
        | none => [0#8]
        | some c => [1#8, (match c.port with
            | .sp => 0#8
            | .fp => 1#8), addrByte c.src, addrByte c.dst, c.kind] ++ be32 c.stamp.toNat))) ∧
    (∀ a b c d : Byte, kind = 0x25#8 → payload = [a, b, c, d] → exec .timeSet s = .next (
      { s with spRx := rest, tideClock := a ++ b ++ c ++ d }.reply 0x25#8 .accepted 0 (be32 s.tideClock.toNat)))

/-- A TABLE WRITE is refused by the first check of R165 that fails, in its order: INVALID with the first field or item that fails
its check (R10, R20, R36, R149, R163), GENERATION for a conditional write with another generation (R166), RUNNING with the first
motion-fixed field that differs at a gate with a slot (R11), IN_USE for an address, a curve or a role in use (R3; both hoists in
use: the model's choice, log 29), BUSY. It is answered with that check's result and detail and the generation as it stands, and
changes nothing else; where no check fails, the write is judged fit. A second part is judged by the flag and generation staged with
the first; one without its first part is INVALID with detail 0, and one refused by a later check empties the staging record (R168,
R169). A write to an index outside its table, or to an identifier outside the six, is INVALID with detail 0 (R161; its generation is
a free value, log 9; the row that takes an unknown identifier is the one of its length, log 11; a curve number above 3: log 10). -/
def Obligations.RefusedWritesChangeNothing : Prop :=
  ∀ (s : State) (id ix : Byte) (p : List Byte) (rest : List RxFrame), s.HasRequest 0x21#8 (id :: ix :: p) rest →
    let r := p.drop 3
    let answer (t : State) (result : Result) (detail : Nat) (gen : CountWord) : Host.Outcome State Fault Refusal :=
      .next ({ t with spRx := rest }.reply 0x21#8 result detail ([id, ix] ++ be16 gen.toNat))
    let outdated (gen : CountWord) (i : Nat) : Prop := i = 0 ∧ byteAt p 0 ≠ 0 ∧ u16At p 1 ≠ gen.toNat
    let judged (c : Instr) (left : State) (gen : CountWord) (verdict : Option Refused)
        (checks : List (Result × (Nat → Prop))) : Prop :=
      (∀ result detail, Refuses checks result detail → exec c s = answer left result detail gen) ∧
      ((∀ result detail, ¬ Refuses checks result detail) → verdict = none)
    (∀ g : GateId, id = 0 → ix = byte g.val → p.length = 38 →
      judged .tableWriteGate s (s.gate g).generation (s.judgeGate g (id :: ix :: p))
        [(.invalid, s.gateFieldFails r),
         (.generation, outdated (s.gate g).generation),
         (.running, fun i => ((∃ q l w, (s.gate g).motion = .starting q l w) ∨ (∃ q l, (s.gate g).motion = .travelling q l) ∨
           ∃ n l w, (s.gate g).motion = .stopping n l w) ∧ (s.record g).fixedFieldDiffers r i),
         (.inUse, fun i => i = 2 ∧ s.addressUsed (byteAt r 1) .hoist (.hoist g .left) ∨
           i = 3 ∧ s.addressUsed (byteAt r 2) .hoist (.hoist g .right))]) ∧
    (∀ c : Fin 4, id = 1 → ix = byte c.val → p.length = 36 →
      judged .tableWriteCurveFirstPart s (s.curve c).generation (s.judgeFirstPart c (id :: ix :: p))
        [(.invalid, firstPartFails r),
         (.generation, outdated (s.curve c).generation),
         (.inUse, fun i => i = 1 ∧ byteAt r 0 = 0 ∧
           ∃ g, (s.record g).inService = true ∧ (s.record g).curve = c)]) ∧
    (∀ c : Fin 4, id = 2 → ix = byte c.val → p.length = 35 →
      ((∀ staged, s.staging = some staged → staged.curve ≠ c) →
        exec .tableWriteCurveSecondPart s = answer s .invalid 0 (s.curve c).generation) ∧
      ∀ staged, s.staging = some staged → staged.curve = c →
        judged .tableWriteCurveSecondPart { s with staging := none } (s.curve c).generation
          (s.judgeSecondPart c staged (id :: ix :: p))
          [(.invalid, staged.secondPartFails r),
           (.generation, fun i => i = 0 ∧ staged.conditional = true ∧ staged.expected ≠ (s.curve c).generation)]) ∧
    (∀ n : GaugeId, id = 3 → ix = byte n.val → p.length = 14 →
      judged .tableWriteGauge s (s.gauge n).generation (s.judgeGauge n (id :: ix :: p))
        [(.invalid, s.gaugeFieldFails r),
         (.generation, outdated (s.gauge n).generation),
         (.inUse, fun i => i = 3 ∧ s.addressUsed (byteAt r 2) .gauge (.gauge n))]) ∧
    (∀ a : LinkAddr, id = 4 → ix = byte a.val → p.length = 6 →
      judged .tableWriteRoute s (s.route a).generation (s.judgeRoute a (id :: ix :: p))
        [(.invalid, routeFieldFails (s.route a).role r),
         (.generation, outdated (s.route a).generation),
         (.inUse, fun i => i = 1 ∧ roleChanges (s.route a).role r)]) ∧
    (id = 5 → ix = 0 → p.length = 14 →
      judged .tableWriteSettings s s.settingsGen (s.judgeSettings (id :: ix :: p))
        [(.invalid, settingsFieldFails r),
         (.generation, outdated s.settingsGen),
         (.busy, fun i => i = 1 ∧ byteAt r 0 < s.slotsInUse)]) ∧
    let namesNone (c : Instr) : Prop :=
      exec c s = answer { s with freeCount := s.freeCount + 1 } .invalid 0 (Config.freeGeneration s.freeCount)
    (id = 0 ∧ 11 < ix.toNat ∨ 5 < id.toNat → p.length = 38 → namesNone .tableWriteGate) ∧
    (id = 1 ∧ 3 < ix.toNat ∨ 5 < id.toNat → p.length = 36 → namesNone .tableWriteCurveFirstPart) ∧
    (id = 2 ∧ 3 < ix.toNat ∨ 5 < id.toNat → p.length = 35 → namesNone .tableWriteCurveSecondPart) ∧
    (id = 3 ∧ 3 < ix.toNat ∨ 5 < id.toNat → p.length = 14 → namesNone .tableWriteGauge) ∧
    (id = 4 ∧ 63 < ix.toNat ∨ 5 < id.toNat → p.length = 6 → namesNone .tableWriteRoute) ∧
    (id = 5 → ix ≠ 0 → p.length = 14 → namesNone .tableWriteSettings)

/-- An accepted gate record write: the record with its generation, and no other gate's; the bindings and samples of its
hoists, with the positions corrected anew; the gate's ceiling; the targets lowered with full_travel; and one reply with the new
generation (R4, R5, R40, R166, R167). A gate put in service: from OUT_OF_SERVICE to HOLD with STALE and its deferred target; a
stop toward OUT_OF_SERVICE goes on to a restart for its carried target, or to IDLE while STOP_N is asserted or without one; a
hold stays (R70, R80, R99). A gate taken out: IDLE, PENDING and HOLD become OUT_OF_SERVICE, keeping request or deferred target; a
moving gate stops toward it with a HALT for its hoists, and a stop changes its next step (R69, R70, R81). By the model's reading
a gate with a slot that the write makes stale is held first, and so goes out of service at once (R12, R116; log 13). The evaluation that ends the write may renumber the stamp
of a leg when it grants (R90). -/
def Obligations.AcceptedGateWritesTakeEffect : Prop :=
  ∀ (s : State) (g : GateId) (flag e1 e0 : Byte) (r : List Byte) (rest : List RxFrame), r.length = 35 →
    s.HasRequest 0x21#8 ([0, byte g.val, flag, e1, e0] ++ r) rest →
    s.judgeGate g ([0, byte g.val, flag, e1, e0] ++ r) = none → s.RoutesBound →
    let old := s.record g
    let new := (RawGate.parse r).record
    let x := s.gate g
    let lowered (t : Target) : Target :=
      { t with target := if new.fullTravel < old.fullTravel then min t.target new.fullTravel else t.target }
    let asTarget (q : Request) : Target := { target := q.target, level := q.level }
    let stales (window : Nat) : Prop := ∃ side, x.stale side = false ∧
      (old.hoist side ≠ new.hoist side ∨ staleUnder window (x.sample side) = true)
    ∃ t, exec .tableWriteGate s = .next t ∧ t.record g = new ∧
      let stops (next : NextStep) (l : Leg) (window : Nat) : Prop := ∃ stamp,
        (t.gate g).motion = .stopping next { l with stamp := stamp } window ∧ (s.waiting = [] → stamp = l.stamp)
      (t.gate g).generation = (s.gate g).generation + 1 ∧
      (∀ h, h ≠ g → t.record h = s.record h ∧ (t.gate h).generation = (s.gate h).generation) ∧
      (∀ side, old.hoist side ≠ new.hoist side → (t.gate g).sample side = none ∧
        ∀ a, new.hoist side = some a →
          (t.route a).role = .hoist ∧ (t.route a).binding = some (.hoist g side) ∧
          (t.route a).generation = (s.route a).generation) ∧
      (∀ side, old.hoist side = new.hoist side → (t.gate g).sample side = (x.sample side).map fun v =>
        if old.leftOffset = new.leftOffset ∧ old.rightOffset = new.rightOffset ∧ old.fullTravel = new.fullTravel then v
        else { v with corrected := min ((v.raw : Int) + new.offset side).toNat new.fullTravel }) ∧
      (t.gate g).ceiling = t.computeCeiling (t.gate g) ∧
      (old.inService = new.inService →
        (∀ d, x.motion = .outOfService d → (t.gate g).motion = .outOfService (d.map lowered)) ∧
        ∀ q, x.motion = .pending q →
          (∀ o, (t.gate g).opening = some o → new.arriveTol < distance (lowered (asTarget q)).target o) →
          (∃ q', (t.gate g).motion.request = some q' ∧ asTarget q' = lowered (asTarget q)) ∨
          ∃ h, (t.gate g).motion = .hold h (some (lowered (asTarget q)))) ∧
      (old.inService = false ∨ new.inService = true → ∀ h d, x.motion = .hold h d →
        (¬ stales (8 * new.sampleWindow) → (t.gate g).motion = .hold h (d.map lowered)) ∧
        (stales (8 * new.sampleWindow) → (t.gate g).motion = .hold { h with
          further := if h.primary = .stale ∨ .stale ∈ h.further then h.further else h.further ++ [.stale] } (d.map lowered))) ∧
      (old.inService = false → new.inService = true →
        (∀ d, x.motion = .outOfService d →
          (t.gate g).motion = .hold { primary := .stale, further := [] } (d.map lowered) ∧ t.faultN = true ∧
          (s.notices.length < 16 →
            { notice := .held g .stale (t.gate g).opening (t.gate g).skew, stamp := s.tideClock } ∈ t.notices)) ∧
        ∀ c l w, x.motion = .stopping (.outOfService c) l w → ¬ stales new.sampleWindow →
          (s.stopAsserted = true ∨ c = none → stops .idle l w) ∧
          ∀ k, s.stopAsserted = false → c = some k →
            stops (.restartLeg { target := k.target, level := k.level, origin := .station
                                 clampReported := false, waitReason := .none }) l w) ∧
      (old.inService = true → new.inService = false →
        (x.motion.isOutOfService = false → ∀ d, (t.gate g).motion = .outOfService d →
          (t.gate g).excursionReported = false) ∧
        (x.motion = .idle → (t.gate g).motion = .outOfService none) ∧
        (∀ q, x.motion = .pending q →
          (t.gate g).motion = .outOfService (some (lowered (asTarget q))) ∧ g ∉ t.waiting) ∧
        (∀ h d, x.motion = .hold h d → (t.gate g).motion = .outOfService (d.map lowered) ∧
          ∀ n ∈ t.notices, n ∈ s.notices ∨ ∀ h b, n.notice ≠ .holdCleared h b) ∧
        (∀ q l, (∃ w, x.motion = .starting q l w) ∨ x.motion = .travelling q l →
          (∀ side a, old.hoist side = some a → a ∈ t.haltQueue) ∧
          (¬ stales new.sampleWindow →
            stops (.outOfService (some (asTarget q))) { l with acks := .empty, paused := none } (4 * new.sampleWindow)) ∧
          (stales new.sampleWindow → (t.gate g).motion = .outOfService (some (asTarget q)))) ∧
        ∀ n l w, x.motion = .stopping n l w →
          let carried : Option Target := match n with
            | .idle => none
            | .restartLeg q => some (asTarget q)
            | .requeue q => some (asTarget q)
            | .outOfService c => c
          (¬ stales new.sampleWindow → stops (.outOfService carried) l w) ∧
          (stales new.sampleWindow → (t.gate g).motion = .outOfService carried)) ∧
      t.replies = s.replies ++ [{ kind := 0x21#8, result := .accepted, detail := 0
                                  data := [0, byte g.val] ++ be16 ((s.gate g).generation + 1).toNat }]

/-- A curve's first part of up to eight breakpoints that passes is a whole write; a longer one is staged, with DEFERRED; and
the second part that passes completes it and empties the staging record (R35, R165, R166, R168, R169). -/
def Obligations.AcceptedCurveWritesTakeEffect : Prop :=
  ∀ (s : State) (c : Fin 4) (flag e1 e0 : Byte) (r : List Byte) (rest : List RxFrame),
    let gen := (s.curve c).generation
    let reply (id : Byte) (result : Result) (g : CountWord) : Reply :=
      { kind := 0x21#8, result := result, detail := 0, data := [id, byte c.val] ++ be16 g.toNat }
    (r.length = 33 → s.HasRequest 0x21#8 ([1, byte c.val, flag, e1, e0] ++ r) rest →
      s.judgeFirstPart c ([1, byte c.val, flag, e1, e0] ++ r) = none →
      (byteAt r 0 ≤ 8 → ∃ t, exec .tableWriteCurveFirstPart s = .next t ∧
        t.curve c = { points := toPoints (rawPoints r 1 (byteAt r 0)), generation := gen + 1 } ∧
        (∀ d, d ≠ c → t.curve d = s.curve d) ∧ t.staging = s.staging ∧
        t.replies = s.replies ++ [reply 1 .accepted (gen + 1)]) ∧
      (8 < byteAt r 0 → exec .tableWriteCurveFirstPart s = .next { s with
        spRx := rest
        staging := some { curve := c, count := byteAt r 0, points := toPoints (rawPoints r 1 8)
                          conditional := decide (flag ≠ 0), expected := e1 ++ e0 }
        replies := s.replies ++ [reply 1 .deferred gen] })) ∧
    ∀ staged, s.staging = some staged → staged.curve = c → r.length = 32 →
      s.HasRequest 0x21#8 ([2, byte c.val, flag, e1, e0] ++ r) rest →
      s.judgeSecondPart c staged ([2, byte c.val, flag, e1, e0] ++ r) = none →
      ∃ t, exec .tableWriteCurveSecondPart s = .next t ∧
        t.curve c = { points := staged.points ++ toPoints (rawPoints r 0 (staged.count - 8)), generation := gen + 1 } ∧
        (∀ d, d ≠ c → t.curve d = s.curve d) ∧ t.staging = none ∧
        t.replies = s.replies ++ [reply 2 .accepted (gen + 1)]

/-- An accepted gauge record write: the record with its generation, the good value kept only when no field but sample_window
changed, the binding of a new address, the sides it belonged to before and after recomputed with the head pair, and one reply
(R21, R25, R166, R167; the age of a gauge that loses its value: log 18). -/
def Obligations.AcceptedGaugeWritesTakeEffect : Prop :=
  ∀ (s : State) (n : GaugeId) (flag e1 e0 : Byte) (r : List Byte) (rest : List RxFrame), r.length = 11 →
    s.HasRequest 0x21#8 ([3, byte n.val, flag, e1, e0] ++ r) rest →
    s.judgeGauge n ([3, byte n.val, flag, e1, e0] ++ r) = none →
    let old := (s.gauge n).record
    let new := (RawGauge.parse r).record
    ∃ t, exec .tableWriteGauge s = .next t ∧
      t.gauge n = { record := new, generation := (s.gauge n).generation + 1
                    value := if { old with sampleWindow := new.sampleWindow } = new then (s.gauge n).value else none
                    age := if { old with sampleWindow := new.sampleWindow } = new then (s.gauge n).age else 0 } ∧
      (∀ m, m ≠ n → t.gauge m = s.gauge m) ∧
      (∀ a, new.address = some a → old.address ≠ some a →
        (t.route a).role = .gauge ∧ (t.route a).binding = some (.gauge n)) ∧
      (∀ b, t.bank b =
        if b = old.bank ∨ b = new.bank then ({ s with gauges := t.gauges }.recomputeBank b).bank b else s.bank b) ∧
      t.head = headOf t.upstream.value t.downstream.value ∧
      t.replies = s.replies ++ [{ kind := 0x21#8, result := .accepted, detail := 0
                                  data := [3, byte n.val] ++ be16 ((s.gauge n).generation + 1).toNat }]

/-- An accepted route write replaces role and pass settings, advances the generation and leaves the binding (R149, R166). An
accepted settings write: the record with its generation, both side values recomputed when gauge_agree changed, the silence
timer by its window, and one reply; one whose K lies below the slots in use is BUSY (R32, R84, R102, R163, R166). -/
def Obligations.RouteAndSettingsWritesTakeEffect : Prop :=
  (∀ (s : State) (a : LinkAddr) (flag e1 e0 role down up : Byte) (rest : List RxFrame) (new : Role),
    s.HasRequest 0x21#8 [4, byte a.val, flag, e1, e0, role, down, up] rest →
    role.toNat = new.code → down.toNat ≤ 1 → up.toNat ≤ 1 →
    flag = 0 ∨ e1 ++ e0 = (s.route a).generation →
    (if (s.route a).role = .unused ∨ (s.route a).role = .other then new = .unused ∨ new = .other
      else new = (s.route a).role) →
    exec .tableWriteRoute s = .next ((({ s with spRx := rest }).setRoute a
      { role := new, binding := (s.route a).binding
        passDown := if down = 0 then .forward else .drop
        passUp := if up = 0 then .forward else .consume
        generation := (s.route a).generation + 1 }).reply 0x21#8 .accepted 0
          ([4, byte a.val] ++ be16 ((s.route a).generation + 1).toNat))) ∧
  ∀ (s : State) (flag e1 e0 : Byte) (r : List Byte) (rest : List RxFrame), r.length = 11 →
    s.HasRequest 0x21#8 ([5, 0, flag, e1, e0] ++ r) rest → firstFailing (settingsChecks r) = none →
    flag = 0 ∨ e1 ++ e0 = s.settingsGen →
    let new := parseSettings r
    (s.slotsInUse ≤ new.slots → ∃ t, exec .tableWriteSettings s = .next t ∧ t.settings = new ∧
      t.settingsGen = s.settingsGen + 1 ∧
      (∀ b, t.bank b = if new.gaugeAgree = s.settings.gaugeAgree then s.bank b
        else ({ s with settings := new }.recomputeBank b).bank b) ∧
      t.silence = (if new.silenceWindow = s.settings.silenceWindow then s.silence
        else if new.silenceWindow = 0 then .off else .running new.silenceWindow) ∧
      t.replies = s.replies ++ [{ kind := 0x21#8, result := .accepted, detail := 0
                                  data := [5, 0] ++ be16 (s.settingsGen + 1).toNat }]) ∧
    (new.slots < s.slotsInUse → exec .tableWriteSettings s = .next ({ s with spRx := rest }.reply 0x21#8 .busy 1
      ([5, 0] ++ be16 s.settingsGen.toNat)))

/-- RESTART, with no gate that would follow its ceiling: gates in service are IDLE when both hoists are fresh under
8 × sample_window and held with STALE when not, the others are OUT_OF_SERVICE; samples, records, clock, counters and replies
are kept; queues but the reply and halt queues, the list and the counts are emptied; slot holders are sent HALT
(R83, R105, R127, R145, R174). The Notice Queue is emptied first, so that it then holds the restart's own notices alone: HELD for
each gate it holds and, after them, EXCURSION for each gate above its ceiling (R174, R184; the order of the gates: log 15). By the
model's choice the silence timer runs from its full window anew, also after a RESTART that has waited in the buffer (log 30). -/
def Obligations.RestartSetsEveryGateAtOnce : Prop :=
  ∀ (s : State) (rest : List RxFrame), s.HasRequest 0x26#8 [] rest → s.evalDue = false →
    (∀ g, (s.record g).inService = true → (s.record g).trackCeiling = false ∨ s.stopAsserted = true) →
    ∃ t, exec .restart s = .next t ∧
      (∀ g, (t.gate g).motion =
        if (s.record g).inService then
          if staleUnder (8 * (s.record g).sampleWindow) (s.gate g).left = false ∧
              staleUnder (8 * (s.record g).sampleWindow) (s.gate g).right = false then .idle
          else .hold { primary := .stale, further := [] } none
        else .outOfService none) ∧
      (∀ g, (t.gate g).left = (s.gate g).left ∧ (t.gate g).right = (s.gate g).right ∧ t.record g = s.record g) ∧
      (∀ a, a ∈ s.haltQueue → a ∈ t.haltQueue) ∧
      (∀ g side a, (s.gate g).motion.holdsSlot = true → (s.record g).hoist side = some a → a ∈ t.haltQueue) ∧
      t.slotsInUse = 0 ∧ t.grantCounter = 0 ∧ t.waiting = [] ∧ t.orderQueue = [] ∧ t.upQueue = [] ∧
      t.downQueue = [] ∧ t.staging = none ∧ t.capture = none ∧ t.tideClock = s.tideClock ∧
      t.spCounters = s.spCounters ∧ t.fpCounters = s.fpCounters ∧ t.settings = s.settings ∧
      t.stopAsserted = s.stopAsserted ∧ t.routes = s.routes ∧ t.head = s.head ∧
      t.upstream = { s.upstream with disagree := false } ∧ t.downstream = { s.downstream with disagree := false } ∧
      t.silence = (if s.settings.silenceWindow = 0 then .off else .running s.settings.silenceWindow) ∧
      t.replies = s.replies ++ [{ kind := 0x26#8, result := .accepted, detail := 0, data := [] }] ∧
      (modeAfter s.settings s.mode s.head = s.mode → t.overflow = false ∧
        t.notices.map (·.stamp) = t.notices.map (fun _ => s.tideClock) ∧
        t.notices.map (·.notice) =
          (allGates.filter fun g => (t.gate g).motion.isHold).map
            (fun g => .held g .stale (s.gate g).opening (s.gate g).skew) ++
          allGates.filterMap fun g =>
            if (t.gate g).motion = .idle then (t.gate g).excursion.map fun x => .excursion g x.1 x.2 else none)

/-! ## Transmitters and expiries -/

/-- A free transmitter takes the oldest frame of its first class that holds one: replies, notices, up queue on SP; HALTs,
orders, down queue on FP; a taken notice carries the overflow flag and clears it; with nothing waiting the line idles
(R106, R107, R131, R137, R138, R140, R141, R181). A REPLY carries its result code (R176), a NOTICE its kind code, the flag, the
stamp, and the fields of its kind in their order and widths, an absent value as a presence byte and value bytes of 0 (R182). -/
def Obligations.TransmittersServeInOrder : Prop :=
  ∀ s : State,
    let two (n : Nat) : List Byte := [BitVec.ofNat 8 (n / 256), BitVec.ofNat 8 n]
    let signed (z : Int) : List Byte := two (z % 65536).toNat
    let optional (v : Option (List Byte)) : List Byte := match v with
      | none => [0, 0, 0]
      | some bytes => 1 :: bytes
    let result : Result → Byte
      | .accepted => 0
      | .clamped => 1
      | .deferred => 2
      | .outranked => 3
      | .stopInput => 4
      | .invalid => 5
      | .generation => 6
      | .running => 7
      | .inUse => 8
      | .busy => 9
      | .stillPresent => 10
      | .unknownKind => 11
      | .badLength => 12
      | .refusedDirect => 13
    let reason : HoldReason → Byte
      | .skew => 1
      | .stale => 2
      | .noAck => 3
      | .noStart => 4
      | .timeout => 5
      | .shortfall => 6
      | .hoistFault => 7
      | .noStop => 8
    let notice (n : Notice) : Byte × List Byte := match n with
      | .arrived g opening => (1, byte g.val :: two opening)
      | .clamped g asked applied .travel => (2, [byte g.val] ++ two asked ++ two applied ++ [0])
      | .clamped g asked applied .ceiling => (2, [byte g.val] ++ two asked ++ two applied ++ [1])
      | .held g why opening skew =>
        (3, [byte g.val, reason why] ++ optional (opening.map two) ++ optional (skew.map signed))
      | .holdCleared g .auto => (4, [byte g.val, 0])
      | .holdCleared g .request => (4, [byte g.val, 1])
      | .preempted victim beneficiary => (5, [byte victim.val, byte beneficiary.val])
      | .excursion g opening ceiling => (6, [byte g.val] ++ two opening ++ two ceiling)
      | .reverseOn rev => (7, signed rev)
      | .reverseOff rev => (8, signed rev)
      | .noHeadOn => (9, [])
      | .noHeadOff => (10, [])
      | .gaugeDisagree .upstream first second => (11, [0] ++ signed first ++ signed second)
      | .gaugeDisagree .downstream first second => (11, [1] ++ signed first ++ signed second)
      | .misroute .sp src dst kind => (12, [0, byte src.val, byte dst.val, kind])
      | .misroute .fp src dst kind => (12, [1, byte src.val, byte dst.val, kind])
      | .silenceStop count => (13, [byte count])
      | .stopInput asserted => (14, [if asserted then 1 else 0])
    let own (dest kind : Byte) (payload : List Byte) : List Byte :=
      ({ dst := dest, src := addrByte s.ownAddress, kind := kind, payload := payload } : Frame).bytes
    (∀ r rest, s.replies = r :: rest → exec .spTransmit s = .next { s with
      replies := rest, spTx := some (own 0 0x30#8 (r.kind :: result r.result :: r.detail :: r.data)) }) ∧
    (∀ n rest, s.replies = [] → s.notices = n :: rest → exec .spTransmit s = .next { s with
      notices := rest, overflow := false
      spTx := some (own 0 0x31#8
        ((notice n.notice).1 :: (if s.overflow then 1 else 0) ::
          (two (n.stamp.toNat / 65536) ++ two n.stamp.toNat ++ (notice n.notice).2))) }) ∧
    (∀ f rest, s.replies = [] → s.notices = [] → s.upQueue = f :: rest →
      exec .spTransmit s = .next { s with upQueue := rest, spTx := some f.bytes }) ∧
    (s.replies = [] → s.notices = [] → s.upQueue = [] → exec .spTransmit s = .next { s with spTx := none }) ∧
    (∀ a rest, s.haltQueue = a :: rest → exec .fpTransmit s = .next { s with
      haltQueue := rest, fpTx := some (own (addrByte a) 0x43#8 []) }) ∧
    (∀ a raw speed rest, s.haltQueue = [] → s.orderQueue = .run a raw speed :: rest → exec .fpTransmit s = .next { s with
      orderQueue := rest, fpTx := some (own (addrByte a) 0x40#8 (two raw ++ two speed)) }) ∧
    (∀ a rest, s.haltQueue = [] → s.orderQueue = .pause a :: rest → exec .fpTransmit s = .next { s with
      orderQueue := rest, fpTx := some (own (addrByte a) 0x41#8 []) }) ∧
    (∀ a rest, s.haltQueue = [] → s.orderQueue = .resume a :: rest → exec .fpTransmit s = .next { s with
      orderQueue := rest, fpTx := some (own (addrByte a) 0x42#8 []) }) ∧
    (∀ f rest, s.haltQueue = [] → s.orderQueue = [] → s.downQueue = f :: rest →
      exec .fpTransmit s = .next { s with downQueue := rest, fpTx := some f.bytes }) ∧
    (s.haltQueue = [] → s.orderQueue = [] → s.downQueue = [] → exec .fpTransmit s = .next { s with fpTx := none })

/-- A window that has run out holds its gate: NO_ACK or NO_START for the ack window, TIMEOUT for the deadline, NO_STOP for
the halt window, STALE for a hoist; in HOLD a stale hoist adds its reason once (R74, R75, R114, R116, R122, R123). By the
model's choice a hoistStale command for a hoist that is not stale changes nothing (log 1). -/
def Obligations.ExpiriesHoldTheGate : Prop :=
  ∀ (s : State) (g : GateId),
    (∀ r l, (s.gate g).motion = .starting r l 0 → ∃ t, exec (.ackWindowExpiry g) s = .next t ∧
      s.heldFor t g (match (s.record g).handshake with
        | .interlocked => .noAck
        | .pulsed => .noStart)) ∧
    (∀ r l w, (s.gate g).motion = .starting r l w ∨ (s.gate g).motion = .travelling r l → l.deadline = 0 →
      ∃ t, exec (.deadlineExpiry g) s = .next t ∧ s.heldFor t g .timeout) ∧
    (∀ n l, (s.gate g).motion = .stopping n l 0 → ∃ t, exec (.haltWindowExpiry g) s = .next t ∧ s.heldFor t g .noStop) ∧
    (∀ side, (s.gate g).stale side = true → (s.gate g).motion.isHold = false →
      ∃ t, exec (.hoistStale g side) s = .next t ∧ s.heldFor t g .stale) ∧
    (∀ side h d, (s.gate g).stale side = true → (s.gate g).motion = .hold h d → s.evalDue = false →
      ∃ t, exec (.hoistStale g side) s = .next t ∧ t.notices = s.notices ∧
        (t.gate g).motion = .hold { h with
          further := if h.primary = .stale ∨ .stale ∈ h.further then h.further else h.further ++ [.stale] } d) ∧
    ∀ side, (s.gate g).stale side = false → exec (.hoistStale g side) s = .next s

/-- The silence timer at 0 goes to WAITING, posts SILENCE_STOP with the number of requests it discards, and stops motion by
the table of R98, a moving gate with a HALT for its hoists (R98, R103). A PENDING gate becomes IDLE, which is told here of a
gate that does not follow its ceiling. By the model's choice a silenceExpiry command for a timer that is not at 0 changes
nothing (log 1). -/
def Obligations.SilenceStopsAllMotion : Prop :=
  ∀ s : State,
    (s.silence = .running 0 → ∃ t, exec .silenceExpiry s = .next t ∧ t.silence = .waiting ∧
      t.stopAsserted = s.stopAsserted ∧
      (s.notices.length < 16 →
        let discarded := (allGates.filter fun g => (s.gate g).motion.request.isSome).length
        s.notices ++ [{ notice := .silenceStop discarded, stamp := s.tideClock }] <+: t.notices) ∧
      ∀ g,
        (∀ r l w, (s.gate g).motion = .starting r l w ∨ (s.gate g).motion = .travelling r l →
          (∃ l' w', (t.gate g).motion = .stopping .idle l' w') ∧
            ∀ side a, (s.record g).hoist side = some a → a ∈ t.haltQueue) ∧
        (∀ n l w, (s.gate g).motion = .stopping n l w → n.request ≠ none →
          ∃ l', (t.gate g).motion = .stopping .idle l' w) ∧
        (∀ n l w, (s.gate g).motion = .stopping n l w → n.request = none →
          ∃ l', (t.gate g).motion = .stopping n l' w) ∧
        (∀ r, (s.gate g).motion = .pending r → (s.record g).trackCeiling = false → (t.gate g).motion = .idle) ∧
        ((s.gate g).motion.leg = none → (s.gate g).motion.request = none → (t.gate g).motion = (s.gate g).motion)) ∧
    (s.silence ≠ .running 0 → exec .silenceExpiry s = .next s)
end

