-- ==== Sys2Proof/Laws/State.lean ====
section
/-! SUPPORT. One lemma per field per update of the state: what each named operation leaves as it was. -/

namespace Sys2Proof.Machine

/-! ### `State.setGate` -/

@[simp] theorem State.setGate_pending (s : State) (g : GateId) (x : Gate) : (s.setGate g x).pending = s.pending := rfl
@[simp] theorem State.setGate_freeCount (s : State) (g : GateId) (x : Gate) : (s.setGate g x).freeCount = s.freeCount := rfl
@[simp] theorem State.setGate_evalDue (s : State) (g : GateId) (x : Gate) : (s.setGate g x).evalDue = s.evalDue := rfl
@[simp] theorem State.setGate_ownAddress (s : State) (g : GateId) (x : Gate) : (s.setGate g x).ownAddress = s.ownAddress := rfl
@[simp] theorem State.setGate_rate (s : State) (g : GateId) (x : Gate) : (s.setGate g x).rate = s.rate := rfl
@[simp] theorem State.setGate_stopPinLow (s : State) (g : GateId) (x : Gate) : (s.setGate g x).stopPinLow = s.stopPinLow := rfl
@[simp] theorem State.setGate_stopFilter (s : State) (g : GateId) (x : Gate) : (s.setGate g x).stopFilter = s.stopFilter := rfl
@[simp] theorem State.setGate_stopAsserted (s : State) (g : GateId) (x : Gate) : (s.setGate g x).stopAsserted = s.stopAsserted := rfl
@[simp] theorem State.setGate_tideClock (s : State) (g : GateId) (x : Gate) : (s.setGate g x).tideClock = s.tideClock := rfl
@[simp] theorem State.setGate_spReceiver (s : State) (g : GateId) (x : Gate) : (s.setGate g x).spReceiver = s.spReceiver := rfl
@[simp] theorem State.setGate_fpReceiver (s : State) (g : GateId) (x : Gate) : (s.setGate g x).fpReceiver = s.fpReceiver := rfl
@[simp] theorem State.setGate_spRx (s : State) (g : GateId) (x : Gate) : (s.setGate g x).spRx = s.spRx := rfl
@[simp] theorem State.setGate_fpRx (s : State) (g : GateId) (x : Gate) : (s.setGate g x).fpRx = s.fpRx := rfl
@[simp] theorem State.setGate_spTx (s : State) (g : GateId) (x : Gate) : (s.setGate g x).spTx = s.spTx := rfl
@[simp] theorem State.setGate_fpTx (s : State) (g : GateId) (x : Gate) : (s.setGate g x).fpTx = s.fpTx := rfl
@[simp] theorem State.setGate_spCounters (s : State) (g : GateId) (x : Gate) : (s.setGate g x).spCounters = s.spCounters := rfl
@[simp] theorem State.setGate_fpCounters (s : State) (g : GateId) (x : Gate) : (s.setGate g x).fpCounters = s.fpCounters := rfl
@[simp] theorem State.setGate_replies (s : State) (g : GateId) (x : Gate) : (s.setGate g x).replies = s.replies := rfl
@[simp] theorem State.setGate_notices (s : State) (g : GateId) (x : Gate) : (s.setGate g x).notices = s.notices := rfl
@[simp] theorem State.setGate_overflow (s : State) (g : GateId) (x : Gate) : (s.setGate g x).overflow = s.overflow := rfl
@[simp] theorem State.setGate_upQueue (s : State) (g : GateId) (x : Gate) : (s.setGate g x).upQueue = s.upQueue := rfl
@[simp] theorem State.setGate_downQueue (s : State) (g : GateId) (x : Gate) : (s.setGate g x).downQueue = s.downQueue := rfl
@[simp] theorem State.setGate_haltQueue (s : State) (g : GateId) (x : Gate) : (s.setGate g x).haltQueue = s.haltQueue := rfl
@[simp] theorem State.setGate_orderQueue (s : State) (g : GateId) (x : Gate) : (s.setGate g x).orderQueue = s.orderQueue := rfl
@[simp] theorem State.setGate_curves (s : State) (g : GateId) (x : Gate) : (s.setGate g x).curves = s.curves := rfl
@[simp] theorem State.setGate_gauges (s : State) (g : GateId) (x : Gate) : (s.setGate g x).gauges = s.gauges := rfl
@[simp] theorem State.setGate_routes (s : State) (g : GateId) (x : Gate) : (s.setGate g x).routes = s.routes := rfl
@[simp] theorem State.setGate_settings (s : State) (g : GateId) (x : Gate) : (s.setGate g x).settings = s.settings := rfl
@[simp] theorem State.setGate_settingsGen (s : State) (g : GateId) (x : Gate) : (s.setGate g x).settingsGen = s.settingsGen := rfl
@[simp] theorem State.setGate_staging (s : State) (g : GateId) (x : Gate) : (s.setGate g x).staging = s.staging := rfl
@[simp] theorem State.setGate_capture (s : State) (g : GateId) (x : Gate) : (s.setGate g x).capture = s.capture := rfl
@[simp] theorem State.setGate_upstream (s : State) (g : GateId) (x : Gate) : (s.setGate g x).upstream = s.upstream := rfl
@[simp] theorem State.setGate_downstream (s : State) (g : GateId) (x : Gate) : (s.setGate g x).downstream = s.downstream := rfl
@[simp] theorem State.setGate_head (s : State) (g : GateId) (x : Gate) : (s.setGate g x).head = s.head := rfl
@[simp] theorem State.setGate_mode (s : State) (g : GateId) (x : Gate) : (s.setGate g x).mode = s.mode := rfl
@[simp] theorem State.setGate_slotsInUse (s : State) (g : GateId) (x : Gate) : (s.setGate g x).slotsInUse = s.slotsInUse := rfl
@[simp] theorem State.setGate_grantCounter (s : State) (g : GateId) (x : Gate) : (s.setGate g x).grantCounter = s.grantCounter := rfl
@[simp] theorem State.setGate_waiting (s : State) (g : GateId) (x : Gate) : (s.setGate g x).waiting = s.waiting := rfl
@[simp] theorem State.setGate_silence (s : State) (g : GateId) (x : Gate) : (s.setGate g x).silence = s.silence := rfl
@[simp] theorem State.setGate_curve (s : State) (g : GateId) (x : Gate) (c : Fin 4) : (s.setGate g x).curve c = s.curve c := rfl
@[simp] theorem State.setGate_gauge (s : State) (g : GateId) (x : Gate) (gn : GaugeId) : (s.setGate g x).gauge gn = s.gauge gn := rfl
@[simp] theorem State.setGate_route (s : State) (g : GateId) (x : Gate) (at_ : LinkAddr) : (s.setGate g x).route at_ = s.route at_ := rfl

/-! ### `State.setMotion` -/

@[simp] theorem State.setMotion_pending (s : State) (g : GateId) (m : Motion) : (s.setMotion g m).pending = s.pending := rfl
@[simp] theorem State.setMotion_freeCount (s : State) (g : GateId) (m : Motion) : (s.setMotion g m).freeCount = s.freeCount := rfl
@[simp] theorem State.setMotion_evalDue (s : State) (g : GateId) (m : Motion) : (s.setMotion g m).evalDue = s.evalDue := rfl
@[simp] theorem State.setMotion_ownAddress (s : State) (g : GateId) (m : Motion) : (s.setMotion g m).ownAddress = s.ownAddress := rfl
@[simp] theorem State.setMotion_rate (s : State) (g : GateId) (m : Motion) : (s.setMotion g m).rate = s.rate := rfl
@[simp] theorem State.setMotion_stopPinLow (s : State) (g : GateId) (m : Motion) : (s.setMotion g m).stopPinLow = s.stopPinLow := rfl
@[simp] theorem State.setMotion_stopFilter (s : State) (g : GateId) (m : Motion) : (s.setMotion g m).stopFilter = s.stopFilter := rfl
@[simp] theorem State.setMotion_stopAsserted (s : State) (g : GateId) (m : Motion) : (s.setMotion g m).stopAsserted = s.stopAsserted := rfl
@[simp] theorem State.setMotion_tideClock (s : State) (g : GateId) (m : Motion) : (s.setMotion g m).tideClock = s.tideClock := rfl
@[simp] theorem State.setMotion_spReceiver (s : State) (g : GateId) (m : Motion) : (s.setMotion g m).spReceiver = s.spReceiver := rfl
@[simp] theorem State.setMotion_fpReceiver (s : State) (g : GateId) (m : Motion) : (s.setMotion g m).fpReceiver = s.fpReceiver := rfl
@[simp] theorem State.setMotion_spRx (s : State) (g : GateId) (m : Motion) : (s.setMotion g m).spRx = s.spRx := rfl
@[simp] theorem State.setMotion_fpRx (s : State) (g : GateId) (m : Motion) : (s.setMotion g m).fpRx = s.fpRx := rfl
@[simp] theorem State.setMotion_spTx (s : State) (g : GateId) (m : Motion) : (s.setMotion g m).spTx = s.spTx := rfl
@[simp] theorem State.setMotion_fpTx (s : State) (g : GateId) (m : Motion) : (s.setMotion g m).fpTx = s.fpTx := rfl
@[simp] theorem State.setMotion_spCounters (s : State) (g : GateId) (m : Motion) : (s.setMotion g m).spCounters = s.spCounters := rfl
@[simp] theorem State.setMotion_fpCounters (s : State) (g : GateId) (m : Motion) : (s.setMotion g m).fpCounters = s.fpCounters := rfl
@[simp] theorem State.setMotion_replies (s : State) (g : GateId) (m : Motion) : (s.setMotion g m).replies = s.replies := rfl
@[simp] theorem State.setMotion_notices (s : State) (g : GateId) (m : Motion) : (s.setMotion g m).notices = s.notices := rfl
@[simp] theorem State.setMotion_overflow (s : State) (g : GateId) (m : Motion) : (s.setMotion g m).overflow = s.overflow := rfl
@[simp] theorem State.setMotion_upQueue (s : State) (g : GateId) (m : Motion) : (s.setMotion g m).upQueue = s.upQueue := rfl
@[simp] theorem State.setMotion_downQueue (s : State) (g : GateId) (m : Motion) : (s.setMotion g m).downQueue = s.downQueue := rfl
@[simp] theorem State.setMotion_haltQueue (s : State) (g : GateId) (m : Motion) : (s.setMotion g m).haltQueue = s.haltQueue := rfl
@[simp] theorem State.setMotion_orderQueue (s : State) (g : GateId) (m : Motion) : (s.setMotion g m).orderQueue = s.orderQueue := rfl
@[simp] theorem State.setMotion_curves (s : State) (g : GateId) (m : Motion) : (s.setMotion g m).curves = s.curves := rfl
@[simp] theorem State.setMotion_gauges (s : State) (g : GateId) (m : Motion) : (s.setMotion g m).gauges = s.gauges := rfl
@[simp] theorem State.setMotion_routes (s : State) (g : GateId) (m : Motion) : (s.setMotion g m).routes = s.routes := rfl
@[simp] theorem State.setMotion_settings (s : State) (g : GateId) (m : Motion) : (s.setMotion g m).settings = s.settings := rfl
@[simp] theorem State.setMotion_settingsGen (s : State) (g : GateId) (m : Motion) : (s.setMotion g m).settingsGen = s.settingsGen := rfl
@[simp] theorem State.setMotion_staging (s : State) (g : GateId) (m : Motion) : (s.setMotion g m).staging = s.staging := rfl
@[simp] theorem State.setMotion_capture (s : State) (g : GateId) (m : Motion) : (s.setMotion g m).capture = s.capture := rfl
@[simp] theorem State.setMotion_upstream (s : State) (g : GateId) (m : Motion) : (s.setMotion g m).upstream = s.upstream := rfl
@[simp] theorem State.setMotion_downstream (s : State) (g : GateId) (m : Motion) : (s.setMotion g m).downstream = s.downstream := rfl
@[simp] theorem State.setMotion_head (s : State) (g : GateId) (m : Motion) : (s.setMotion g m).head = s.head := rfl
@[simp] theorem State.setMotion_mode (s : State) (g : GateId) (m : Motion) : (s.setMotion g m).mode = s.mode := rfl
@[simp] theorem State.setMotion_slotsInUse (s : State) (g : GateId) (m : Motion) : (s.setMotion g m).slotsInUse = s.slotsInUse := rfl
@[simp] theorem State.setMotion_grantCounter (s : State) (g : GateId) (m : Motion) : (s.setMotion g m).grantCounter = s.grantCounter := rfl
@[simp] theorem State.setMotion_waiting (s : State) (g : GateId) (m : Motion) : (s.setMotion g m).waiting = s.waiting := rfl
@[simp] theorem State.setMotion_silence (s : State) (g : GateId) (m : Motion) : (s.setMotion g m).silence = s.silence := rfl
@[simp] theorem State.setMotion_curve (s : State) (g : GateId) (m : Motion) (c : Fin 4) : (s.setMotion g m).curve c = s.curve c := rfl
@[simp] theorem State.setMotion_gauge (s : State) (g : GateId) (m : Motion) (gn : GaugeId) : (s.setMotion g m).gauge gn = s.gauge gn := rfl
@[simp] theorem State.setMotion_route (s : State) (g : GateId) (m : Motion) (at_ : LinkAddr) : (s.setMotion g m).route at_ = s.route at_ := rfl

/-! ### `State.setExcursion` -/

@[simp] theorem State.setExcursion_pending (s : State) (g : GateId) (b : Bool) : (s.setExcursion g b).pending = s.pending := rfl
@[simp] theorem State.setExcursion_freeCount (s : State) (g : GateId) (b : Bool) : (s.setExcursion g b).freeCount = s.freeCount := rfl
@[simp] theorem State.setExcursion_evalDue (s : State) (g : GateId) (b : Bool) : (s.setExcursion g b).evalDue = s.evalDue := rfl
@[simp] theorem State.setExcursion_ownAddress (s : State) (g : GateId) (b : Bool) : (s.setExcursion g b).ownAddress = s.ownAddress := rfl
@[simp] theorem State.setExcursion_rate (s : State) (g : GateId) (b : Bool) : (s.setExcursion g b).rate = s.rate := rfl
@[simp] theorem State.setExcursion_stopPinLow (s : State) (g : GateId) (b : Bool) : (s.setExcursion g b).stopPinLow = s.stopPinLow := rfl
@[simp] theorem State.setExcursion_stopFilter (s : State) (g : GateId) (b : Bool) : (s.setExcursion g b).stopFilter = s.stopFilter := rfl
@[simp] theorem State.setExcursion_stopAsserted (s : State) (g : GateId) (b : Bool) : (s.setExcursion g b).stopAsserted = s.stopAsserted := rfl
@[simp] theorem State.setExcursion_tideClock (s : State) (g : GateId) (b : Bool) : (s.setExcursion g b).tideClock = s.tideClock := rfl
@[simp] theorem State.setExcursion_spReceiver (s : State) (g : GateId) (b : Bool) : (s.setExcursion g b).spReceiver = s.spReceiver := rfl
@[simp] theorem State.setExcursion_fpReceiver (s : State) (g : GateId) (b : Bool) : (s.setExcursion g b).fpReceiver = s.fpReceiver := rfl
@[simp] theorem State.setExcursion_spRx (s : State) (g : GateId) (b : Bool) : (s.setExcursion g b).spRx = s.spRx := rfl
@[simp] theorem State.setExcursion_fpRx (s : State) (g : GateId) (b : Bool) : (s.setExcursion g b).fpRx = s.fpRx := rfl
@[simp] theorem State.setExcursion_spTx (s : State) (g : GateId) (b : Bool) : (s.setExcursion g b).spTx = s.spTx := rfl
@[simp] theorem State.setExcursion_fpTx (s : State) (g : GateId) (b : Bool) : (s.setExcursion g b).fpTx = s.fpTx := rfl
@[simp] theorem State.setExcursion_spCounters (s : State) (g : GateId) (b : Bool) : (s.setExcursion g b).spCounters = s.spCounters := rfl
@[simp] theorem State.setExcursion_fpCounters (s : State) (g : GateId) (b : Bool) : (s.setExcursion g b).fpCounters = s.fpCounters := rfl
@[simp] theorem State.setExcursion_replies (s : State) (g : GateId) (b : Bool) : (s.setExcursion g b).replies = s.replies := rfl
@[simp] theorem State.setExcursion_notices (s : State) (g : GateId) (b : Bool) : (s.setExcursion g b).notices = s.notices := rfl
@[simp] theorem State.setExcursion_overflow (s : State) (g : GateId) (b : Bool) : (s.setExcursion g b).overflow = s.overflow := rfl
@[simp] theorem State.setExcursion_upQueue (s : State) (g : GateId) (b : Bool) : (s.setExcursion g b).upQueue = s.upQueue := rfl
@[simp] theorem State.setExcursion_downQueue (s : State) (g : GateId) (b : Bool) : (s.setExcursion g b).downQueue = s.downQueue := rfl
@[simp] theorem State.setExcursion_haltQueue (s : State) (g : GateId) (b : Bool) : (s.setExcursion g b).haltQueue = s.haltQueue := rfl
@[simp] theorem State.setExcursion_orderQueue (s : State) (g : GateId) (b : Bool) : (s.setExcursion g b).orderQueue = s.orderQueue := rfl
@[simp] theorem State.setExcursion_curves (s : State) (g : GateId) (b : Bool) : (s.setExcursion g b).curves = s.curves := rfl
@[simp] theorem State.setExcursion_gauges (s : State) (g : GateId) (b : Bool) : (s.setExcursion g b).gauges = s.gauges := rfl
@[simp] theorem State.setExcursion_routes (s : State) (g : GateId) (b : Bool) : (s.setExcursion g b).routes = s.routes := rfl
@[simp] theorem State.setExcursion_settings (s : State) (g : GateId) (b : Bool) : (s.setExcursion g b).settings = s.settings := rfl
@[simp] theorem State.setExcursion_settingsGen (s : State) (g : GateId) (b : Bool) : (s.setExcursion g b).settingsGen = s.settingsGen := rfl
@[simp] theorem State.setExcursion_staging (s : State) (g : GateId) (b : Bool) : (s.setExcursion g b).staging = s.staging := rfl
@[simp] theorem State.setExcursion_capture (s : State) (g : GateId) (b : Bool) : (s.setExcursion g b).capture = s.capture := rfl
@[simp] theorem State.setExcursion_upstream (s : State) (g : GateId) (b : Bool) : (s.setExcursion g b).upstream = s.upstream := rfl
@[simp] theorem State.setExcursion_downstream (s : State) (g : GateId) (b : Bool) : (s.setExcursion g b).downstream = s.downstream := rfl
@[simp] theorem State.setExcursion_head (s : State) (g : GateId) (b : Bool) : (s.setExcursion g b).head = s.head := rfl
@[simp] theorem State.setExcursion_mode (s : State) (g : GateId) (b : Bool) : (s.setExcursion g b).mode = s.mode := rfl
@[simp] theorem State.setExcursion_slotsInUse (s : State) (g : GateId) (b : Bool) : (s.setExcursion g b).slotsInUse = s.slotsInUse := rfl
@[simp] theorem State.setExcursion_grantCounter (s : State) (g : GateId) (b : Bool) : (s.setExcursion g b).grantCounter = s.grantCounter := rfl
@[simp] theorem State.setExcursion_waiting (s : State) (g : GateId) (b : Bool) : (s.setExcursion g b).waiting = s.waiting := rfl
@[simp] theorem State.setExcursion_silence (s : State) (g : GateId) (b : Bool) : (s.setExcursion g b).silence = s.silence := rfl
@[simp] theorem State.setExcursion_curve (s : State) (g : GateId) (b : Bool) (c : Fin 4) : (s.setExcursion g b).curve c = s.curve c := rfl
@[simp] theorem State.setExcursion_gauge (s : State) (g : GateId) (b : Bool) (gn : GaugeId) : (s.setExcursion g b).gauge gn = s.gauge gn := rfl
@[simp] theorem State.setExcursion_route (s : State) (g : GateId) (b : Bool) (at_ : LinkAddr) : (s.setExcursion g b).route at_ = s.route at_ := rfl

/-! ### `State.setCeiling` -/

@[simp] theorem State.setCeiling_pending (s : State) (g : GateId) (k : Option Nat) : (s.setCeiling g k).pending = s.pending := rfl
@[simp] theorem State.setCeiling_freeCount (s : State) (g : GateId) (k : Option Nat) : (s.setCeiling g k).freeCount = s.freeCount := rfl
@[simp] theorem State.setCeiling_evalDue (s : State) (g : GateId) (k : Option Nat) : (s.setCeiling g k).evalDue = s.evalDue := rfl
@[simp] theorem State.setCeiling_ownAddress (s : State) (g : GateId) (k : Option Nat) : (s.setCeiling g k).ownAddress = s.ownAddress := rfl
@[simp] theorem State.setCeiling_rate (s : State) (g : GateId) (k : Option Nat) : (s.setCeiling g k).rate = s.rate := rfl
@[simp] theorem State.setCeiling_stopPinLow (s : State) (g : GateId) (k : Option Nat) : (s.setCeiling g k).stopPinLow = s.stopPinLow := rfl
@[simp] theorem State.setCeiling_stopFilter (s : State) (g : GateId) (k : Option Nat) : (s.setCeiling g k).stopFilter = s.stopFilter := rfl
@[simp] theorem State.setCeiling_stopAsserted (s : State) (g : GateId) (k : Option Nat) : (s.setCeiling g k).stopAsserted = s.stopAsserted := rfl
@[simp] theorem State.setCeiling_tideClock (s : State) (g : GateId) (k : Option Nat) : (s.setCeiling g k).tideClock = s.tideClock := rfl
@[simp] theorem State.setCeiling_spReceiver (s : State) (g : GateId) (k : Option Nat) : (s.setCeiling g k).spReceiver = s.spReceiver := rfl
@[simp] theorem State.setCeiling_fpReceiver (s : State) (g : GateId) (k : Option Nat) : (s.setCeiling g k).fpReceiver = s.fpReceiver := rfl
@[simp] theorem State.setCeiling_spRx (s : State) (g : GateId) (k : Option Nat) : (s.setCeiling g k).spRx = s.spRx := rfl
@[simp] theorem State.setCeiling_fpRx (s : State) (g : GateId) (k : Option Nat) : (s.setCeiling g k).fpRx = s.fpRx := rfl
@[simp] theorem State.setCeiling_spTx (s : State) (g : GateId) (k : Option Nat) : (s.setCeiling g k).spTx = s.spTx := rfl
@[simp] theorem State.setCeiling_fpTx (s : State) (g : GateId) (k : Option Nat) : (s.setCeiling g k).fpTx = s.fpTx := rfl
@[simp] theorem State.setCeiling_spCounters (s : State) (g : GateId) (k : Option Nat) : (s.setCeiling g k).spCounters = s.spCounters := rfl
@[simp] theorem State.setCeiling_fpCounters (s : State) (g : GateId) (k : Option Nat) : (s.setCeiling g k).fpCounters = s.fpCounters := rfl
@[simp] theorem State.setCeiling_replies (s : State) (g : GateId) (k : Option Nat) : (s.setCeiling g k).replies = s.replies := rfl
@[simp] theorem State.setCeiling_notices (s : State) (g : GateId) (k : Option Nat) : (s.setCeiling g k).notices = s.notices := rfl
@[simp] theorem State.setCeiling_overflow (s : State) (g : GateId) (k : Option Nat) : (s.setCeiling g k).overflow = s.overflow := rfl
@[simp] theorem State.setCeiling_upQueue (s : State) (g : GateId) (k : Option Nat) : (s.setCeiling g k).upQueue = s.upQueue := rfl
@[simp] theorem State.setCeiling_downQueue (s : State) (g : GateId) (k : Option Nat) : (s.setCeiling g k).downQueue = s.downQueue := rfl
@[simp] theorem State.setCeiling_haltQueue (s : State) (g : GateId) (k : Option Nat) : (s.setCeiling g k).haltQueue = s.haltQueue := rfl
@[simp] theorem State.setCeiling_orderQueue (s : State) (g : GateId) (k : Option Nat) : (s.setCeiling g k).orderQueue = s.orderQueue := rfl
@[simp] theorem State.setCeiling_curves (s : State) (g : GateId) (k : Option Nat) : (s.setCeiling g k).curves = s.curves := rfl
@[simp] theorem State.setCeiling_gauges (s : State) (g : GateId) (k : Option Nat) : (s.setCeiling g k).gauges = s.gauges := rfl
@[simp] theorem State.setCeiling_routes (s : State) (g : GateId) (k : Option Nat) : (s.setCeiling g k).routes = s.routes := rfl
@[simp] theorem State.setCeiling_settings (s : State) (g : GateId) (k : Option Nat) : (s.setCeiling g k).settings = s.settings := rfl
@[simp] theorem State.setCeiling_settingsGen (s : State) (g : GateId) (k : Option Nat) : (s.setCeiling g k).settingsGen = s.settingsGen := rfl
@[simp] theorem State.setCeiling_staging (s : State) (g : GateId) (k : Option Nat) : (s.setCeiling g k).staging = s.staging := rfl
@[simp] theorem State.setCeiling_capture (s : State) (g : GateId) (k : Option Nat) : (s.setCeiling g k).capture = s.capture := rfl
@[simp] theorem State.setCeiling_upstream (s : State) (g : GateId) (k : Option Nat) : (s.setCeiling g k).upstream = s.upstream := rfl
@[simp] theorem State.setCeiling_downstream (s : State) (g : GateId) (k : Option Nat) : (s.setCeiling g k).downstream = s.downstream := rfl
@[simp] theorem State.setCeiling_head (s : State) (g : GateId) (k : Option Nat) : (s.setCeiling g k).head = s.head := rfl
@[simp] theorem State.setCeiling_mode (s : State) (g : GateId) (k : Option Nat) : (s.setCeiling g k).mode = s.mode := rfl
@[simp] theorem State.setCeiling_slotsInUse (s : State) (g : GateId) (k : Option Nat) : (s.setCeiling g k).slotsInUse = s.slotsInUse := rfl
@[simp] theorem State.setCeiling_grantCounter (s : State) (g : GateId) (k : Option Nat) : (s.setCeiling g k).grantCounter = s.grantCounter := rfl
@[simp] theorem State.setCeiling_waiting (s : State) (g : GateId) (k : Option Nat) : (s.setCeiling g k).waiting = s.waiting := rfl
@[simp] theorem State.setCeiling_silence (s : State) (g : GateId) (k : Option Nat) : (s.setCeiling g k).silence = s.silence := rfl
@[simp] theorem State.setCeiling_curve (s : State) (g : GateId) (k : Option Nat) (c : Fin 4) : (s.setCeiling g k).curve c = s.curve c := rfl
@[simp] theorem State.setCeiling_gauge (s : State) (g : GateId) (k : Option Nat) (gn : GaugeId) : (s.setCeiling g k).gauge gn = s.gauge gn := rfl
@[simp] theorem State.setCeiling_route (s : State) (g : GateId) (k : Option Nat) (at_ : LinkAddr) : (s.setCeiling g k).route at_ = s.route at_ := rfl

/-! ### `State.setGauge` -/

@[simp] theorem State.setGauge_pending (s : State) (n : GaugeId) (x : Gauge) : (s.setGauge n x).pending = s.pending := rfl
@[simp] theorem State.setGauge_freeCount (s : State) (n : GaugeId) (x : Gauge) : (s.setGauge n x).freeCount = s.freeCount := rfl
@[simp] theorem State.setGauge_evalDue (s : State) (n : GaugeId) (x : Gauge) : (s.setGauge n x).evalDue = s.evalDue := rfl
@[simp] theorem State.setGauge_ownAddress (s : State) (n : GaugeId) (x : Gauge) : (s.setGauge n x).ownAddress = s.ownAddress := rfl
@[simp] theorem State.setGauge_rate (s : State) (n : GaugeId) (x : Gauge) : (s.setGauge n x).rate = s.rate := rfl
@[simp] theorem State.setGauge_stopPinLow (s : State) (n : GaugeId) (x : Gauge) : (s.setGauge n x).stopPinLow = s.stopPinLow := rfl
@[simp] theorem State.setGauge_stopFilter (s : State) (n : GaugeId) (x : Gauge) : (s.setGauge n x).stopFilter = s.stopFilter := rfl
@[simp] theorem State.setGauge_stopAsserted (s : State) (n : GaugeId) (x : Gauge) : (s.setGauge n x).stopAsserted = s.stopAsserted := rfl
@[simp] theorem State.setGauge_faultN (s : State) (n : GaugeId) (x : Gauge) : (s.setGauge n x).faultN = s.faultN := rfl
@[simp] theorem State.setGauge_tideClock (s : State) (n : GaugeId) (x : Gauge) : (s.setGauge n x).tideClock = s.tideClock := rfl
@[simp] theorem State.setGauge_spReceiver (s : State) (n : GaugeId) (x : Gauge) : (s.setGauge n x).spReceiver = s.spReceiver := rfl
@[simp] theorem State.setGauge_fpReceiver (s : State) (n : GaugeId) (x : Gauge) : (s.setGauge n x).fpReceiver = s.fpReceiver := rfl
@[simp] theorem State.setGauge_spRx (s : State) (n : GaugeId) (x : Gauge) : (s.setGauge n x).spRx = s.spRx := rfl
@[simp] theorem State.setGauge_fpRx (s : State) (n : GaugeId) (x : Gauge) : (s.setGauge n x).fpRx = s.fpRx := rfl
@[simp] theorem State.setGauge_spTx (s : State) (n : GaugeId) (x : Gauge) : (s.setGauge n x).spTx = s.spTx := rfl
@[simp] theorem State.setGauge_fpTx (s : State) (n : GaugeId) (x : Gauge) : (s.setGauge n x).fpTx = s.fpTx := rfl
@[simp] theorem State.setGauge_spCounters (s : State) (n : GaugeId) (x : Gauge) : (s.setGauge n x).spCounters = s.spCounters := rfl
@[simp] theorem State.setGauge_fpCounters (s : State) (n : GaugeId) (x : Gauge) : (s.setGauge n x).fpCounters = s.fpCounters := rfl
@[simp] theorem State.setGauge_replies (s : State) (n : GaugeId) (x : Gauge) : (s.setGauge n x).replies = s.replies := rfl
@[simp] theorem State.setGauge_notices (s : State) (n : GaugeId) (x : Gauge) : (s.setGauge n x).notices = s.notices := rfl
@[simp] theorem State.setGauge_overflow (s : State) (n : GaugeId) (x : Gauge) : (s.setGauge n x).overflow = s.overflow := rfl
@[simp] theorem State.setGauge_upQueue (s : State) (n : GaugeId) (x : Gauge) : (s.setGauge n x).upQueue = s.upQueue := rfl
@[simp] theorem State.setGauge_downQueue (s : State) (n : GaugeId) (x : Gauge) : (s.setGauge n x).downQueue = s.downQueue := rfl
@[simp] theorem State.setGauge_haltQueue (s : State) (n : GaugeId) (x : Gauge) : (s.setGauge n x).haltQueue = s.haltQueue := rfl
@[simp] theorem State.setGauge_orderQueue (s : State) (n : GaugeId) (x : Gauge) : (s.setGauge n x).orderQueue = s.orderQueue := rfl
@[simp] theorem State.setGauge_gates (s : State) (n : GaugeId) (x : Gauge) : (s.setGauge n x).gates = s.gates := rfl
@[simp] theorem State.setGauge_curves (s : State) (n : GaugeId) (x : Gauge) : (s.setGauge n x).curves = s.curves := rfl
@[simp] theorem State.setGauge_routes (s : State) (n : GaugeId) (x : Gauge) : (s.setGauge n x).routes = s.routes := rfl
@[simp] theorem State.setGauge_settings (s : State) (n : GaugeId) (x : Gauge) : (s.setGauge n x).settings = s.settings := rfl
@[simp] theorem State.setGauge_settingsGen (s : State) (n : GaugeId) (x : Gauge) : (s.setGauge n x).settingsGen = s.settingsGen := rfl
@[simp] theorem State.setGauge_staging (s : State) (n : GaugeId) (x : Gauge) : (s.setGauge n x).staging = s.staging := rfl
@[simp] theorem State.setGauge_capture (s : State) (n : GaugeId) (x : Gauge) : (s.setGauge n x).capture = s.capture := rfl
@[simp] theorem State.setGauge_upstream (s : State) (n : GaugeId) (x : Gauge) : (s.setGauge n x).upstream = s.upstream := rfl
@[simp] theorem State.setGauge_downstream (s : State) (n : GaugeId) (x : Gauge) : (s.setGauge n x).downstream = s.downstream := rfl
@[simp] theorem State.setGauge_head (s : State) (n : GaugeId) (x : Gauge) : (s.setGauge n x).head = s.head := rfl
@[simp] theorem State.setGauge_mode (s : State) (n : GaugeId) (x : Gauge) : (s.setGauge n x).mode = s.mode := rfl
@[simp] theorem State.setGauge_slotsInUse (s : State) (n : GaugeId) (x : Gauge) : (s.setGauge n x).slotsInUse = s.slotsInUse := rfl
@[simp] theorem State.setGauge_grantCounter (s : State) (n : GaugeId) (x : Gauge) : (s.setGauge n x).grantCounter = s.grantCounter := rfl
@[simp] theorem State.setGauge_waiting (s : State) (n : GaugeId) (x : Gauge) : (s.setGauge n x).waiting = s.waiting := rfl
@[simp] theorem State.setGauge_silence (s : State) (n : GaugeId) (x : Gauge) : (s.setGauge n x).silence = s.silence := rfl
@[simp] theorem State.setGauge_gate (s : State) (n : GaugeId) (x : Gauge) (h : GateId) : (s.setGauge n x).gate h = s.gate h := rfl
@[simp] theorem State.setGauge_record (s : State) (n : GaugeId) (x : Gauge) (h : GateId) : (s.setGauge n x).record h = s.record h := rfl
@[simp] theorem State.setGauge_curve (s : State) (n : GaugeId) (x : Gauge) (c : Fin 4) : (s.setGauge n x).curve c = s.curve c := rfl
@[simp] theorem State.setGauge_route (s : State) (n : GaugeId) (x : Gauge) (at_ : LinkAddr) : (s.setGauge n x).route at_ = s.route at_ := rfl

/-! ### `State.setRoute` -/

@[simp] theorem State.setRoute_pending (s : State) (a : LinkAddr) (x : RouteEntry) : (s.setRoute a x).pending = s.pending := rfl
@[simp] theorem State.setRoute_freeCount (s : State) (a : LinkAddr) (x : RouteEntry) : (s.setRoute a x).freeCount = s.freeCount := rfl
@[simp] theorem State.setRoute_evalDue (s : State) (a : LinkAddr) (x : RouteEntry) : (s.setRoute a x).evalDue = s.evalDue := rfl
@[simp] theorem State.setRoute_ownAddress (s : State) (a : LinkAddr) (x : RouteEntry) : (s.setRoute a x).ownAddress = s.ownAddress := rfl
@[simp] theorem State.setRoute_rate (s : State) (a : LinkAddr) (x : RouteEntry) : (s.setRoute a x).rate = s.rate := rfl
@[simp] theorem State.setRoute_stopPinLow (s : State) (a : LinkAddr) (x : RouteEntry) : (s.setRoute a x).stopPinLow = s.stopPinLow := rfl
@[simp] theorem State.setRoute_stopFilter (s : State) (a : LinkAddr) (x : RouteEntry) : (s.setRoute a x).stopFilter = s.stopFilter := rfl
@[simp] theorem State.setRoute_stopAsserted (s : State) (a : LinkAddr) (x : RouteEntry) : (s.setRoute a x).stopAsserted = s.stopAsserted := rfl
@[simp] theorem State.setRoute_faultN (s : State) (a : LinkAddr) (x : RouteEntry) : (s.setRoute a x).faultN = s.faultN := rfl
@[simp] theorem State.setRoute_tideClock (s : State) (a : LinkAddr) (x : RouteEntry) : (s.setRoute a x).tideClock = s.tideClock := rfl
@[simp] theorem State.setRoute_spReceiver (s : State) (a : LinkAddr) (x : RouteEntry) : (s.setRoute a x).spReceiver = s.spReceiver := rfl
@[simp] theorem State.setRoute_fpReceiver (s : State) (a : LinkAddr) (x : RouteEntry) : (s.setRoute a x).fpReceiver = s.fpReceiver := rfl
@[simp] theorem State.setRoute_spRx (s : State) (a : LinkAddr) (x : RouteEntry) : (s.setRoute a x).spRx = s.spRx := rfl
@[simp] theorem State.setRoute_fpRx (s : State) (a : LinkAddr) (x : RouteEntry) : (s.setRoute a x).fpRx = s.fpRx := rfl
@[simp] theorem State.setRoute_spTx (s : State) (a : LinkAddr) (x : RouteEntry) : (s.setRoute a x).spTx = s.spTx := rfl
@[simp] theorem State.setRoute_fpTx (s : State) (a : LinkAddr) (x : RouteEntry) : (s.setRoute a x).fpTx = s.fpTx := rfl
@[simp] theorem State.setRoute_spCounters (s : State) (a : LinkAddr) (x : RouteEntry) : (s.setRoute a x).spCounters = s.spCounters := rfl
@[simp] theorem State.setRoute_fpCounters (s : State) (a : LinkAddr) (x : RouteEntry) : (s.setRoute a x).fpCounters = s.fpCounters := rfl
@[simp] theorem State.setRoute_replies (s : State) (a : LinkAddr) (x : RouteEntry) : (s.setRoute a x).replies = s.replies := rfl
@[simp] theorem State.setRoute_notices (s : State) (a : LinkAddr) (x : RouteEntry) : (s.setRoute a x).notices = s.notices := rfl
@[simp] theorem State.setRoute_overflow (s : State) (a : LinkAddr) (x : RouteEntry) : (s.setRoute a x).overflow = s.overflow := rfl
@[simp] theorem State.setRoute_upQueue (s : State) (a : LinkAddr) (x : RouteEntry) : (s.setRoute a x).upQueue = s.upQueue := rfl
@[simp] theorem State.setRoute_downQueue (s : State) (a : LinkAddr) (x : RouteEntry) : (s.setRoute a x).downQueue = s.downQueue := rfl
@[simp] theorem State.setRoute_haltQueue (s : State) (a : LinkAddr) (x : RouteEntry) : (s.setRoute a x).haltQueue = s.haltQueue := rfl
@[simp] theorem State.setRoute_orderQueue (s : State) (a : LinkAddr) (x : RouteEntry) : (s.setRoute a x).orderQueue = s.orderQueue := rfl
@[simp] theorem State.setRoute_gates (s : State) (a : LinkAddr) (x : RouteEntry) : (s.setRoute a x).gates = s.gates := rfl
@[simp] theorem State.setRoute_curves (s : State) (a : LinkAddr) (x : RouteEntry) : (s.setRoute a x).curves = s.curves := rfl
@[simp] theorem State.setRoute_gauges (s : State) (a : LinkAddr) (x : RouteEntry) : (s.setRoute a x).gauges = s.gauges := rfl
@[simp] theorem State.setRoute_settings (s : State) (a : LinkAddr) (x : RouteEntry) : (s.setRoute a x).settings = s.settings := rfl
@[simp] theorem State.setRoute_settingsGen (s : State) (a : LinkAddr) (x : RouteEntry) : (s.setRoute a x).settingsGen = s.settingsGen := rfl
@[simp] theorem State.setRoute_staging (s : State) (a : LinkAddr) (x : RouteEntry) : (s.setRoute a x).staging = s.staging := rfl
@[simp] theorem State.setRoute_capture (s : State) (a : LinkAddr) (x : RouteEntry) : (s.setRoute a x).capture = s.capture := rfl
@[simp] theorem State.setRoute_upstream (s : State) (a : LinkAddr) (x : RouteEntry) : (s.setRoute a x).upstream = s.upstream := rfl
@[simp] theorem State.setRoute_downstream (s : State) (a : LinkAddr) (x : RouteEntry) : (s.setRoute a x).downstream = s.downstream := rfl
@[simp] theorem State.setRoute_head (s : State) (a : LinkAddr) (x : RouteEntry) : (s.setRoute a x).head = s.head := rfl
@[simp] theorem State.setRoute_mode (s : State) (a : LinkAddr) (x : RouteEntry) : (s.setRoute a x).mode = s.mode := rfl
@[simp] theorem State.setRoute_slotsInUse (s : State) (a : LinkAddr) (x : RouteEntry) : (s.setRoute a x).slotsInUse = s.slotsInUse := rfl
@[simp] theorem State.setRoute_grantCounter (s : State) (a : LinkAddr) (x : RouteEntry) : (s.setRoute a x).grantCounter = s.grantCounter := rfl
@[simp] theorem State.setRoute_waiting (s : State) (a : LinkAddr) (x : RouteEntry) : (s.setRoute a x).waiting = s.waiting := rfl
@[simp] theorem State.setRoute_silence (s : State) (a : LinkAddr) (x : RouteEntry) : (s.setRoute a x).silence = s.silence := rfl
@[simp] theorem State.setRoute_gate (s : State) (a : LinkAddr) (x : RouteEntry) (h : GateId) : (s.setRoute a x).gate h = s.gate h := rfl
@[simp] theorem State.setRoute_record (s : State) (a : LinkAddr) (x : RouteEntry) (h : GateId) : (s.setRoute a x).record h = s.record h := rfl
@[simp] theorem State.setRoute_curve (s : State) (a : LinkAddr) (x : RouteEntry) (c : Fin 4) : (s.setRoute a x).curve c = s.curve c := rfl
@[simp] theorem State.setRoute_gauge (s : State) (a : LinkAddr) (x : RouteEntry) (gn : GaugeId) : (s.setRoute a x).gauge gn = s.gauge gn := rfl

/-! ### `State.setBank` -/

@[simp] theorem State.setBank_pending (s : State) (b : Bank) (x : BankState) : (s.setBank b x).pending = s.pending := by cases b <;> rfl
@[simp] theorem State.setBank_freeCount (s : State) (b : Bank) (x : BankState) : (s.setBank b x).freeCount = s.freeCount := by cases b <;> rfl
@[simp] theorem State.setBank_evalDue (s : State) (b : Bank) (x : BankState) : (s.setBank b x).evalDue = s.evalDue := by cases b <;> rfl
@[simp] theorem State.setBank_ownAddress (s : State) (b : Bank) (x : BankState) : (s.setBank b x).ownAddress = s.ownAddress := by cases b <;> rfl
@[simp] theorem State.setBank_rate (s : State) (b : Bank) (x : BankState) : (s.setBank b x).rate = s.rate := by cases b <;> rfl
@[simp] theorem State.setBank_stopPinLow (s : State) (b : Bank) (x : BankState) : (s.setBank b x).stopPinLow = s.stopPinLow := by cases b <;> rfl
@[simp] theorem State.setBank_stopFilter (s : State) (b : Bank) (x : BankState) : (s.setBank b x).stopFilter = s.stopFilter := by cases b <;> rfl
@[simp] theorem State.setBank_stopAsserted (s : State) (b : Bank) (x : BankState) : (s.setBank b x).stopAsserted = s.stopAsserted := by cases b <;> rfl
@[simp] theorem State.setBank_faultN (s : State) (b : Bank) (x : BankState) : (s.setBank b x).faultN = s.faultN := by cases b <;> rfl
@[simp] theorem State.setBank_tideClock (s : State) (b : Bank) (x : BankState) : (s.setBank b x).tideClock = s.tideClock := by cases b <;> rfl
@[simp] theorem State.setBank_spReceiver (s : State) (b : Bank) (x : BankState) : (s.setBank b x).spReceiver = s.spReceiver := by cases b <;> rfl
@[simp] theorem State.setBank_fpReceiver (s : State) (b : Bank) (x : BankState) : (s.setBank b x).fpReceiver = s.fpReceiver := by cases b <;> rfl
@[simp] theorem State.setBank_spRx (s : State) (b : Bank) (x : BankState) : (s.setBank b x).spRx = s.spRx := by cases b <;> rfl
@[simp] theorem State.setBank_fpRx (s : State) (b : Bank) (x : BankState) : (s.setBank b x).fpRx = s.fpRx := by cases b <;> rfl
@[simp] theorem State.setBank_spTx (s : State) (b : Bank) (x : BankState) : (s.setBank b x).spTx = s.spTx := by cases b <;> rfl
@[simp] theorem State.setBank_fpTx (s : State) (b : Bank) (x : BankState) : (s.setBank b x).fpTx = s.fpTx := by cases b <;> rfl
@[simp] theorem State.setBank_spCounters (s : State) (b : Bank) (x : BankState) : (s.setBank b x).spCounters = s.spCounters := by cases b <;> rfl
@[simp] theorem State.setBank_fpCounters (s : State) (b : Bank) (x : BankState) : (s.setBank b x).fpCounters = s.fpCounters := by cases b <;> rfl
@[simp] theorem State.setBank_replies (s : State) (b : Bank) (x : BankState) : (s.setBank b x).replies = s.replies := by cases b <;> rfl
@[simp] theorem State.setBank_notices (s : State) (b : Bank) (x : BankState) : (s.setBank b x).notices = s.notices := by cases b <;> rfl
@[simp] theorem State.setBank_overflow (s : State) (b : Bank) (x : BankState) : (s.setBank b x).overflow = s.overflow := by cases b <;> rfl
@[simp] theorem State.setBank_upQueue (s : State) (b : Bank) (x : BankState) : (s.setBank b x).upQueue = s.upQueue := by cases b <;> rfl
@[simp] theorem State.setBank_downQueue (s : State) (b : Bank) (x : BankState) : (s.setBank b x).downQueue = s.downQueue := by cases b <;> rfl
@[simp] theorem State.setBank_haltQueue (s : State) (b : Bank) (x : BankState) : (s.setBank b x).haltQueue = s.haltQueue := by cases b <;> rfl
@[simp] theorem State.setBank_orderQueue (s : State) (b : Bank) (x : BankState) : (s.setBank b x).orderQueue = s.orderQueue := by cases b <;> rfl
@[simp] theorem State.setBank_gates (s : State) (b : Bank) (x : BankState) : (s.setBank b x).gates = s.gates := by cases b <;> rfl
@[simp] theorem State.setBank_curves (s : State) (b : Bank) (x : BankState) : (s.setBank b x).curves = s.curves := by cases b <;> rfl
@[simp] theorem State.setBank_gauges (s : State) (b : Bank) (x : BankState) : (s.setBank b x).gauges = s.gauges := by cases b <;> rfl
@[simp] theorem State.setBank_routes (s : State) (b : Bank) (x : BankState) : (s.setBank b x).routes = s.routes := by cases b <;> rfl
@[simp] theorem State.setBank_settings (s : State) (b : Bank) (x : BankState) : (s.setBank b x).settings = s.settings := by cases b <;> rfl
@[simp] theorem State.setBank_settingsGen (s : State) (b : Bank) (x : BankState) : (s.setBank b x).settingsGen = s.settingsGen := by cases b <;> rfl
@[simp] theorem State.setBank_staging (s : State) (b : Bank) (x : BankState) : (s.setBank b x).staging = s.staging := by cases b <;> rfl
@[simp] theorem State.setBank_capture (s : State) (b : Bank) (x : BankState) : (s.setBank b x).capture = s.capture := by cases b <;> rfl
@[simp] theorem State.setBank_head (s : State) (b : Bank) (x : BankState) : (s.setBank b x).head = s.head := by cases b <;> rfl
@[simp] theorem State.setBank_mode (s : State) (b : Bank) (x : BankState) : (s.setBank b x).mode = s.mode := by cases b <;> rfl
@[simp] theorem State.setBank_slotsInUse (s : State) (b : Bank) (x : BankState) : (s.setBank b x).slotsInUse = s.slotsInUse := by cases b <;> rfl
@[simp] theorem State.setBank_grantCounter (s : State) (b : Bank) (x : BankState) : (s.setBank b x).grantCounter = s.grantCounter := by cases b <;> rfl
@[simp] theorem State.setBank_waiting (s : State) (b : Bank) (x : BankState) : (s.setBank b x).waiting = s.waiting := by cases b <;> rfl
@[simp] theorem State.setBank_silence (s : State) (b : Bank) (x : BankState) : (s.setBank b x).silence = s.silence := by cases b <;> rfl
@[simp] theorem State.setBank_gate (s : State) (b : Bank) (x : BankState) (h : GateId) : (s.setBank b x).gate h = s.gate h := by cases b <;> rfl
@[simp] theorem State.setBank_record (s : State) (b : Bank) (x : BankState) (h : GateId) : (s.setBank b x).record h = s.record h := by cases b <;> rfl
@[simp] theorem State.setBank_curve (s : State) (b : Bank) (x : BankState) (c : Fin 4) : (s.setBank b x).curve c = s.curve c := by cases b <;> rfl
@[simp] theorem State.setBank_gauge (s : State) (b : Bank) (x : BankState) (gn : GaugeId) : (s.setBank b x).gauge gn = s.gauge gn := by cases b <;> rfl
@[simp] theorem State.setBank_route (s : State) (b : Bank) (x : BankState) (at_ : LinkAddr) : (s.setBank b x).route at_ = s.route at_ := by cases b <;> rfl

/-! ### `State.setReceiver` -/

@[simp] theorem State.setReceiver_pending (s : State) (p : Port) (l : List RxChar) : (s.setReceiver p l).pending = s.pending := by cases p <;> rfl
@[simp] theorem State.setReceiver_freeCount (s : State) (p : Port) (l : List RxChar) : (s.setReceiver p l).freeCount = s.freeCount := by cases p <;> rfl
@[simp] theorem State.setReceiver_evalDue (s : State) (p : Port) (l : List RxChar) : (s.setReceiver p l).evalDue = s.evalDue := by cases p <;> rfl
@[simp] theorem State.setReceiver_ownAddress (s : State) (p : Port) (l : List RxChar) : (s.setReceiver p l).ownAddress = s.ownAddress := by cases p <;> rfl
@[simp] theorem State.setReceiver_rate (s : State) (p : Port) (l : List RxChar) : (s.setReceiver p l).rate = s.rate := by cases p <;> rfl
@[simp] theorem State.setReceiver_stopPinLow (s : State) (p : Port) (l : List RxChar) : (s.setReceiver p l).stopPinLow = s.stopPinLow := by cases p <;> rfl
@[simp] theorem State.setReceiver_stopFilter (s : State) (p : Port) (l : List RxChar) : (s.setReceiver p l).stopFilter = s.stopFilter := by cases p <;> rfl
@[simp] theorem State.setReceiver_stopAsserted (s : State) (p : Port) (l : List RxChar) : (s.setReceiver p l).stopAsserted = s.stopAsserted := by cases p <;> rfl
@[simp] theorem State.setReceiver_faultN (s : State) (p : Port) (l : List RxChar) : (s.setReceiver p l).faultN = s.faultN := by cases p <;> rfl
@[simp] theorem State.setReceiver_tideClock (s : State) (p : Port) (l : List RxChar) : (s.setReceiver p l).tideClock = s.tideClock := by cases p <;> rfl
@[simp] theorem State.setReceiver_spRx (s : State) (p : Port) (l : List RxChar) : (s.setReceiver p l).spRx = s.spRx := by cases p <;> rfl
@[simp] theorem State.setReceiver_fpRx (s : State) (p : Port) (l : List RxChar) : (s.setReceiver p l).fpRx = s.fpRx := by cases p <;> rfl
@[simp] theorem State.setReceiver_spTx (s : State) (p : Port) (l : List RxChar) : (s.setReceiver p l).spTx = s.spTx := by cases p <;> rfl
@[simp] theorem State.setReceiver_fpTx (s : State) (p : Port) (l : List RxChar) : (s.setReceiver p l).fpTx = s.fpTx := by cases p <;> rfl
@[simp] theorem State.setReceiver_spCounters (s : State) (p : Port) (l : List RxChar) : (s.setReceiver p l).spCounters = s.spCounters := by cases p <;> rfl
@[simp] theorem State.setReceiver_fpCounters (s : State) (p : Port) (l : List RxChar) : (s.setReceiver p l).fpCounters = s.fpCounters := by cases p <;> rfl
@[simp] theorem State.setReceiver_replies (s : State) (p : Port) (l : List RxChar) : (s.setReceiver p l).replies = s.replies := by cases p <;> rfl
@[simp] theorem State.setReceiver_notices (s : State) (p : Port) (l : List RxChar) : (s.setReceiver p l).notices = s.notices := by cases p <;> rfl
@[simp] theorem State.setReceiver_overflow (s : State) (p : Port) (l : List RxChar) : (s.setReceiver p l).overflow = s.overflow := by cases p <;> rfl
@[simp] theorem State.setReceiver_upQueue (s : State) (p : Port) (l : List RxChar) : (s.setReceiver p l).upQueue = s.upQueue := by cases p <;> rfl
@[simp] theorem State.setReceiver_downQueue (s : State) (p : Port) (l : List RxChar) : (s.setReceiver p l).downQueue = s.downQueue := by cases p <;> rfl
@[simp] theorem State.setReceiver_haltQueue (s : State) (p : Port) (l : List RxChar) : (s.setReceiver p l).haltQueue = s.haltQueue := by cases p <;> rfl
@[simp] theorem State.setReceiver_orderQueue (s : State) (p : Port) (l : List RxChar) : (s.setReceiver p l).orderQueue = s.orderQueue := by cases p <;> rfl
@[simp] theorem State.setReceiver_gates (s : State) (p : Port) (l : List RxChar) : (s.setReceiver p l).gates = s.gates := by cases p <;> rfl
@[simp] theorem State.setReceiver_curves (s : State) (p : Port) (l : List RxChar) : (s.setReceiver p l).curves = s.curves := by cases p <;> rfl
@[simp] theorem State.setReceiver_gauges (s : State) (p : Port) (l : List RxChar) : (s.setReceiver p l).gauges = s.gauges := by cases p <;> rfl
@[simp] theorem State.setReceiver_routes (s : State) (p : Port) (l : List RxChar) : (s.setReceiver p l).routes = s.routes := by cases p <;> rfl
@[simp] theorem State.setReceiver_settings (s : State) (p : Port) (l : List RxChar) : (s.setReceiver p l).settings = s.settings := by cases p <;> rfl
@[simp] theorem State.setReceiver_settingsGen (s : State) (p : Port) (l : List RxChar) : (s.setReceiver p l).settingsGen = s.settingsGen := by cases p <;> rfl
@[simp] theorem State.setReceiver_staging (s : State) (p : Port) (l : List RxChar) : (s.setReceiver p l).staging = s.staging := by cases p <;> rfl
@[simp] theorem State.setReceiver_capture (s : State) (p : Port) (l : List RxChar) : (s.setReceiver p l).capture = s.capture := by cases p <;> rfl
@[simp] theorem State.setReceiver_upstream (s : State) (p : Port) (l : List RxChar) : (s.setReceiver p l).upstream = s.upstream := by cases p <;> rfl
@[simp] theorem State.setReceiver_downstream (s : State) (p : Port) (l : List RxChar) : (s.setReceiver p l).downstream = s.downstream := by cases p <;> rfl
@[simp] theorem State.setReceiver_head (s : State) (p : Port) (l : List RxChar) : (s.setReceiver p l).head = s.head := by cases p <;> rfl
@[simp] theorem State.setReceiver_mode (s : State) (p : Port) (l : List RxChar) : (s.setReceiver p l).mode = s.mode := by cases p <;> rfl
@[simp] theorem State.setReceiver_slotsInUse (s : State) (p : Port) (l : List RxChar) : (s.setReceiver p l).slotsInUse = s.slotsInUse := by cases p <;> rfl
@[simp] theorem State.setReceiver_grantCounter (s : State) (p : Port) (l : List RxChar) : (s.setReceiver p l).grantCounter = s.grantCounter := by cases p <;> rfl
@[simp] theorem State.setReceiver_waiting (s : State) (p : Port) (l : List RxChar) : (s.setReceiver p l).waiting = s.waiting := by cases p <;> rfl
@[simp] theorem State.setReceiver_silence (s : State) (p : Port) (l : List RxChar) : (s.setReceiver p l).silence = s.silence := by cases p <;> rfl
@[simp] theorem State.setReceiver_gate (s : State) (p : Port) (l : List RxChar) (h : GateId) : (s.setReceiver p l).gate h = s.gate h := by cases p <;> rfl
@[simp] theorem State.setReceiver_record (s : State) (p : Port) (l : List RxChar) (h : GateId) : (s.setReceiver p l).record h = s.record h := by cases p <;> rfl
@[simp] theorem State.setReceiver_curve (s : State) (p : Port) (l : List RxChar) (c : Fin 4) : (s.setReceiver p l).curve c = s.curve c := by cases p <;> rfl
@[simp] theorem State.setReceiver_gauge (s : State) (p : Port) (l : List RxChar) (gn : GaugeId) : (s.setReceiver p l).gauge gn = s.gauge gn := by cases p <;> rfl
@[simp] theorem State.setReceiver_route (s : State) (p : Port) (l : List RxChar) (at_ : LinkAddr) : (s.setReceiver p l).route at_ = s.route at_ := by cases p <;> rfl

/-! ### `State.setBuffer` -/

@[simp] theorem State.setBuffer_pending (s : State) (p : Port) (l : List RxFrame) : (s.setBuffer p l).pending = s.pending := by cases p <;> rfl
@[simp] theorem State.setBuffer_freeCount (s : State) (p : Port) (l : List RxFrame) : (s.setBuffer p l).freeCount = s.freeCount := by cases p <;> rfl
@[simp] theorem State.setBuffer_evalDue (s : State) (p : Port) (l : List RxFrame) : (s.setBuffer p l).evalDue = s.evalDue := by cases p <;> rfl
@[simp] theorem State.setBuffer_ownAddress (s : State) (p : Port) (l : List RxFrame) : (s.setBuffer p l).ownAddress = s.ownAddress := by cases p <;> rfl
@[simp] theorem State.setBuffer_rate (s : State) (p : Port) (l : List RxFrame) : (s.setBuffer p l).rate = s.rate := by cases p <;> rfl
@[simp] theorem State.setBuffer_stopPinLow (s : State) (p : Port) (l : List RxFrame) : (s.setBuffer p l).stopPinLow = s.stopPinLow := by cases p <;> rfl
@[simp] theorem State.setBuffer_stopFilter (s : State) (p : Port) (l : List RxFrame) : (s.setBuffer p l).stopFilter = s.stopFilter := by cases p <;> rfl
@[simp] theorem State.setBuffer_stopAsserted (s : State) (p : Port) (l : List RxFrame) : (s.setBuffer p l).stopAsserted = s.stopAsserted := by cases p <;> rfl
@[simp] theorem State.setBuffer_faultN (s : State) (p : Port) (l : List RxFrame) : (s.setBuffer p l).faultN = s.faultN := by cases p <;> rfl
@[simp] theorem State.setBuffer_tideClock (s : State) (p : Port) (l : List RxFrame) : (s.setBuffer p l).tideClock = s.tideClock := by cases p <;> rfl
@[simp] theorem State.setBuffer_spReceiver (s : State) (p : Port) (l : List RxFrame) : (s.setBuffer p l).spReceiver = s.spReceiver := by cases p <;> rfl
@[simp] theorem State.setBuffer_fpReceiver (s : State) (p : Port) (l : List RxFrame) : (s.setBuffer p l).fpReceiver = s.fpReceiver := by cases p <;> rfl
@[simp] theorem State.setBuffer_spTx (s : State) (p : Port) (l : List RxFrame) : (s.setBuffer p l).spTx = s.spTx := by cases p <;> rfl
@[simp] theorem State.setBuffer_fpTx (s : State) (p : Port) (l : List RxFrame) : (s.setBuffer p l).fpTx = s.fpTx := by cases p <;> rfl
@[simp] theorem State.setBuffer_spCounters (s : State) (p : Port) (l : List RxFrame) : (s.setBuffer p l).spCounters = s.spCounters := by cases p <;> rfl
@[simp] theorem State.setBuffer_fpCounters (s : State) (p : Port) (l : List RxFrame) : (s.setBuffer p l).fpCounters = s.fpCounters := by cases p <;> rfl
@[simp] theorem State.setBuffer_replies (s : State) (p : Port) (l : List RxFrame) : (s.setBuffer p l).replies = s.replies := by cases p <;> rfl
@[simp] theorem State.setBuffer_notices (s : State) (p : Port) (l : List RxFrame) : (s.setBuffer p l).notices = s.notices := by cases p <;> rfl
@[simp] theorem State.setBuffer_overflow (s : State) (p : Port) (l : List RxFrame) : (s.setBuffer p l).overflow = s.overflow := by cases p <;> rfl
@[simp] theorem State.setBuffer_upQueue (s : State) (p : Port) (l : List RxFrame) : (s.setBuffer p l).upQueue = s.upQueue := by cases p <;> rfl
@[simp] theorem State.setBuffer_downQueue (s : State) (p : Port) (l : List RxFrame) : (s.setBuffer p l).downQueue = s.downQueue := by cases p <;> rfl
@[simp] theorem State.setBuffer_haltQueue (s : State) (p : Port) (l : List RxFrame) : (s.setBuffer p l).haltQueue = s.haltQueue := by cases p <;> rfl
@[simp] theorem State.setBuffer_orderQueue (s : State) (p : Port) (l : List RxFrame) : (s.setBuffer p l).orderQueue = s.orderQueue := by cases p <;> rfl
@[simp] theorem State.setBuffer_gates (s : State) (p : Port) (l : List RxFrame) : (s.setBuffer p l).gates = s.gates := by cases p <;> rfl
@[simp] theorem State.setBuffer_curves (s : State) (p : Port) (l : List RxFrame) : (s.setBuffer p l).curves = s.curves := by cases p <;> rfl
@[simp] theorem State.setBuffer_gauges (s : State) (p : Port) (l : List RxFrame) : (s.setBuffer p l).gauges = s.gauges := by cases p <;> rfl
@[simp] theorem State.setBuffer_routes (s : State) (p : Port) (l : List RxFrame) : (s.setBuffer p l).routes = s.routes := by cases p <;> rfl
@[simp] theorem State.setBuffer_settings (s : State) (p : Port) (l : List RxFrame) : (s.setBuffer p l).settings = s.settings := by cases p <;> rfl
@[simp] theorem State.setBuffer_settingsGen (s : State) (p : Port) (l : List RxFrame) : (s.setBuffer p l).settingsGen = s.settingsGen := by cases p <;> rfl
@[simp] theorem State.setBuffer_staging (s : State) (p : Port) (l : List RxFrame) : (s.setBuffer p l).staging = s.staging := by cases p <;> rfl
@[simp] theorem State.setBuffer_capture (s : State) (p : Port) (l : List RxFrame) : (s.setBuffer p l).capture = s.capture := by cases p <;> rfl
@[simp] theorem State.setBuffer_upstream (s : State) (p : Port) (l : List RxFrame) : (s.setBuffer p l).upstream = s.upstream := by cases p <;> rfl
@[simp] theorem State.setBuffer_downstream (s : State) (p : Port) (l : List RxFrame) : (s.setBuffer p l).downstream = s.downstream := by cases p <;> rfl
@[simp] theorem State.setBuffer_head (s : State) (p : Port) (l : List RxFrame) : (s.setBuffer p l).head = s.head := by cases p <;> rfl
@[simp] theorem State.setBuffer_mode (s : State) (p : Port) (l : List RxFrame) : (s.setBuffer p l).mode = s.mode := by cases p <;> rfl
@[simp] theorem State.setBuffer_slotsInUse (s : State) (p : Port) (l : List RxFrame) : (s.setBuffer p l).slotsInUse = s.slotsInUse := by cases p <;> rfl
@[simp] theorem State.setBuffer_grantCounter (s : State) (p : Port) (l : List RxFrame) : (s.setBuffer p l).grantCounter = s.grantCounter := by cases p <;> rfl
@[simp] theorem State.setBuffer_waiting (s : State) (p : Port) (l : List RxFrame) : (s.setBuffer p l).waiting = s.waiting := by cases p <;> rfl
@[simp] theorem State.setBuffer_silence (s : State) (p : Port) (l : List RxFrame) : (s.setBuffer p l).silence = s.silence := by cases p <;> rfl
@[simp] theorem State.setBuffer_gate (s : State) (p : Port) (l : List RxFrame) (h : GateId) : (s.setBuffer p l).gate h = s.gate h := by cases p <;> rfl
@[simp] theorem State.setBuffer_record (s : State) (p : Port) (l : List RxFrame) (h : GateId) : (s.setBuffer p l).record h = s.record h := by cases p <;> rfl
@[simp] theorem State.setBuffer_curve (s : State) (p : Port) (l : List RxFrame) (c : Fin 4) : (s.setBuffer p l).curve c = s.curve c := by cases p <;> rfl
@[simp] theorem State.setBuffer_gauge (s : State) (p : Port) (l : List RxFrame) (gn : GaugeId) : (s.setBuffer p l).gauge gn = s.gauge gn := by cases p <;> rfl
@[simp] theorem State.setBuffer_route (s : State) (p : Port) (l : List RxFrame) (at_ : LinkAddr) : (s.setBuffer p l).route at_ = s.route at_ := by cases p <;> rfl

/-! ### `State.hearStation` -/

@[simp] theorem State.hearStation_pending (s : State) (p : Port) : (s.hearStation p).pending = s.pending := by cases p <;> rfl
@[simp] theorem State.hearStation_freeCount (s : State) (p : Port) : (s.hearStation p).freeCount = s.freeCount := by cases p <;> rfl
@[simp] theorem State.hearStation_evalDue (s : State) (p : Port) : (s.hearStation p).evalDue = s.evalDue := by cases p <;> rfl
@[simp] theorem State.hearStation_ownAddress (s : State) (p : Port) : (s.hearStation p).ownAddress = s.ownAddress := by cases p <;> rfl
@[simp] theorem State.hearStation_rate (s : State) (p : Port) : (s.hearStation p).rate = s.rate := by cases p <;> rfl
@[simp] theorem State.hearStation_stopPinLow (s : State) (p : Port) : (s.hearStation p).stopPinLow = s.stopPinLow := by cases p <;> rfl
@[simp] theorem State.hearStation_stopFilter (s : State) (p : Port) : (s.hearStation p).stopFilter = s.stopFilter := by cases p <;> rfl
@[simp] theorem State.hearStation_stopAsserted (s : State) (p : Port) : (s.hearStation p).stopAsserted = s.stopAsserted := by cases p <;> rfl
@[simp] theorem State.hearStation_faultN (s : State) (p : Port) : (s.hearStation p).faultN = s.faultN := by cases p <;> rfl
@[simp] theorem State.hearStation_tideClock (s : State) (p : Port) : (s.hearStation p).tideClock = s.tideClock := by cases p <;> rfl
@[simp] theorem State.hearStation_spReceiver (s : State) (p : Port) : (s.hearStation p).spReceiver = s.spReceiver := by cases p <;> rfl
@[simp] theorem State.hearStation_fpReceiver (s : State) (p : Port) : (s.hearStation p).fpReceiver = s.fpReceiver := by cases p <;> rfl
@[simp] theorem State.hearStation_spRx (s : State) (p : Port) : (s.hearStation p).spRx = s.spRx := by cases p <;> rfl
@[simp] theorem State.hearStation_fpRx (s : State) (p : Port) : (s.hearStation p).fpRx = s.fpRx := by cases p <;> rfl
@[simp] theorem State.hearStation_spTx (s : State) (p : Port) : (s.hearStation p).spTx = s.spTx := by cases p <;> rfl
@[simp] theorem State.hearStation_fpTx (s : State) (p : Port) : (s.hearStation p).fpTx = s.fpTx := by cases p <;> rfl
@[simp] theorem State.hearStation_spCounters (s : State) (p : Port) : (s.hearStation p).spCounters = s.spCounters := by cases p <;> rfl
@[simp] theorem State.hearStation_fpCounters (s : State) (p : Port) : (s.hearStation p).fpCounters = s.fpCounters := by cases p <;> rfl
@[simp] theorem State.hearStation_replies (s : State) (p : Port) : (s.hearStation p).replies = s.replies := by cases p <;> rfl
@[simp] theorem State.hearStation_notices (s : State) (p : Port) : (s.hearStation p).notices = s.notices := by cases p <;> rfl
@[simp] theorem State.hearStation_overflow (s : State) (p : Port) : (s.hearStation p).overflow = s.overflow := by cases p <;> rfl
@[simp] theorem State.hearStation_upQueue (s : State) (p : Port) : (s.hearStation p).upQueue = s.upQueue := by cases p <;> rfl
@[simp] theorem State.hearStation_downQueue (s : State) (p : Port) : (s.hearStation p).downQueue = s.downQueue := by cases p <;> rfl
@[simp] theorem State.hearStation_haltQueue (s : State) (p : Port) : (s.hearStation p).haltQueue = s.haltQueue := by cases p <;> rfl
@[simp] theorem State.hearStation_orderQueue (s : State) (p : Port) : (s.hearStation p).orderQueue = s.orderQueue := by cases p <;> rfl
@[simp] theorem State.hearStation_gates (s : State) (p : Port) : (s.hearStation p).gates = s.gates := by cases p <;> rfl
@[simp] theorem State.hearStation_curves (s : State) (p : Port) : (s.hearStation p).curves = s.curves := by cases p <;> rfl
@[simp] theorem State.hearStation_gauges (s : State) (p : Port) : (s.hearStation p).gauges = s.gauges := by cases p <;> rfl
@[simp] theorem State.hearStation_routes (s : State) (p : Port) : (s.hearStation p).routes = s.routes := by cases p <;> rfl
@[simp] theorem State.hearStation_settings (s : State) (p : Port) : (s.hearStation p).settings = s.settings := by cases p <;> rfl
@[simp] theorem State.hearStation_settingsGen (s : State) (p : Port) : (s.hearStation p).settingsGen = s.settingsGen := by cases p <;> rfl
@[simp] theorem State.hearStation_staging (s : State) (p : Port) : (s.hearStation p).staging = s.staging := by cases p <;> rfl
@[simp] theorem State.hearStation_capture (s : State) (p : Port) : (s.hearStation p).capture = s.capture := by cases p <;> rfl
@[simp] theorem State.hearStation_upstream (s : State) (p : Port) : (s.hearStation p).upstream = s.upstream := by cases p <;> rfl
@[simp] theorem State.hearStation_downstream (s : State) (p : Port) : (s.hearStation p).downstream = s.downstream := by cases p <;> rfl
@[simp] theorem State.hearStation_head (s : State) (p : Port) : (s.hearStation p).head = s.head := by cases p <;> rfl
@[simp] theorem State.hearStation_mode (s : State) (p : Port) : (s.hearStation p).mode = s.mode := by cases p <;> rfl
@[simp] theorem State.hearStation_slotsInUse (s : State) (p : Port) : (s.hearStation p).slotsInUse = s.slotsInUse := by cases p <;> rfl
@[simp] theorem State.hearStation_grantCounter (s : State) (p : Port) : (s.hearStation p).grantCounter = s.grantCounter := by cases p <;> rfl
@[simp] theorem State.hearStation_waiting (s : State) (p : Port) : (s.hearStation p).waiting = s.waiting := by cases p <;> rfl
@[simp] theorem State.hearStation_gate (s : State) (p : Port) (h : GateId) : (s.hearStation p).gate h = s.gate h := by cases p <;> rfl
@[simp] theorem State.hearStation_record (s : State) (p : Port) (h : GateId) : (s.hearStation p).record h = s.record h := by cases p <;> rfl
@[simp] theorem State.hearStation_curve (s : State) (p : Port) (c : Fin 4) : (s.hearStation p).curve c = s.curve c := by cases p <;> rfl
@[simp] theorem State.hearStation_gauge (s : State) (p : Port) (gn : GaugeId) : (s.hearStation p).gauge gn = s.gauge gn := by cases p <;> rfl
@[simp] theorem State.hearStation_route (s : State) (p : Port) (at_ : LinkAddr) : (s.hearStation p).route at_ = s.route at_ := by cases p <;> rfl

/-! ### `State.count` -/

@[simp] theorem State.count_pending (s : State) (p : Port) (n : CounterName) : (s.count p n).pending = s.pending := by cases p <;> rfl
@[simp] theorem State.count_freeCount (s : State) (p : Port) (n : CounterName) : (s.count p n).freeCount = s.freeCount := by cases p <;> rfl
@[simp] theorem State.count_evalDue (s : State) (p : Port) (n : CounterName) : (s.count p n).evalDue = s.evalDue := by cases p <;> rfl
@[simp] theorem State.count_ownAddress (s : State) (p : Port) (n : CounterName) : (s.count p n).ownAddress = s.ownAddress := by cases p <;> rfl
@[simp] theorem State.count_rate (s : State) (p : Port) (n : CounterName) : (s.count p n).rate = s.rate := by cases p <;> rfl
@[simp] theorem State.count_stopPinLow (s : State) (p : Port) (n : CounterName) : (s.count p n).stopPinLow = s.stopPinLow := by cases p <;> rfl
@[simp] theorem State.count_stopFilter (s : State) (p : Port) (n : CounterName) : (s.count p n).stopFilter = s.stopFilter := by cases p <;> rfl
@[simp] theorem State.count_stopAsserted (s : State) (p : Port) (n : CounterName) : (s.count p n).stopAsserted = s.stopAsserted := by cases p <;> rfl
@[simp] theorem State.count_faultN (s : State) (p : Port) (n : CounterName) : (s.count p n).faultN = s.faultN := by cases p <;> rfl
@[simp] theorem State.count_tideClock (s : State) (p : Port) (n : CounterName) : (s.count p n).tideClock = s.tideClock := by cases p <;> rfl
@[simp] theorem State.count_spReceiver (s : State) (p : Port) (n : CounterName) : (s.count p n).spReceiver = s.spReceiver := by cases p <;> rfl
@[simp] theorem State.count_fpReceiver (s : State) (p : Port) (n : CounterName) : (s.count p n).fpReceiver = s.fpReceiver := by cases p <;> rfl
@[simp] theorem State.count_spRx (s : State) (p : Port) (n : CounterName) : (s.count p n).spRx = s.spRx := by cases p <;> rfl
@[simp] theorem State.count_fpRx (s : State) (p : Port) (n : CounterName) : (s.count p n).fpRx = s.fpRx := by cases p <;> rfl
@[simp] theorem State.count_spTx (s : State) (p : Port) (n : CounterName) : (s.count p n).spTx = s.spTx := by cases p <;> rfl
@[simp] theorem State.count_fpTx (s : State) (p : Port) (n : CounterName) : (s.count p n).fpTx = s.fpTx := by cases p <;> rfl
@[simp] theorem State.count_replies (s : State) (p : Port) (n : CounterName) : (s.count p n).replies = s.replies := by cases p <;> rfl
@[simp] theorem State.count_notices (s : State) (p : Port) (n : CounterName) : (s.count p n).notices = s.notices := by cases p <;> rfl
@[simp] theorem State.count_overflow (s : State) (p : Port) (n : CounterName) : (s.count p n).overflow = s.overflow := by cases p <;> rfl
@[simp] theorem State.count_upQueue (s : State) (p : Port) (n : CounterName) : (s.count p n).upQueue = s.upQueue := by cases p <;> rfl
@[simp] theorem State.count_downQueue (s : State) (p : Port) (n : CounterName) : (s.count p n).downQueue = s.downQueue := by cases p <;> rfl
@[simp] theorem State.count_haltQueue (s : State) (p : Port) (n : CounterName) : (s.count p n).haltQueue = s.haltQueue := by cases p <;> rfl
@[simp] theorem State.count_orderQueue (s : State) (p : Port) (n : CounterName) : (s.count p n).orderQueue = s.orderQueue := by cases p <;> rfl
@[simp] theorem State.count_gates (s : State) (p : Port) (n : CounterName) : (s.count p n).gates = s.gates := by cases p <;> rfl
@[simp] theorem State.count_curves (s : State) (p : Port) (n : CounterName) : (s.count p n).curves = s.curves := by cases p <;> rfl
@[simp] theorem State.count_gauges (s : State) (p : Port) (n : CounterName) : (s.count p n).gauges = s.gauges := by cases p <;> rfl
@[simp] theorem State.count_routes (s : State) (p : Port) (n : CounterName) : (s.count p n).routes = s.routes := by cases p <;> rfl
@[simp] theorem State.count_settings (s : State) (p : Port) (n : CounterName) : (s.count p n).settings = s.settings := by cases p <;> rfl
@[simp] theorem State.count_settingsGen (s : State) (p : Port) (n : CounterName) : (s.count p n).settingsGen = s.settingsGen := by cases p <;> rfl
@[simp] theorem State.count_staging (s : State) (p : Port) (n : CounterName) : (s.count p n).staging = s.staging := by cases p <;> rfl
@[simp] theorem State.count_capture (s : State) (p : Port) (n : CounterName) : (s.count p n).capture = s.capture := by cases p <;> rfl
@[simp] theorem State.count_upstream (s : State) (p : Port) (n : CounterName) : (s.count p n).upstream = s.upstream := by cases p <;> rfl
@[simp] theorem State.count_downstream (s : State) (p : Port) (n : CounterName) : (s.count p n).downstream = s.downstream := by cases p <;> rfl
@[simp] theorem State.count_head (s : State) (p : Port) (n : CounterName) : (s.count p n).head = s.head := by cases p <;> rfl
@[simp] theorem State.count_mode (s : State) (p : Port) (n : CounterName) : (s.count p n).mode = s.mode := by cases p <;> rfl
@[simp] theorem State.count_slotsInUse (s : State) (p : Port) (n : CounterName) : (s.count p n).slotsInUse = s.slotsInUse := by cases p <;> rfl
@[simp] theorem State.count_grantCounter (s : State) (p : Port) (n : CounterName) : (s.count p n).grantCounter = s.grantCounter := by cases p <;> rfl
@[simp] theorem State.count_waiting (s : State) (p : Port) (n : CounterName) : (s.count p n).waiting = s.waiting := by cases p <;> rfl
@[simp] theorem State.count_silence (s : State) (p : Port) (n : CounterName) : (s.count p n).silence = s.silence := by cases p <;> rfl
@[simp] theorem State.count_gate (s : State) (p : Port) (n : CounterName) (h : GateId) : (s.count p n).gate h = s.gate h := by cases p <;> rfl
@[simp] theorem State.count_record (s : State) (p : Port) (n : CounterName) (h : GateId) : (s.count p n).record h = s.record h := by cases p <;> rfl
@[simp] theorem State.count_curve (s : State) (p : Port) (n : CounterName) (c : Fin 4) : (s.count p n).curve c = s.curve c := by cases p <;> rfl
@[simp] theorem State.count_gauge (s : State) (p : Port) (n : CounterName) (gn : GaugeId) : (s.count p n).gauge gn = s.gauge gn := by cases p <;> rfl
@[simp] theorem State.count_route (s : State) (p : Port) (n : CounterName) (at_ : LinkAddr) : (s.count p n).route at_ = s.route at_ := by cases p <;> rfl

/-! ### `State.reply` -/

@[simp] theorem State.reply_pending (s : State) (k : Byte) (r : Result) (d : Nat) (l : List Byte) : (s.reply k r d l).pending = s.pending := rfl
@[simp] theorem State.reply_freeCount (s : State) (k : Byte) (r : Result) (d : Nat) (l : List Byte) : (s.reply k r d l).freeCount = s.freeCount := rfl
@[simp] theorem State.reply_evalDue (s : State) (k : Byte) (r : Result) (d : Nat) (l : List Byte) : (s.reply k r d l).evalDue = s.evalDue := rfl
@[simp] theorem State.reply_ownAddress (s : State) (k : Byte) (r : Result) (d : Nat) (l : List Byte) : (s.reply k r d l).ownAddress = s.ownAddress := rfl
@[simp] theorem State.reply_rate (s : State) (k : Byte) (r : Result) (d : Nat) (l : List Byte) : (s.reply k r d l).rate = s.rate := rfl
@[simp] theorem State.reply_stopPinLow (s : State) (k : Byte) (r : Result) (d : Nat) (l : List Byte) : (s.reply k r d l).stopPinLow = s.stopPinLow := rfl
@[simp] theorem State.reply_stopFilter (s : State) (k : Byte) (r : Result) (d : Nat) (l : List Byte) : (s.reply k r d l).stopFilter = s.stopFilter := rfl
@[simp] theorem State.reply_stopAsserted (s : State) (k : Byte) (r : Result) (d : Nat) (l : List Byte) : (s.reply k r d l).stopAsserted = s.stopAsserted := rfl
@[simp] theorem State.reply_faultN (s : State) (k : Byte) (r : Result) (d : Nat) (l : List Byte) : (s.reply k r d l).faultN = s.faultN := rfl
@[simp] theorem State.reply_tideClock (s : State) (k : Byte) (r : Result) (d : Nat) (l : List Byte) : (s.reply k r d l).tideClock = s.tideClock := rfl
@[simp] theorem State.reply_spReceiver (s : State) (k : Byte) (r : Result) (d : Nat) (l : List Byte) : (s.reply k r d l).spReceiver = s.spReceiver := rfl
@[simp] theorem State.reply_fpReceiver (s : State) (k : Byte) (r : Result) (d : Nat) (l : List Byte) : (s.reply k r d l).fpReceiver = s.fpReceiver := rfl
@[simp] theorem State.reply_spRx (s : State) (k : Byte) (r : Result) (d : Nat) (l : List Byte) : (s.reply k r d l).spRx = s.spRx := rfl
@[simp] theorem State.reply_fpRx (s : State) (k : Byte) (r : Result) (d : Nat) (l : List Byte) : (s.reply k r d l).fpRx = s.fpRx := rfl
@[simp] theorem State.reply_spTx (s : State) (k : Byte) (r : Result) (d : Nat) (l : List Byte) : (s.reply k r d l).spTx = s.spTx := rfl
@[simp] theorem State.reply_fpTx (s : State) (k : Byte) (r : Result) (d : Nat) (l : List Byte) : (s.reply k r d l).fpTx = s.fpTx := rfl
@[simp] theorem State.reply_spCounters (s : State) (k : Byte) (r : Result) (d : Nat) (l : List Byte) : (s.reply k r d l).spCounters = s.spCounters := rfl
@[simp] theorem State.reply_fpCounters (s : State) (k : Byte) (r : Result) (d : Nat) (l : List Byte) : (s.reply k r d l).fpCounters = s.fpCounters := rfl
@[simp] theorem State.reply_notices (s : State) (k : Byte) (r : Result) (d : Nat) (l : List Byte) : (s.reply k r d l).notices = s.notices := rfl
@[simp] theorem State.reply_overflow (s : State) (k : Byte) (r : Result) (d : Nat) (l : List Byte) : (s.reply k r d l).overflow = s.overflow := rfl
@[simp] theorem State.reply_upQueue (s : State) (k : Byte) (r : Result) (d : Nat) (l : List Byte) : (s.reply k r d l).upQueue = s.upQueue := rfl
@[simp] theorem State.reply_downQueue (s : State) (k : Byte) (r : Result) (d : Nat) (l : List Byte) : (s.reply k r d l).downQueue = s.downQueue := rfl
@[simp] theorem State.reply_haltQueue (s : State) (k : Byte) (r : Result) (d : Nat) (l : List Byte) : (s.reply k r d l).haltQueue = s.haltQueue := rfl
@[simp] theorem State.reply_orderQueue (s : State) (k : Byte) (r : Result) (d : Nat) (l : List Byte) : (s.reply k r d l).orderQueue = s.orderQueue := rfl
@[simp] theorem State.reply_gates (s : State) (k : Byte) (r : Result) (d : Nat) (l : List Byte) : (s.reply k r d l).gates = s.gates := rfl
@[simp] theorem State.reply_curves (s : State) (k : Byte) (r : Result) (d : Nat) (l : List Byte) : (s.reply k r d l).curves = s.curves := rfl
@[simp] theorem State.reply_gauges (s : State) (k : Byte) (r : Result) (d : Nat) (l : List Byte) : (s.reply k r d l).gauges = s.gauges := rfl
@[simp] theorem State.reply_routes (s : State) (k : Byte) (r : Result) (d : Nat) (l : List Byte) : (s.reply k r d l).routes = s.routes := rfl
@[simp] theorem State.reply_settings (s : State) (k : Byte) (r : Result) (d : Nat) (l : List Byte) : (s.reply k r d l).settings = s.settings := rfl
@[simp] theorem State.reply_settingsGen (s : State) (k : Byte) (r : Result) (d : Nat) (l : List Byte) : (s.reply k r d l).settingsGen = s.settingsGen := rfl
@[simp] theorem State.reply_staging (s : State) (k : Byte) (r : Result) (d : Nat) (l : List Byte) : (s.reply k r d l).staging = s.staging := rfl
@[simp] theorem State.reply_capture (s : State) (k : Byte) (r : Result) (d : Nat) (l : List Byte) : (s.reply k r d l).capture = s.capture := rfl
@[simp] theorem State.reply_upstream (s : State) (k : Byte) (r : Result) (d : Nat) (l : List Byte) : (s.reply k r d l).upstream = s.upstream := rfl
@[simp] theorem State.reply_downstream (s : State) (k : Byte) (r : Result) (d : Nat) (l : List Byte) : (s.reply k r d l).downstream = s.downstream := rfl
@[simp] theorem State.reply_head (s : State) (k : Byte) (r : Result) (d : Nat) (l : List Byte) : (s.reply k r d l).head = s.head := rfl
@[simp] theorem State.reply_mode (s : State) (k : Byte) (r : Result) (d : Nat) (l : List Byte) : (s.reply k r d l).mode = s.mode := rfl
@[simp] theorem State.reply_slotsInUse (s : State) (k : Byte) (r : Result) (d : Nat) (l : List Byte) : (s.reply k r d l).slotsInUse = s.slotsInUse := rfl
@[simp] theorem State.reply_grantCounter (s : State) (k : Byte) (r : Result) (d : Nat) (l : List Byte) : (s.reply k r d l).grantCounter = s.grantCounter := rfl
@[simp] theorem State.reply_waiting (s : State) (k : Byte) (r : Result) (d : Nat) (l : List Byte) : (s.reply k r d l).waiting = s.waiting := rfl
@[simp] theorem State.reply_silence (s : State) (k : Byte) (r : Result) (d : Nat) (l : List Byte) : (s.reply k r d l).silence = s.silence := rfl
@[simp] theorem State.reply_gate (s : State) (k : Byte) (r : Result) (d : Nat) (l : List Byte) (h : GateId) : (s.reply k r d l).gate h = s.gate h := rfl
@[simp] theorem State.reply_record (s : State) (k : Byte) (r : Result) (d : Nat) (l : List Byte) (h : GateId) : (s.reply k r d l).record h = s.record h := rfl
@[simp] theorem State.reply_curve (s : State) (k : Byte) (r : Result) (d : Nat) (l : List Byte) (c : Fin 4) : (s.reply k r d l).curve c = s.curve c := rfl
@[simp] theorem State.reply_gauge (s : State) (k : Byte) (r : Result) (d : Nat) (l : List Byte) (gn : GaugeId) : (s.reply k r d l).gauge gn = s.gauge gn := rfl
@[simp] theorem State.reply_route (s : State) (k : Byte) (r : Result) (d : Nat) (l : List Byte) (at_ : LinkAddr) : (s.reply k r d l).route at_ = s.route at_ := rfl

/-! ### `State.post` -/

@[simp] theorem State.post_pending (s : State) (n : Notice) : (s.post n).pending = s.pending := by unfold State.post; split <;> rfl
@[simp] theorem State.post_freeCount (s : State) (n : Notice) : (s.post n).freeCount = s.freeCount := by unfold State.post; split <;> rfl
@[simp] theorem State.post_evalDue (s : State) (n : Notice) : (s.post n).evalDue = s.evalDue := by unfold State.post; split <;> rfl
@[simp] theorem State.post_ownAddress (s : State) (n : Notice) : (s.post n).ownAddress = s.ownAddress := by unfold State.post; split <;> rfl
@[simp] theorem State.post_rate (s : State) (n : Notice) : (s.post n).rate = s.rate := by unfold State.post; split <;> rfl
@[simp] theorem State.post_stopPinLow (s : State) (n : Notice) : (s.post n).stopPinLow = s.stopPinLow := by unfold State.post; split <;> rfl
@[simp] theorem State.post_stopFilter (s : State) (n : Notice) : (s.post n).stopFilter = s.stopFilter := by unfold State.post; split <;> rfl
@[simp] theorem State.post_stopAsserted (s : State) (n : Notice) : (s.post n).stopAsserted = s.stopAsserted := by unfold State.post; split <;> rfl
@[simp] theorem State.post_faultN (s : State) (n : Notice) : (s.post n).faultN = s.faultN := by unfold State.post; split <;> rfl
@[simp] theorem State.post_tideClock (s : State) (n : Notice) : (s.post n).tideClock = s.tideClock := by unfold State.post; split <;> rfl
@[simp] theorem State.post_spReceiver (s : State) (n : Notice) : (s.post n).spReceiver = s.spReceiver := by unfold State.post; split <;> rfl
@[simp] theorem State.post_fpReceiver (s : State) (n : Notice) : (s.post n).fpReceiver = s.fpReceiver := by unfold State.post; split <;> rfl
@[simp] theorem State.post_spRx (s : State) (n : Notice) : (s.post n).spRx = s.spRx := by unfold State.post; split <;> rfl
@[simp] theorem State.post_fpRx (s : State) (n : Notice) : (s.post n).fpRx = s.fpRx := by unfold State.post; split <;> rfl
@[simp] theorem State.post_spTx (s : State) (n : Notice) : (s.post n).spTx = s.spTx := by unfold State.post; split <;> rfl
@[simp] theorem State.post_fpTx (s : State) (n : Notice) : (s.post n).fpTx = s.fpTx := by unfold State.post; split <;> rfl
@[simp] theorem State.post_spCounters (s : State) (n : Notice) : (s.post n).spCounters = s.spCounters := by unfold State.post; split <;> rfl
@[simp] theorem State.post_fpCounters (s : State) (n : Notice) : (s.post n).fpCounters = s.fpCounters := by unfold State.post; split <;> rfl
@[simp] theorem State.post_replies (s : State) (n : Notice) : (s.post n).replies = s.replies := by unfold State.post; split <;> rfl
@[simp] theorem State.post_upQueue (s : State) (n : Notice) : (s.post n).upQueue = s.upQueue := by unfold State.post; split <;> rfl
@[simp] theorem State.post_downQueue (s : State) (n : Notice) : (s.post n).downQueue = s.downQueue := by unfold State.post; split <;> rfl
@[simp] theorem State.post_haltQueue (s : State) (n : Notice) : (s.post n).haltQueue = s.haltQueue := by unfold State.post; split <;> rfl
@[simp] theorem State.post_orderQueue (s : State) (n : Notice) : (s.post n).orderQueue = s.orderQueue := by unfold State.post; split <;> rfl
@[simp] theorem State.post_gates (s : State) (n : Notice) : (s.post n).gates = s.gates := by unfold State.post; split <;> rfl
@[simp] theorem State.post_curves (s : State) (n : Notice) : (s.post n).curves = s.curves := by unfold State.post; split <;> rfl
@[simp] theorem State.post_gauges (s : State) (n : Notice) : (s.post n).gauges = s.gauges := by unfold State.post; split <;> rfl
@[simp] theorem State.post_routes (s : State) (n : Notice) : (s.post n).routes = s.routes := by unfold State.post; split <;> rfl
@[simp] theorem State.post_settings (s : State) (n : Notice) : (s.post n).settings = s.settings := by unfold State.post; split <;> rfl
@[simp] theorem State.post_settingsGen (s : State) (n : Notice) : (s.post n).settingsGen = s.settingsGen := by unfold State.post; split <;> rfl
@[simp] theorem State.post_staging (s : State) (n : Notice) : (s.post n).staging = s.staging := by unfold State.post; split <;> rfl
@[simp] theorem State.post_capture (s : State) (n : Notice) : (s.post n).capture = s.capture := by unfold State.post; split <;> rfl
@[simp] theorem State.post_upstream (s : State) (n : Notice) : (s.post n).upstream = s.upstream := by unfold State.post; split <;> rfl
@[simp] theorem State.post_downstream (s : State) (n : Notice) : (s.post n).downstream = s.downstream := by unfold State.post; split <;> rfl
@[simp] theorem State.post_head (s : State) (n : Notice) : (s.post n).head = s.head := by unfold State.post; split <;> rfl
@[simp] theorem State.post_mode (s : State) (n : Notice) : (s.post n).mode = s.mode := by unfold State.post; split <;> rfl
@[simp] theorem State.post_slotsInUse (s : State) (n : Notice) : (s.post n).slotsInUse = s.slotsInUse := by unfold State.post; split <;> rfl
@[simp] theorem State.post_grantCounter (s : State) (n : Notice) : (s.post n).grantCounter = s.grantCounter := by unfold State.post; split <;> rfl
@[simp] theorem State.post_waiting (s : State) (n : Notice) : (s.post n).waiting = s.waiting := by unfold State.post; split <;> rfl
@[simp] theorem State.post_silence (s : State) (n : Notice) : (s.post n).silence = s.silence := by unfold State.post; split <;> rfl
@[simp] theorem State.post_gate (s : State) (n : Notice) (h : GateId) : (s.post n).gate h = s.gate h := by unfold State.post; split <;> rfl
@[simp] theorem State.post_record (s : State) (n : Notice) (h : GateId) : (s.post n).record h = s.record h := by unfold State.post; split <;> rfl
@[simp] theorem State.post_curve (s : State) (n : Notice) (c : Fin 4) : (s.post n).curve c = s.curve c := by unfold State.post; split <;> rfl
@[simp] theorem State.post_gauge (s : State) (n : Notice) (gn : GaugeId) : (s.post n).gauge gn = s.gauge gn := by unfold State.post; split <;> rfl
@[simp] theorem State.post_route (s : State) (n : Notice) (at_ : LinkAddr) : (s.post n).route at_ = s.route at_ := by unfold State.post; split <;> rfl

/-! ### `State.pushHalt` -/

@[simp] theorem State.pushHalt_pending (s : State) (a : LinkAddr) : (s.pushHalt a).pending = s.pending := rfl
@[simp] theorem State.pushHalt_freeCount (s : State) (a : LinkAddr) : (s.pushHalt a).freeCount = s.freeCount := rfl
@[simp] theorem State.pushHalt_evalDue (s : State) (a : LinkAddr) : (s.pushHalt a).evalDue = s.evalDue := rfl
@[simp] theorem State.pushHalt_ownAddress (s : State) (a : LinkAddr) : (s.pushHalt a).ownAddress = s.ownAddress := rfl
@[simp] theorem State.pushHalt_rate (s : State) (a : LinkAddr) : (s.pushHalt a).rate = s.rate := rfl
@[simp] theorem State.pushHalt_stopPinLow (s : State) (a : LinkAddr) : (s.pushHalt a).stopPinLow = s.stopPinLow := rfl
@[simp] theorem State.pushHalt_stopFilter (s : State) (a : LinkAddr) : (s.pushHalt a).stopFilter = s.stopFilter := rfl
@[simp] theorem State.pushHalt_stopAsserted (s : State) (a : LinkAddr) : (s.pushHalt a).stopAsserted = s.stopAsserted := rfl
@[simp] theorem State.pushHalt_faultN (s : State) (a : LinkAddr) : (s.pushHalt a).faultN = s.faultN := rfl
@[simp] theorem State.pushHalt_tideClock (s : State) (a : LinkAddr) : (s.pushHalt a).tideClock = s.tideClock := rfl
@[simp] theorem State.pushHalt_spReceiver (s : State) (a : LinkAddr) : (s.pushHalt a).spReceiver = s.spReceiver := rfl
@[simp] theorem State.pushHalt_fpReceiver (s : State) (a : LinkAddr) : (s.pushHalt a).fpReceiver = s.fpReceiver := rfl
@[simp] theorem State.pushHalt_spRx (s : State) (a : LinkAddr) : (s.pushHalt a).spRx = s.spRx := rfl
@[simp] theorem State.pushHalt_fpRx (s : State) (a : LinkAddr) : (s.pushHalt a).fpRx = s.fpRx := rfl
@[simp] theorem State.pushHalt_spTx (s : State) (a : LinkAddr) : (s.pushHalt a).spTx = s.spTx := rfl
@[simp] theorem State.pushHalt_fpTx (s : State) (a : LinkAddr) : (s.pushHalt a).fpTx = s.fpTx := rfl
@[simp] theorem State.pushHalt_spCounters (s : State) (a : LinkAddr) : (s.pushHalt a).spCounters = s.spCounters := rfl
@[simp] theorem State.pushHalt_fpCounters (s : State) (a : LinkAddr) : (s.pushHalt a).fpCounters = s.fpCounters := rfl
@[simp] theorem State.pushHalt_replies (s : State) (a : LinkAddr) : (s.pushHalt a).replies = s.replies := rfl
@[simp] theorem State.pushHalt_notices (s : State) (a : LinkAddr) : (s.pushHalt a).notices = s.notices := rfl
@[simp] theorem State.pushHalt_overflow (s : State) (a : LinkAddr) : (s.pushHalt a).overflow = s.overflow := rfl
@[simp] theorem State.pushHalt_upQueue (s : State) (a : LinkAddr) : (s.pushHalt a).upQueue = s.upQueue := rfl
@[simp] theorem State.pushHalt_downQueue (s : State) (a : LinkAddr) : (s.pushHalt a).downQueue = s.downQueue := rfl
@[simp] theorem State.pushHalt_gates (s : State) (a : LinkAddr) : (s.pushHalt a).gates = s.gates := rfl
@[simp] theorem State.pushHalt_curves (s : State) (a : LinkAddr) : (s.pushHalt a).curves = s.curves := rfl
@[simp] theorem State.pushHalt_gauges (s : State) (a : LinkAddr) : (s.pushHalt a).gauges = s.gauges := rfl
@[simp] theorem State.pushHalt_routes (s : State) (a : LinkAddr) : (s.pushHalt a).routes = s.routes := rfl
@[simp] theorem State.pushHalt_settings (s : State) (a : LinkAddr) : (s.pushHalt a).settings = s.settings := rfl
@[simp] theorem State.pushHalt_settingsGen (s : State) (a : LinkAddr) : (s.pushHalt a).settingsGen = s.settingsGen := rfl
@[simp] theorem State.pushHalt_staging (s : State) (a : LinkAddr) : (s.pushHalt a).staging = s.staging := rfl
@[simp] theorem State.pushHalt_capture (s : State) (a : LinkAddr) : (s.pushHalt a).capture = s.capture := rfl
@[simp] theorem State.pushHalt_upstream (s : State) (a : LinkAddr) : (s.pushHalt a).upstream = s.upstream := rfl
@[simp] theorem State.pushHalt_downstream (s : State) (a : LinkAddr) : (s.pushHalt a).downstream = s.downstream := rfl
@[simp] theorem State.pushHalt_head (s : State) (a : LinkAddr) : (s.pushHalt a).head = s.head := rfl
@[simp] theorem State.pushHalt_mode (s : State) (a : LinkAddr) : (s.pushHalt a).mode = s.mode := rfl
@[simp] theorem State.pushHalt_slotsInUse (s : State) (a : LinkAddr) : (s.pushHalt a).slotsInUse = s.slotsInUse := rfl
@[simp] theorem State.pushHalt_grantCounter (s : State) (a : LinkAddr) : (s.pushHalt a).grantCounter = s.grantCounter := rfl
@[simp] theorem State.pushHalt_waiting (s : State) (a : LinkAddr) : (s.pushHalt a).waiting = s.waiting := rfl
@[simp] theorem State.pushHalt_silence (s : State) (a : LinkAddr) : (s.pushHalt a).silence = s.silence := rfl
@[simp] theorem State.pushHalt_gate (s : State) (a : LinkAddr) (h : GateId) : (s.pushHalt a).gate h = s.gate h := rfl
@[simp] theorem State.pushHalt_record (s : State) (a : LinkAddr) (h : GateId) : (s.pushHalt a).record h = s.record h := rfl
@[simp] theorem State.pushHalt_curve (s : State) (a : LinkAddr) (c : Fin 4) : (s.pushHalt a).curve c = s.curve c := rfl
@[simp] theorem State.pushHalt_gauge (s : State) (a : LinkAddr) (gn : GaugeId) : (s.pushHalt a).gauge gn = s.gauge gn := rfl
@[simp] theorem State.pushHalt_route (s : State) (a : LinkAddr) (at_ : LinkAddr) : (s.pushHalt a).route at_ = s.route at_ := rfl

/-! ### `State.pushRun` -/

@[simp] theorem State.pushRun_pending (s : State) (a : LinkAddr) (x v : Nat) : (s.pushRun a x v).pending = s.pending := rfl
@[simp] theorem State.pushRun_freeCount (s : State) (a : LinkAddr) (x v : Nat) : (s.pushRun a x v).freeCount = s.freeCount := rfl
@[simp] theorem State.pushRun_evalDue (s : State) (a : LinkAddr) (x v : Nat) : (s.pushRun a x v).evalDue = s.evalDue := rfl
@[simp] theorem State.pushRun_ownAddress (s : State) (a : LinkAddr) (x v : Nat) : (s.pushRun a x v).ownAddress = s.ownAddress := rfl
@[simp] theorem State.pushRun_rate (s : State) (a : LinkAddr) (x v : Nat) : (s.pushRun a x v).rate = s.rate := rfl
@[simp] theorem State.pushRun_stopPinLow (s : State) (a : LinkAddr) (x v : Nat) : (s.pushRun a x v).stopPinLow = s.stopPinLow := rfl
@[simp] theorem State.pushRun_stopFilter (s : State) (a : LinkAddr) (x v : Nat) : (s.pushRun a x v).stopFilter = s.stopFilter := rfl
@[simp] theorem State.pushRun_stopAsserted (s : State) (a : LinkAddr) (x v : Nat) : (s.pushRun a x v).stopAsserted = s.stopAsserted := rfl
@[simp] theorem State.pushRun_faultN (s : State) (a : LinkAddr) (x v : Nat) : (s.pushRun a x v).faultN = s.faultN := rfl
@[simp] theorem State.pushRun_tideClock (s : State) (a : LinkAddr) (x v : Nat) : (s.pushRun a x v).tideClock = s.tideClock := rfl
@[simp] theorem State.pushRun_spReceiver (s : State) (a : LinkAddr) (x v : Nat) : (s.pushRun a x v).spReceiver = s.spReceiver := rfl
@[simp] theorem State.pushRun_fpReceiver (s : State) (a : LinkAddr) (x v : Nat) : (s.pushRun a x v).fpReceiver = s.fpReceiver := rfl
@[simp] theorem State.pushRun_spRx (s : State) (a : LinkAddr) (x v : Nat) : (s.pushRun a x v).spRx = s.spRx := rfl
@[simp] theorem State.pushRun_fpRx (s : State) (a : LinkAddr) (x v : Nat) : (s.pushRun a x v).fpRx = s.fpRx := rfl
@[simp] theorem State.pushRun_spTx (s : State) (a : LinkAddr) (x v : Nat) : (s.pushRun a x v).spTx = s.spTx := rfl
@[simp] theorem State.pushRun_fpTx (s : State) (a : LinkAddr) (x v : Nat) : (s.pushRun a x v).fpTx = s.fpTx := rfl
@[simp] theorem State.pushRun_spCounters (s : State) (a : LinkAddr) (x v : Nat) : (s.pushRun a x v).spCounters = s.spCounters := rfl
@[simp] theorem State.pushRun_fpCounters (s : State) (a : LinkAddr) (x v : Nat) : (s.pushRun a x v).fpCounters = s.fpCounters := rfl
@[simp] theorem State.pushRun_replies (s : State) (a : LinkAddr) (x v : Nat) : (s.pushRun a x v).replies = s.replies := rfl
@[simp] theorem State.pushRun_notices (s : State) (a : LinkAddr) (x v : Nat) : (s.pushRun a x v).notices = s.notices := rfl
@[simp] theorem State.pushRun_overflow (s : State) (a : LinkAddr) (x v : Nat) : (s.pushRun a x v).overflow = s.overflow := rfl
@[simp] theorem State.pushRun_upQueue (s : State) (a : LinkAddr) (x v : Nat) : (s.pushRun a x v).upQueue = s.upQueue := rfl
@[simp] theorem State.pushRun_downQueue (s : State) (a : LinkAddr) (x v : Nat) : (s.pushRun a x v).downQueue = s.downQueue := rfl
@[simp] theorem State.pushRun_haltQueue (s : State) (a : LinkAddr) (x v : Nat) : (s.pushRun a x v).haltQueue = s.haltQueue := rfl
@[simp] theorem State.pushRun_gates (s : State) (a : LinkAddr) (x v : Nat) : (s.pushRun a x v).gates = s.gates := rfl
@[simp] theorem State.pushRun_curves (s : State) (a : LinkAddr) (x v : Nat) : (s.pushRun a x v).curves = s.curves := rfl
@[simp] theorem State.pushRun_gauges (s : State) (a : LinkAddr) (x v : Nat) : (s.pushRun a x v).gauges = s.gauges := rfl
@[simp] theorem State.pushRun_routes (s : State) (a : LinkAddr) (x v : Nat) : (s.pushRun a x v).routes = s.routes := rfl
@[simp] theorem State.pushRun_settings (s : State) (a : LinkAddr) (x v : Nat) : (s.pushRun a x v).settings = s.settings := rfl
@[simp] theorem State.pushRun_settingsGen (s : State) (a : LinkAddr) (x v : Nat) : (s.pushRun a x v).settingsGen = s.settingsGen := rfl
@[simp] theorem State.pushRun_staging (s : State) (a : LinkAddr) (x v : Nat) : (s.pushRun a x v).staging = s.staging := rfl
@[simp] theorem State.pushRun_capture (s : State) (a : LinkAddr) (x v : Nat) : (s.pushRun a x v).capture = s.capture := rfl
@[simp] theorem State.pushRun_upstream (s : State) (a : LinkAddr) (x v : Nat) : (s.pushRun a x v).upstream = s.upstream := rfl
@[simp] theorem State.pushRun_downstream (s : State) (a : LinkAddr) (x v : Nat) : (s.pushRun a x v).downstream = s.downstream := rfl
@[simp] theorem State.pushRun_head (s : State) (a : LinkAddr) (x v : Nat) : (s.pushRun a x v).head = s.head := rfl
@[simp] theorem State.pushRun_mode (s : State) (a : LinkAddr) (x v : Nat) : (s.pushRun a x v).mode = s.mode := rfl
@[simp] theorem State.pushRun_slotsInUse (s : State) (a : LinkAddr) (x v : Nat) : (s.pushRun a x v).slotsInUse = s.slotsInUse := rfl
@[simp] theorem State.pushRun_grantCounter (s : State) (a : LinkAddr) (x v : Nat) : (s.pushRun a x v).grantCounter = s.grantCounter := rfl
@[simp] theorem State.pushRun_waiting (s : State) (a : LinkAddr) (x v : Nat) : (s.pushRun a x v).waiting = s.waiting := rfl
@[simp] theorem State.pushRun_silence (s : State) (a : LinkAddr) (x v : Nat) : (s.pushRun a x v).silence = s.silence := rfl
@[simp] theorem State.pushRun_gate (s : State) (a : LinkAddr) (x v : Nat) (h : GateId) : (s.pushRun a x v).gate h = s.gate h := rfl
@[simp] theorem State.pushRun_record (s : State) (a : LinkAddr) (x v : Nat) (h : GateId) : (s.pushRun a x v).record h = s.record h := rfl
@[simp] theorem State.pushRun_curve (s : State) (a : LinkAddr) (x v : Nat) (c : Fin 4) : (s.pushRun a x v).curve c = s.curve c := rfl
@[simp] theorem State.pushRun_gauge (s : State) (a : LinkAddr) (x v : Nat) (gn : GaugeId) : (s.pushRun a x v).gauge gn = s.gauge gn := rfl
@[simp] theorem State.pushRun_route (s : State) (a : LinkAddr) (x v : Nat) (at_ : LinkAddr) : (s.pushRun a x v).route at_ = s.route at_ := rfl

/-! ### `State.pushOnce` -/

@[simp] theorem State.pushOnce_pending (s : State) (o : Order) : (s.pushOnce o).pending = s.pending := rfl
@[simp] theorem State.pushOnce_freeCount (s : State) (o : Order) : (s.pushOnce o).freeCount = s.freeCount := rfl
@[simp] theorem State.pushOnce_evalDue (s : State) (o : Order) : (s.pushOnce o).evalDue = s.evalDue := rfl
@[simp] theorem State.pushOnce_ownAddress (s : State) (o : Order) : (s.pushOnce o).ownAddress = s.ownAddress := rfl
@[simp] theorem State.pushOnce_rate (s : State) (o : Order) : (s.pushOnce o).rate = s.rate := rfl
@[simp] theorem State.pushOnce_stopPinLow (s : State) (o : Order) : (s.pushOnce o).stopPinLow = s.stopPinLow := rfl
@[simp] theorem State.pushOnce_stopFilter (s : State) (o : Order) : (s.pushOnce o).stopFilter = s.stopFilter := rfl
@[simp] theorem State.pushOnce_stopAsserted (s : State) (o : Order) : (s.pushOnce o).stopAsserted = s.stopAsserted := rfl
@[simp] theorem State.pushOnce_faultN (s : State) (o : Order) : (s.pushOnce o).faultN = s.faultN := rfl
@[simp] theorem State.pushOnce_tideClock (s : State) (o : Order) : (s.pushOnce o).tideClock = s.tideClock := rfl
@[simp] theorem State.pushOnce_spReceiver (s : State) (o : Order) : (s.pushOnce o).spReceiver = s.spReceiver := rfl
@[simp] theorem State.pushOnce_fpReceiver (s : State) (o : Order) : (s.pushOnce o).fpReceiver = s.fpReceiver := rfl
@[simp] theorem State.pushOnce_spRx (s : State) (o : Order) : (s.pushOnce o).spRx = s.spRx := rfl
@[simp] theorem State.pushOnce_fpRx (s : State) (o : Order) : (s.pushOnce o).fpRx = s.fpRx := rfl
@[simp] theorem State.pushOnce_spTx (s : State) (o : Order) : (s.pushOnce o).spTx = s.spTx := rfl
@[simp] theorem State.pushOnce_fpTx (s : State) (o : Order) : (s.pushOnce o).fpTx = s.fpTx := rfl
@[simp] theorem State.pushOnce_spCounters (s : State) (o : Order) : (s.pushOnce o).spCounters = s.spCounters := rfl
@[simp] theorem State.pushOnce_fpCounters (s : State) (o : Order) : (s.pushOnce o).fpCounters = s.fpCounters := rfl
@[simp] theorem State.pushOnce_replies (s : State) (o : Order) : (s.pushOnce o).replies = s.replies := rfl
@[simp] theorem State.pushOnce_notices (s : State) (o : Order) : (s.pushOnce o).notices = s.notices := rfl
@[simp] theorem State.pushOnce_overflow (s : State) (o : Order) : (s.pushOnce o).overflow = s.overflow := rfl
@[simp] theorem State.pushOnce_upQueue (s : State) (o : Order) : (s.pushOnce o).upQueue = s.upQueue := rfl
@[simp] theorem State.pushOnce_downQueue (s : State) (o : Order) : (s.pushOnce o).downQueue = s.downQueue := rfl
@[simp] theorem State.pushOnce_haltQueue (s : State) (o : Order) : (s.pushOnce o).haltQueue = s.haltQueue := rfl
@[simp] theorem State.pushOnce_gates (s : State) (o : Order) : (s.pushOnce o).gates = s.gates := rfl
@[simp] theorem State.pushOnce_curves (s : State) (o : Order) : (s.pushOnce o).curves = s.curves := rfl
@[simp] theorem State.pushOnce_gauges (s : State) (o : Order) : (s.pushOnce o).gauges = s.gauges := rfl
@[simp] theorem State.pushOnce_routes (s : State) (o : Order) : (s.pushOnce o).routes = s.routes := rfl
@[simp] theorem State.pushOnce_settings (s : State) (o : Order) : (s.pushOnce o).settings = s.settings := rfl
@[simp] theorem State.pushOnce_settingsGen (s : State) (o : Order) : (s.pushOnce o).settingsGen = s.settingsGen := rfl
@[simp] theorem State.pushOnce_staging (s : State) (o : Order) : (s.pushOnce o).staging = s.staging := rfl
@[simp] theorem State.pushOnce_capture (s : State) (o : Order) : (s.pushOnce o).capture = s.capture := rfl
@[simp] theorem State.pushOnce_upstream (s : State) (o : Order) : (s.pushOnce o).upstream = s.upstream := rfl
@[simp] theorem State.pushOnce_downstream (s : State) (o : Order) : (s.pushOnce o).downstream = s.downstream := rfl
@[simp] theorem State.pushOnce_head (s : State) (o : Order) : (s.pushOnce o).head = s.head := rfl
@[simp] theorem State.pushOnce_mode (s : State) (o : Order) : (s.pushOnce o).mode = s.mode := rfl
@[simp] theorem State.pushOnce_slotsInUse (s : State) (o : Order) : (s.pushOnce o).slotsInUse = s.slotsInUse := rfl
@[simp] theorem State.pushOnce_grantCounter (s : State) (o : Order) : (s.pushOnce o).grantCounter = s.grantCounter := rfl
@[simp] theorem State.pushOnce_waiting (s : State) (o : Order) : (s.pushOnce o).waiting = s.waiting := rfl
@[simp] theorem State.pushOnce_silence (s : State) (o : Order) : (s.pushOnce o).silence = s.silence := rfl
@[simp] theorem State.pushOnce_gate (s : State) (o : Order) (h : GateId) : (s.pushOnce o).gate h = s.gate h := rfl
@[simp] theorem State.pushOnce_record (s : State) (o : Order) (h : GateId) : (s.pushOnce o).record h = s.record h := rfl
@[simp] theorem State.pushOnce_curve (s : State) (o : Order) (c : Fin 4) : (s.pushOnce o).curve c = s.curve c := rfl
@[simp] theorem State.pushOnce_gauge (s : State) (o : Order) (gn : GaugeId) : (s.pushOnce o).gauge gn = s.gauge gn := rfl
@[simp] theorem State.pushOnce_route (s : State) (o : Order) (at_ : LinkAddr) : (s.pushOnce o).route at_ = s.route at_ := rfl

/-! ### `State.pushPause` -/

@[simp] theorem State.pushPause_pending (s : State) (a : LinkAddr) : (s.pushPause a).pending = s.pending := by unfold State.pushPause; split <;> rfl
@[simp] theorem State.pushPause_freeCount (s : State) (a : LinkAddr) : (s.pushPause a).freeCount = s.freeCount := by unfold State.pushPause; split <;> rfl
@[simp] theorem State.pushPause_evalDue (s : State) (a : LinkAddr) : (s.pushPause a).evalDue = s.evalDue := by unfold State.pushPause; split <;> rfl
@[simp] theorem State.pushPause_ownAddress (s : State) (a : LinkAddr) : (s.pushPause a).ownAddress = s.ownAddress := by unfold State.pushPause; split <;> rfl
@[simp] theorem State.pushPause_rate (s : State) (a : LinkAddr) : (s.pushPause a).rate = s.rate := by unfold State.pushPause; split <;> rfl
@[simp] theorem State.pushPause_stopPinLow (s : State) (a : LinkAddr) : (s.pushPause a).stopPinLow = s.stopPinLow := by unfold State.pushPause; split <;> rfl
@[simp] theorem State.pushPause_stopFilter (s : State) (a : LinkAddr) : (s.pushPause a).stopFilter = s.stopFilter := by unfold State.pushPause; split <;> rfl
@[simp] theorem State.pushPause_stopAsserted (s : State) (a : LinkAddr) : (s.pushPause a).stopAsserted = s.stopAsserted := by unfold State.pushPause; split <;> rfl
@[simp] theorem State.pushPause_faultN (s : State) (a : LinkAddr) : (s.pushPause a).faultN = s.faultN := by unfold State.pushPause; split <;> rfl
@[simp] theorem State.pushPause_tideClock (s : State) (a : LinkAddr) : (s.pushPause a).tideClock = s.tideClock := by unfold State.pushPause; split <;> rfl
@[simp] theorem State.pushPause_spReceiver (s : State) (a : LinkAddr) : (s.pushPause a).spReceiver = s.spReceiver := by unfold State.pushPause; split <;> rfl
@[simp] theorem State.pushPause_fpReceiver (s : State) (a : LinkAddr) : (s.pushPause a).fpReceiver = s.fpReceiver := by unfold State.pushPause; split <;> rfl
@[simp] theorem State.pushPause_spRx (s : State) (a : LinkAddr) : (s.pushPause a).spRx = s.spRx := by unfold State.pushPause; split <;> rfl
@[simp] theorem State.pushPause_fpRx (s : State) (a : LinkAddr) : (s.pushPause a).fpRx = s.fpRx := by unfold State.pushPause; split <;> rfl
@[simp] theorem State.pushPause_spTx (s : State) (a : LinkAddr) : (s.pushPause a).spTx = s.spTx := by unfold State.pushPause; split <;> rfl
@[simp] theorem State.pushPause_fpTx (s : State) (a : LinkAddr) : (s.pushPause a).fpTx = s.fpTx := by unfold State.pushPause; split <;> rfl
@[simp] theorem State.pushPause_spCounters (s : State) (a : LinkAddr) : (s.pushPause a).spCounters = s.spCounters := by unfold State.pushPause; split <;> rfl
@[simp] theorem State.pushPause_fpCounters (s : State) (a : LinkAddr) : (s.pushPause a).fpCounters = s.fpCounters := by unfold State.pushPause; split <;> rfl
@[simp] theorem State.pushPause_replies (s : State) (a : LinkAddr) : (s.pushPause a).replies = s.replies := by unfold State.pushPause; split <;> rfl
@[simp] theorem State.pushPause_notices (s : State) (a : LinkAddr) : (s.pushPause a).notices = s.notices := by unfold State.pushPause; split <;> rfl
@[simp] theorem State.pushPause_overflow (s : State) (a : LinkAddr) : (s.pushPause a).overflow = s.overflow := by unfold State.pushPause; split <;> rfl
@[simp] theorem State.pushPause_upQueue (s : State) (a : LinkAddr) : (s.pushPause a).upQueue = s.upQueue := by unfold State.pushPause; split <;> rfl
@[simp] theorem State.pushPause_downQueue (s : State) (a : LinkAddr) : (s.pushPause a).downQueue = s.downQueue := by unfold State.pushPause; split <;> rfl
@[simp] theorem State.pushPause_haltQueue (s : State) (a : LinkAddr) : (s.pushPause a).haltQueue = s.haltQueue := by unfold State.pushPause; split <;> rfl
@[simp] theorem State.pushPause_gates (s : State) (a : LinkAddr) : (s.pushPause a).gates = s.gates := by unfold State.pushPause; split <;> rfl
@[simp] theorem State.pushPause_curves (s : State) (a : LinkAddr) : (s.pushPause a).curves = s.curves := by unfold State.pushPause; split <;> rfl
@[simp] theorem State.pushPause_gauges (s : State) (a : LinkAddr) : (s.pushPause a).gauges = s.gauges := by unfold State.pushPause; split <;> rfl
@[simp] theorem State.pushPause_routes (s : State) (a : LinkAddr) : (s.pushPause a).routes = s.routes := by unfold State.pushPause; split <;> rfl
@[simp] theorem State.pushPause_settings (s : State) (a : LinkAddr) : (s.pushPause a).settings = s.settings := by unfold State.pushPause; split <;> rfl
@[simp] theorem State.pushPause_settingsGen (s : State) (a : LinkAddr) : (s.pushPause a).settingsGen = s.settingsGen := by unfold State.pushPause; split <;> rfl
@[simp] theorem State.pushPause_staging (s : State) (a : LinkAddr) : (s.pushPause a).staging = s.staging := by unfold State.pushPause; split <;> rfl
@[simp] theorem State.pushPause_capture (s : State) (a : LinkAddr) : (s.pushPause a).capture = s.capture := by unfold State.pushPause; split <;> rfl
@[simp] theorem State.pushPause_upstream (s : State) (a : LinkAddr) : (s.pushPause a).upstream = s.upstream := by unfold State.pushPause; split <;> rfl
@[simp] theorem State.pushPause_downstream (s : State) (a : LinkAddr) : (s.pushPause a).downstream = s.downstream := by unfold State.pushPause; split <;> rfl
@[simp] theorem State.pushPause_head (s : State) (a : LinkAddr) : (s.pushPause a).head = s.head := by unfold State.pushPause; split <;> rfl
@[simp] theorem State.pushPause_mode (s : State) (a : LinkAddr) : (s.pushPause a).mode = s.mode := by unfold State.pushPause; split <;> rfl
@[simp] theorem State.pushPause_slotsInUse (s : State) (a : LinkAddr) : (s.pushPause a).slotsInUse = s.slotsInUse := by unfold State.pushPause; split <;> rfl
@[simp] theorem State.pushPause_grantCounter (s : State) (a : LinkAddr) : (s.pushPause a).grantCounter = s.grantCounter := by unfold State.pushPause; split <;> rfl
@[simp] theorem State.pushPause_waiting (s : State) (a : LinkAddr) : (s.pushPause a).waiting = s.waiting := by unfold State.pushPause; split <;> rfl
@[simp] theorem State.pushPause_silence (s : State) (a : LinkAddr) : (s.pushPause a).silence = s.silence := by unfold State.pushPause; split <;> rfl
@[simp] theorem State.pushPause_gate (s : State) (a : LinkAddr) (h : GateId) : (s.pushPause a).gate h = s.gate h := by unfold State.pushPause; split <;> rfl
@[simp] theorem State.pushPause_record (s : State) (a : LinkAddr) (h : GateId) : (s.pushPause a).record h = s.record h := by unfold State.pushPause; split <;> rfl
@[simp] theorem State.pushPause_curve (s : State) (a : LinkAddr) (c : Fin 4) : (s.pushPause a).curve c = s.curve c := by unfold State.pushPause; split <;> rfl
@[simp] theorem State.pushPause_gauge (s : State) (a : LinkAddr) (gn : GaugeId) : (s.pushPause a).gauge gn = s.gauge gn := by unfold State.pushPause; split <;> rfl
@[simp] theorem State.pushPause_route (s : State) (a : LinkAddr) (at_ : LinkAddr) : (s.pushPause a).route at_ = s.route at_ := by unfold State.pushPause; split <;> rfl

/-! ### `State.pushResume` -/

@[simp] theorem State.pushResume_pending (s : State) (a : LinkAddr) : (s.pushResume a).pending = s.pending := by unfold State.pushResume; split <;> rfl
@[simp] theorem State.pushResume_freeCount (s : State) (a : LinkAddr) : (s.pushResume a).freeCount = s.freeCount := by unfold State.pushResume; split <;> rfl
@[simp] theorem State.pushResume_evalDue (s : State) (a : LinkAddr) : (s.pushResume a).evalDue = s.evalDue := by unfold State.pushResume; split <;> rfl
@[simp] theorem State.pushResume_ownAddress (s : State) (a : LinkAddr) : (s.pushResume a).ownAddress = s.ownAddress := by unfold State.pushResume; split <;> rfl
@[simp] theorem State.pushResume_rate (s : State) (a : LinkAddr) : (s.pushResume a).rate = s.rate := by unfold State.pushResume; split <;> rfl
@[simp] theorem State.pushResume_stopPinLow (s : State) (a : LinkAddr) : (s.pushResume a).stopPinLow = s.stopPinLow := by unfold State.pushResume; split <;> rfl
@[simp] theorem State.pushResume_stopFilter (s : State) (a : LinkAddr) : (s.pushResume a).stopFilter = s.stopFilter := by unfold State.pushResume; split <;> rfl
@[simp] theorem State.pushResume_stopAsserted (s : State) (a : LinkAddr) : (s.pushResume a).stopAsserted = s.stopAsserted := by unfold State.pushResume; split <;> rfl
@[simp] theorem State.pushResume_faultN (s : State) (a : LinkAddr) : (s.pushResume a).faultN = s.faultN := by unfold State.pushResume; split <;> rfl
@[simp] theorem State.pushResume_tideClock (s : State) (a : LinkAddr) : (s.pushResume a).tideClock = s.tideClock := by unfold State.pushResume; split <;> rfl
@[simp] theorem State.pushResume_spReceiver (s : State) (a : LinkAddr) : (s.pushResume a).spReceiver = s.spReceiver := by unfold State.pushResume; split <;> rfl
@[simp] theorem State.pushResume_fpReceiver (s : State) (a : LinkAddr) : (s.pushResume a).fpReceiver = s.fpReceiver := by unfold State.pushResume; split <;> rfl
@[simp] theorem State.pushResume_spRx (s : State) (a : LinkAddr) : (s.pushResume a).spRx = s.spRx := by unfold State.pushResume; split <;> rfl
@[simp] theorem State.pushResume_fpRx (s : State) (a : LinkAddr) : (s.pushResume a).fpRx = s.fpRx := by unfold State.pushResume; split <;> rfl
@[simp] theorem State.pushResume_spTx (s : State) (a : LinkAddr) : (s.pushResume a).spTx = s.spTx := by unfold State.pushResume; split <;> rfl
@[simp] theorem State.pushResume_fpTx (s : State) (a : LinkAddr) : (s.pushResume a).fpTx = s.fpTx := by unfold State.pushResume; split <;> rfl
@[simp] theorem State.pushResume_spCounters (s : State) (a : LinkAddr) : (s.pushResume a).spCounters = s.spCounters := by unfold State.pushResume; split <;> rfl
@[simp] theorem State.pushResume_fpCounters (s : State) (a : LinkAddr) : (s.pushResume a).fpCounters = s.fpCounters := by unfold State.pushResume; split <;> rfl
@[simp] theorem State.pushResume_replies (s : State) (a : LinkAddr) : (s.pushResume a).replies = s.replies := by unfold State.pushResume; split <;> rfl
@[simp] theorem State.pushResume_notices (s : State) (a : LinkAddr) : (s.pushResume a).notices = s.notices := by unfold State.pushResume; split <;> rfl
@[simp] theorem State.pushResume_overflow (s : State) (a : LinkAddr) : (s.pushResume a).overflow = s.overflow := by unfold State.pushResume; split <;> rfl
@[simp] theorem State.pushResume_upQueue (s : State) (a : LinkAddr) : (s.pushResume a).upQueue = s.upQueue := by unfold State.pushResume; split <;> rfl
@[simp] theorem State.pushResume_downQueue (s : State) (a : LinkAddr) : (s.pushResume a).downQueue = s.downQueue := by unfold State.pushResume; split <;> rfl
@[simp] theorem State.pushResume_haltQueue (s : State) (a : LinkAddr) : (s.pushResume a).haltQueue = s.haltQueue := by unfold State.pushResume; split <;> rfl
@[simp] theorem State.pushResume_gates (s : State) (a : LinkAddr) : (s.pushResume a).gates = s.gates := by unfold State.pushResume; split <;> rfl
@[simp] theorem State.pushResume_curves (s : State) (a : LinkAddr) : (s.pushResume a).curves = s.curves := by unfold State.pushResume; split <;> rfl
@[simp] theorem State.pushResume_gauges (s : State) (a : LinkAddr) : (s.pushResume a).gauges = s.gauges := by unfold State.pushResume; split <;> rfl
@[simp] theorem State.pushResume_routes (s : State) (a : LinkAddr) : (s.pushResume a).routes = s.routes := by unfold State.pushResume; split <;> rfl
@[simp] theorem State.pushResume_settings (s : State) (a : LinkAddr) : (s.pushResume a).settings = s.settings := by unfold State.pushResume; split <;> rfl
@[simp] theorem State.pushResume_settingsGen (s : State) (a : LinkAddr) : (s.pushResume a).settingsGen = s.settingsGen := by unfold State.pushResume; split <;> rfl
@[simp] theorem State.pushResume_staging (s : State) (a : LinkAddr) : (s.pushResume a).staging = s.staging := by unfold State.pushResume; split <;> rfl
@[simp] theorem State.pushResume_capture (s : State) (a : LinkAddr) : (s.pushResume a).capture = s.capture := by unfold State.pushResume; split <;> rfl
@[simp] theorem State.pushResume_upstream (s : State) (a : LinkAddr) : (s.pushResume a).upstream = s.upstream := by unfold State.pushResume; split <;> rfl
@[simp] theorem State.pushResume_downstream (s : State) (a : LinkAddr) : (s.pushResume a).downstream = s.downstream := by unfold State.pushResume; split <;> rfl
@[simp] theorem State.pushResume_head (s : State) (a : LinkAddr) : (s.pushResume a).head = s.head := by unfold State.pushResume; split <;> rfl
@[simp] theorem State.pushResume_mode (s : State) (a : LinkAddr) : (s.pushResume a).mode = s.mode := by unfold State.pushResume; split <;> rfl
@[simp] theorem State.pushResume_slotsInUse (s : State) (a : LinkAddr) : (s.pushResume a).slotsInUse = s.slotsInUse := by unfold State.pushResume; split <;> rfl
@[simp] theorem State.pushResume_grantCounter (s : State) (a : LinkAddr) : (s.pushResume a).grantCounter = s.grantCounter := by unfold State.pushResume; split <;> rfl
@[simp] theorem State.pushResume_waiting (s : State) (a : LinkAddr) : (s.pushResume a).waiting = s.waiting := by unfold State.pushResume; split <;> rfl
@[simp] theorem State.pushResume_silence (s : State) (a : LinkAddr) : (s.pushResume a).silence = s.silence := by unfold State.pushResume; split <;> rfl
@[simp] theorem State.pushResume_gate (s : State) (a : LinkAddr) (h : GateId) : (s.pushResume a).gate h = s.gate h := by unfold State.pushResume; split <;> rfl
@[simp] theorem State.pushResume_record (s : State) (a : LinkAddr) (h : GateId) : (s.pushResume a).record h = s.record h := by unfold State.pushResume; split <;> rfl
@[simp] theorem State.pushResume_curve (s : State) (a : LinkAddr) (c : Fin 4) : (s.pushResume a).curve c = s.curve c := by unfold State.pushResume; split <;> rfl
@[simp] theorem State.pushResume_gauge (s : State) (a : LinkAddr) (gn : GaugeId) : (s.pushResume a).gauge gn = s.gauge gn := by unfold State.pushResume; split <;> rfl
@[simp] theorem State.pushResume_route (s : State) (a : LinkAddr) (at_ : LinkAddr) : (s.pushResume a).route at_ = s.route at_ := by unfold State.pushResume; split <;> rfl

/-! ### `State.owe` -/

@[simp] theorem State.owe_pending (s : State) : (s.owe).pending = s.pending := rfl
@[simp] theorem State.owe_freeCount (s : State) : (s.owe).freeCount = s.freeCount := rfl
@[simp] theorem State.owe_ownAddress (s : State) : (s.owe).ownAddress = s.ownAddress := rfl
@[simp] theorem State.owe_rate (s : State) : (s.owe).rate = s.rate := rfl
@[simp] theorem State.owe_stopPinLow (s : State) : (s.owe).stopPinLow = s.stopPinLow := rfl
@[simp] theorem State.owe_stopFilter (s : State) : (s.owe).stopFilter = s.stopFilter := rfl
@[simp] theorem State.owe_stopAsserted (s : State) : (s.owe).stopAsserted = s.stopAsserted := rfl
@[simp] theorem State.owe_faultN (s : State) : (s.owe).faultN = s.faultN := rfl
@[simp] theorem State.owe_tideClock (s : State) : (s.owe).tideClock = s.tideClock := rfl
@[simp] theorem State.owe_spReceiver (s : State) : (s.owe).spReceiver = s.spReceiver := rfl
@[simp] theorem State.owe_fpReceiver (s : State) : (s.owe).fpReceiver = s.fpReceiver := rfl
@[simp] theorem State.owe_spRx (s : State) : (s.owe).spRx = s.spRx := rfl
@[simp] theorem State.owe_fpRx (s : State) : (s.owe).fpRx = s.fpRx := rfl
@[simp] theorem State.owe_spTx (s : State) : (s.owe).spTx = s.spTx := rfl
@[simp] theorem State.owe_fpTx (s : State) : (s.owe).fpTx = s.fpTx := rfl
@[simp] theorem State.owe_spCounters (s : State) : (s.owe).spCounters = s.spCounters := rfl
@[simp] theorem State.owe_fpCounters (s : State) : (s.owe).fpCounters = s.fpCounters := rfl
@[simp] theorem State.owe_replies (s : State) : (s.owe).replies = s.replies := rfl
@[simp] theorem State.owe_notices (s : State) : (s.owe).notices = s.notices := rfl
@[simp] theorem State.owe_overflow (s : State) : (s.owe).overflow = s.overflow := rfl
@[simp] theorem State.owe_upQueue (s : State) : (s.owe).upQueue = s.upQueue := rfl
@[simp] theorem State.owe_downQueue (s : State) : (s.owe).downQueue = s.downQueue := rfl
@[simp] theorem State.owe_haltQueue (s : State) : (s.owe).haltQueue = s.haltQueue := rfl
@[simp] theorem State.owe_orderQueue (s : State) : (s.owe).orderQueue = s.orderQueue := rfl
@[simp] theorem State.owe_gates (s : State) : (s.owe).gates = s.gates := rfl
@[simp] theorem State.owe_curves (s : State) : (s.owe).curves = s.curves := rfl
@[simp] theorem State.owe_gauges (s : State) : (s.owe).gauges = s.gauges := rfl
@[simp] theorem State.owe_routes (s : State) : (s.owe).routes = s.routes := rfl
@[simp] theorem State.owe_settings (s : State) : (s.owe).settings = s.settings := rfl
@[simp] theorem State.owe_settingsGen (s : State) : (s.owe).settingsGen = s.settingsGen := rfl
@[simp] theorem State.owe_staging (s : State) : (s.owe).staging = s.staging := rfl
@[simp] theorem State.owe_capture (s : State) : (s.owe).capture = s.capture := rfl
@[simp] theorem State.owe_upstream (s : State) : (s.owe).upstream = s.upstream := rfl
@[simp] theorem State.owe_downstream (s : State) : (s.owe).downstream = s.downstream := rfl
@[simp] theorem State.owe_head (s : State) : (s.owe).head = s.head := rfl
@[simp] theorem State.owe_mode (s : State) : (s.owe).mode = s.mode := rfl
@[simp] theorem State.owe_slotsInUse (s : State) : (s.owe).slotsInUse = s.slotsInUse := rfl
@[simp] theorem State.owe_grantCounter (s : State) : (s.owe).grantCounter = s.grantCounter := rfl
@[simp] theorem State.owe_waiting (s : State) : (s.owe).waiting = s.waiting := rfl
@[simp] theorem State.owe_silence (s : State) : (s.owe).silence = s.silence := rfl
@[simp] theorem State.owe_gate (s : State) (h : GateId) : (s.owe).gate h = s.gate h := rfl
@[simp] theorem State.owe_record (s : State) (h : GateId) : (s.owe).record h = s.record h := rfl
@[simp] theorem State.owe_curve (s : State) (c : Fin 4) : (s.owe).curve c = s.curve c := rfl
@[simp] theorem State.owe_gauge (s : State) (gn : GaugeId) : (s.owe).gauge gn = s.gauge gn := rfl
@[simp] theorem State.owe_route (s : State) (at_ : LinkAddr) : (s.owe).route at_ = s.route at_ := rfl

/-! ### `State.releaseSlot` -/

@[simp] theorem State.releaseSlot_pending (s : State) : (s.releaseSlot).pending = s.pending := rfl
@[simp] theorem State.releaseSlot_freeCount (s : State) : (s.releaseSlot).freeCount = s.freeCount := rfl
@[simp] theorem State.releaseSlot_ownAddress (s : State) : (s.releaseSlot).ownAddress = s.ownAddress := rfl
@[simp] theorem State.releaseSlot_rate (s : State) : (s.releaseSlot).rate = s.rate := rfl
@[simp] theorem State.releaseSlot_stopPinLow (s : State) : (s.releaseSlot).stopPinLow = s.stopPinLow := rfl
@[simp] theorem State.releaseSlot_stopFilter (s : State) : (s.releaseSlot).stopFilter = s.stopFilter := rfl
@[simp] theorem State.releaseSlot_stopAsserted (s : State) : (s.releaseSlot).stopAsserted = s.stopAsserted := rfl
@[simp] theorem State.releaseSlot_faultN (s : State) : (s.releaseSlot).faultN = s.faultN := rfl
@[simp] theorem State.releaseSlot_tideClock (s : State) : (s.releaseSlot).tideClock = s.tideClock := rfl
@[simp] theorem State.releaseSlot_spReceiver (s : State) : (s.releaseSlot).spReceiver = s.spReceiver := rfl
@[simp] theorem State.releaseSlot_fpReceiver (s : State) : (s.releaseSlot).fpReceiver = s.fpReceiver := rfl
@[simp] theorem State.releaseSlot_spRx (s : State) : (s.releaseSlot).spRx = s.spRx := rfl
@[simp] theorem State.releaseSlot_fpRx (s : State) : (s.releaseSlot).fpRx = s.fpRx := rfl
@[simp] theorem State.releaseSlot_spTx (s : State) : (s.releaseSlot).spTx = s.spTx := rfl
@[simp] theorem State.releaseSlot_fpTx (s : State) : (s.releaseSlot).fpTx = s.fpTx := rfl
@[simp] theorem State.releaseSlot_spCounters (s : State) : (s.releaseSlot).spCounters = s.spCounters := rfl
@[simp] theorem State.releaseSlot_fpCounters (s : State) : (s.releaseSlot).fpCounters = s.fpCounters := rfl
@[simp] theorem State.releaseSlot_replies (s : State) : (s.releaseSlot).replies = s.replies := rfl
@[simp] theorem State.releaseSlot_notices (s : State) : (s.releaseSlot).notices = s.notices := rfl
@[simp] theorem State.releaseSlot_overflow (s : State) : (s.releaseSlot).overflow = s.overflow := rfl
@[simp] theorem State.releaseSlot_upQueue (s : State) : (s.releaseSlot).upQueue = s.upQueue := rfl
@[simp] theorem State.releaseSlot_downQueue (s : State) : (s.releaseSlot).downQueue = s.downQueue := rfl
@[simp] theorem State.releaseSlot_haltQueue (s : State) : (s.releaseSlot).haltQueue = s.haltQueue := rfl
@[simp] theorem State.releaseSlot_orderQueue (s : State) : (s.releaseSlot).orderQueue = s.orderQueue := rfl
@[simp] theorem State.releaseSlot_gates (s : State) : (s.releaseSlot).gates = s.gates := rfl
@[simp] theorem State.releaseSlot_curves (s : State) : (s.releaseSlot).curves = s.curves := rfl
@[simp] theorem State.releaseSlot_gauges (s : State) : (s.releaseSlot).gauges = s.gauges := rfl
@[simp] theorem State.releaseSlot_routes (s : State) : (s.releaseSlot).routes = s.routes := rfl
@[simp] theorem State.releaseSlot_settings (s : State) : (s.releaseSlot).settings = s.settings := rfl
@[simp] theorem State.releaseSlot_settingsGen (s : State) : (s.releaseSlot).settingsGen = s.settingsGen := rfl
@[simp] theorem State.releaseSlot_staging (s : State) : (s.releaseSlot).staging = s.staging := rfl
@[simp] theorem State.releaseSlot_capture (s : State) : (s.releaseSlot).capture = s.capture := rfl
@[simp] theorem State.releaseSlot_upstream (s : State) : (s.releaseSlot).upstream = s.upstream := rfl
@[simp] theorem State.releaseSlot_downstream (s : State) : (s.releaseSlot).downstream = s.downstream := rfl
@[simp] theorem State.releaseSlot_head (s : State) : (s.releaseSlot).head = s.head := rfl
@[simp] theorem State.releaseSlot_mode (s : State) : (s.releaseSlot).mode = s.mode := rfl
@[simp] theorem State.releaseSlot_grantCounter (s : State) : (s.releaseSlot).grantCounter = s.grantCounter := rfl
@[simp] theorem State.releaseSlot_waiting (s : State) : (s.releaseSlot).waiting = s.waiting := rfl
@[simp] theorem State.releaseSlot_silence (s : State) : (s.releaseSlot).silence = s.silence := rfl
@[simp] theorem State.releaseSlot_gate (s : State) (h : GateId) : (s.releaseSlot).gate h = s.gate h := rfl
@[simp] theorem State.releaseSlot_record (s : State) (h : GateId) : (s.releaseSlot).record h = s.record h := rfl
@[simp] theorem State.releaseSlot_curve (s : State) (c : Fin 4) : (s.releaseSlot).curve c = s.curve c := rfl
@[simp] theorem State.releaseSlot_gauge (s : State) (gn : GaugeId) : (s.releaseSlot).gauge gn = s.gauge gn := rfl
@[simp] theorem State.releaseSlot_route (s : State) (at_ : LinkAddr) : (s.releaseSlot).route at_ = s.route at_ := rfl

/-! ### `State.joinTail` -/

@[simp] theorem State.joinTail_pending (s : State) (g : GateId) (r : Request) : (s.joinTail g r).pending = s.pending := rfl
@[simp] theorem State.joinTail_freeCount (s : State) (g : GateId) (r : Request) : (s.joinTail g r).freeCount = s.freeCount := rfl
@[simp] theorem State.joinTail_ownAddress (s : State) (g : GateId) (r : Request) : (s.joinTail g r).ownAddress = s.ownAddress := rfl
@[simp] theorem State.joinTail_rate (s : State) (g : GateId) (r : Request) : (s.joinTail g r).rate = s.rate := rfl
@[simp] theorem State.joinTail_stopPinLow (s : State) (g : GateId) (r : Request) : (s.joinTail g r).stopPinLow = s.stopPinLow := rfl
@[simp] theorem State.joinTail_stopFilter (s : State) (g : GateId) (r : Request) : (s.joinTail g r).stopFilter = s.stopFilter := rfl
@[simp] theorem State.joinTail_stopAsserted (s : State) (g : GateId) (r : Request) : (s.joinTail g r).stopAsserted = s.stopAsserted := rfl
@[simp] theorem State.joinTail_tideClock (s : State) (g : GateId) (r : Request) : (s.joinTail g r).tideClock = s.tideClock := rfl
@[simp] theorem State.joinTail_spReceiver (s : State) (g : GateId) (r : Request) : (s.joinTail g r).spReceiver = s.spReceiver := rfl
@[simp] theorem State.joinTail_fpReceiver (s : State) (g : GateId) (r : Request) : (s.joinTail g r).fpReceiver = s.fpReceiver := rfl
@[simp] theorem State.joinTail_spRx (s : State) (g : GateId) (r : Request) : (s.joinTail g r).spRx = s.spRx := rfl
@[simp] theorem State.joinTail_fpRx (s : State) (g : GateId) (r : Request) : (s.joinTail g r).fpRx = s.fpRx := rfl
@[simp] theorem State.joinTail_spTx (s : State) (g : GateId) (r : Request) : (s.joinTail g r).spTx = s.spTx := rfl
@[simp] theorem State.joinTail_fpTx (s : State) (g : GateId) (r : Request) : (s.joinTail g r).fpTx = s.fpTx := rfl
@[simp] theorem State.joinTail_spCounters (s : State) (g : GateId) (r : Request) : (s.joinTail g r).spCounters = s.spCounters := rfl
@[simp] theorem State.joinTail_fpCounters (s : State) (g : GateId) (r : Request) : (s.joinTail g r).fpCounters = s.fpCounters := rfl
@[simp] theorem State.joinTail_replies (s : State) (g : GateId) (r : Request) : (s.joinTail g r).replies = s.replies := rfl
@[simp] theorem State.joinTail_notices (s : State) (g : GateId) (r : Request) : (s.joinTail g r).notices = s.notices := rfl
@[simp] theorem State.joinTail_overflow (s : State) (g : GateId) (r : Request) : (s.joinTail g r).overflow = s.overflow := rfl
@[simp] theorem State.joinTail_upQueue (s : State) (g : GateId) (r : Request) : (s.joinTail g r).upQueue = s.upQueue := rfl
@[simp] theorem State.joinTail_downQueue (s : State) (g : GateId) (r : Request) : (s.joinTail g r).downQueue = s.downQueue := rfl
@[simp] theorem State.joinTail_haltQueue (s : State) (g : GateId) (r : Request) : (s.joinTail g r).haltQueue = s.haltQueue := rfl
@[simp] theorem State.joinTail_orderQueue (s : State) (g : GateId) (r : Request) : (s.joinTail g r).orderQueue = s.orderQueue := rfl
@[simp] theorem State.joinTail_curves (s : State) (g : GateId) (r : Request) : (s.joinTail g r).curves = s.curves := rfl
@[simp] theorem State.joinTail_gauges (s : State) (g : GateId) (r : Request) : (s.joinTail g r).gauges = s.gauges := rfl
@[simp] theorem State.joinTail_routes (s : State) (g : GateId) (r : Request) : (s.joinTail g r).routes = s.routes := rfl
@[simp] theorem State.joinTail_settings (s : State) (g : GateId) (r : Request) : (s.joinTail g r).settings = s.settings := rfl
@[simp] theorem State.joinTail_settingsGen (s : State) (g : GateId) (r : Request) : (s.joinTail g r).settingsGen = s.settingsGen := rfl
@[simp] theorem State.joinTail_staging (s : State) (g : GateId) (r : Request) : (s.joinTail g r).staging = s.staging := rfl
@[simp] theorem State.joinTail_capture (s : State) (g : GateId) (r : Request) : (s.joinTail g r).capture = s.capture := rfl
@[simp] theorem State.joinTail_upstream (s : State) (g : GateId) (r : Request) : (s.joinTail g r).upstream = s.upstream := rfl
@[simp] theorem State.joinTail_downstream (s : State) (g : GateId) (r : Request) : (s.joinTail g r).downstream = s.downstream := rfl
@[simp] theorem State.joinTail_head (s : State) (g : GateId) (r : Request) : (s.joinTail g r).head = s.head := rfl
@[simp] theorem State.joinTail_mode (s : State) (g : GateId) (r : Request) : (s.joinTail g r).mode = s.mode := rfl
@[simp] theorem State.joinTail_slotsInUse (s : State) (g : GateId) (r : Request) : (s.joinTail g r).slotsInUse = s.slotsInUse := rfl
@[simp] theorem State.joinTail_grantCounter (s : State) (g : GateId) (r : Request) : (s.joinTail g r).grantCounter = s.grantCounter := rfl
@[simp] theorem State.joinTail_silence (s : State) (g : GateId) (r : Request) : (s.joinTail g r).silence = s.silence := rfl
@[simp] theorem State.joinTail_curve (s : State) (g : GateId) (r : Request) (c : Fin 4) : (s.joinTail g r).curve c = s.curve c := rfl
@[simp] theorem State.joinTail_gauge (s : State) (g : GateId) (r : Request) (gn : GaugeId) : (s.joinTail g r).gauge gn = s.gauge gn := rfl
@[simp] theorem State.joinTail_route (s : State) (g : GateId) (r : Request) (at_ : LinkAddr) : (s.joinTail g r).route at_ = s.route at_ := rfl

/-! ### `State.joinHead` -/

@[simp] theorem State.joinHead_pending (s : State) (g : GateId) (r : Request) : (s.joinHead g r).pending = s.pending := rfl
@[simp] theorem State.joinHead_freeCount (s : State) (g : GateId) (r : Request) : (s.joinHead g r).freeCount = s.freeCount := rfl
@[simp] theorem State.joinHead_ownAddress (s : State) (g : GateId) (r : Request) : (s.joinHead g r).ownAddress = s.ownAddress := rfl
@[simp] theorem State.joinHead_rate (s : State) (g : GateId) (r : Request) : (s.joinHead g r).rate = s.rate := rfl
@[simp] theorem State.joinHead_stopPinLow (s : State) (g : GateId) (r : Request) : (s.joinHead g r).stopPinLow = s.stopPinLow := rfl
@[simp] theorem State.joinHead_stopFilter (s : State) (g : GateId) (r : Request) : (s.joinHead g r).stopFilter = s.stopFilter := rfl
@[simp] theorem State.joinHead_stopAsserted (s : State) (g : GateId) (r : Request) : (s.joinHead g r).stopAsserted = s.stopAsserted := rfl
@[simp] theorem State.joinHead_tideClock (s : State) (g : GateId) (r : Request) : (s.joinHead g r).tideClock = s.tideClock := rfl
@[simp] theorem State.joinHead_spReceiver (s : State) (g : GateId) (r : Request) : (s.joinHead g r).spReceiver = s.spReceiver := rfl
@[simp] theorem State.joinHead_fpReceiver (s : State) (g : GateId) (r : Request) : (s.joinHead g r).fpReceiver = s.fpReceiver := rfl
@[simp] theorem State.joinHead_spRx (s : State) (g : GateId) (r : Request) : (s.joinHead g r).spRx = s.spRx := rfl
@[simp] theorem State.joinHead_fpRx (s : State) (g : GateId) (r : Request) : (s.joinHead g r).fpRx = s.fpRx := rfl
@[simp] theorem State.joinHead_spTx (s : State) (g : GateId) (r : Request) : (s.joinHead g r).spTx = s.spTx := rfl
@[simp] theorem State.joinHead_fpTx (s : State) (g : GateId) (r : Request) : (s.joinHead g r).fpTx = s.fpTx := rfl
@[simp] theorem State.joinHead_spCounters (s : State) (g : GateId) (r : Request) : (s.joinHead g r).spCounters = s.spCounters := rfl
@[simp] theorem State.joinHead_fpCounters (s : State) (g : GateId) (r : Request) : (s.joinHead g r).fpCounters = s.fpCounters := rfl
@[simp] theorem State.joinHead_replies (s : State) (g : GateId) (r : Request) : (s.joinHead g r).replies = s.replies := rfl
@[simp] theorem State.joinHead_notices (s : State) (g : GateId) (r : Request) : (s.joinHead g r).notices = s.notices := rfl
@[simp] theorem State.joinHead_overflow (s : State) (g : GateId) (r : Request) : (s.joinHead g r).overflow = s.overflow := rfl
@[simp] theorem State.joinHead_upQueue (s : State) (g : GateId) (r : Request) : (s.joinHead g r).upQueue = s.upQueue := rfl
@[simp] theorem State.joinHead_downQueue (s : State) (g : GateId) (r : Request) : (s.joinHead g r).downQueue = s.downQueue := rfl
@[simp] theorem State.joinHead_haltQueue (s : State) (g : GateId) (r : Request) : (s.joinHead g r).haltQueue = s.haltQueue := rfl
@[simp] theorem State.joinHead_orderQueue (s : State) (g : GateId) (r : Request) : (s.joinHead g r).orderQueue = s.orderQueue := rfl
@[simp] theorem State.joinHead_curves (s : State) (g : GateId) (r : Request) : (s.joinHead g r).curves = s.curves := rfl
@[simp] theorem State.joinHead_gauges (s : State) (g : GateId) (r : Request) : (s.joinHead g r).gauges = s.gauges := rfl
@[simp] theorem State.joinHead_routes (s : State) (g : GateId) (r : Request) : (s.joinHead g r).routes = s.routes := rfl
@[simp] theorem State.joinHead_settings (s : State) (g : GateId) (r : Request) : (s.joinHead g r).settings = s.settings := rfl
@[simp] theorem State.joinHead_settingsGen (s : State) (g : GateId) (r : Request) : (s.joinHead g r).settingsGen = s.settingsGen := rfl
@[simp] theorem State.joinHead_staging (s : State) (g : GateId) (r : Request) : (s.joinHead g r).staging = s.staging := rfl
@[simp] theorem State.joinHead_capture (s : State) (g : GateId) (r : Request) : (s.joinHead g r).capture = s.capture := rfl
@[simp] theorem State.joinHead_upstream (s : State) (g : GateId) (r : Request) : (s.joinHead g r).upstream = s.upstream := rfl
@[simp] theorem State.joinHead_downstream (s : State) (g : GateId) (r : Request) : (s.joinHead g r).downstream = s.downstream := rfl
@[simp] theorem State.joinHead_head (s : State) (g : GateId) (r : Request) : (s.joinHead g r).head = s.head := rfl
@[simp] theorem State.joinHead_mode (s : State) (g : GateId) (r : Request) : (s.joinHead g r).mode = s.mode := rfl
@[simp] theorem State.joinHead_slotsInUse (s : State) (g : GateId) (r : Request) : (s.joinHead g r).slotsInUse = s.slotsInUse := rfl
@[simp] theorem State.joinHead_grantCounter (s : State) (g : GateId) (r : Request) : (s.joinHead g r).grantCounter = s.grantCounter := rfl
@[simp] theorem State.joinHead_silence (s : State) (g : GateId) (r : Request) : (s.joinHead g r).silence = s.silence := rfl
@[simp] theorem State.joinHead_curve (s : State) (g : GateId) (r : Request) (c : Fin 4) : (s.joinHead g r).curve c = s.curve c := rfl
@[simp] theorem State.joinHead_gauge (s : State) (g : GateId) (r : Request) (gn : GaugeId) : (s.joinHead g r).gauge gn = s.gauge gn := rfl
@[simp] theorem State.joinHead_route (s : State) (g : GateId) (r : Request) (at_ : LinkAddr) : (s.joinHead g r).route at_ = s.route at_ := rfl

/-! ### `State.leaveList` -/

@[simp] theorem State.leaveList_pending (s : State) (g : GateId) (m : Motion) : (s.leaveList g m).pending = s.pending := rfl
@[simp] theorem State.leaveList_freeCount (s : State) (g : GateId) (m : Motion) : (s.leaveList g m).freeCount = s.freeCount := rfl
@[simp] theorem State.leaveList_evalDue (s : State) (g : GateId) (m : Motion) : (s.leaveList g m).evalDue = s.evalDue := rfl
@[simp] theorem State.leaveList_ownAddress (s : State) (g : GateId) (m : Motion) : (s.leaveList g m).ownAddress = s.ownAddress := rfl
@[simp] theorem State.leaveList_rate (s : State) (g : GateId) (m : Motion) : (s.leaveList g m).rate = s.rate := rfl
@[simp] theorem State.leaveList_stopPinLow (s : State) (g : GateId) (m : Motion) : (s.leaveList g m).stopPinLow = s.stopPinLow := rfl
@[simp] theorem State.leaveList_stopFilter (s : State) (g : GateId) (m : Motion) : (s.leaveList g m).stopFilter = s.stopFilter := rfl
@[simp] theorem State.leaveList_stopAsserted (s : State) (g : GateId) (m : Motion) : (s.leaveList g m).stopAsserted = s.stopAsserted := rfl
@[simp] theorem State.leaveList_tideClock (s : State) (g : GateId) (m : Motion) : (s.leaveList g m).tideClock = s.tideClock := rfl
@[simp] theorem State.leaveList_spReceiver (s : State) (g : GateId) (m : Motion) : (s.leaveList g m).spReceiver = s.spReceiver := rfl
@[simp] theorem State.leaveList_fpReceiver (s : State) (g : GateId) (m : Motion) : (s.leaveList g m).fpReceiver = s.fpReceiver := rfl
@[simp] theorem State.leaveList_spRx (s : State) (g : GateId) (m : Motion) : (s.leaveList g m).spRx = s.spRx := rfl
@[simp] theorem State.leaveList_fpRx (s : State) (g : GateId) (m : Motion) : (s.leaveList g m).fpRx = s.fpRx := rfl
@[simp] theorem State.leaveList_spTx (s : State) (g : GateId) (m : Motion) : (s.leaveList g m).spTx = s.spTx := rfl
@[simp] theorem State.leaveList_fpTx (s : State) (g : GateId) (m : Motion) : (s.leaveList g m).fpTx = s.fpTx := rfl
@[simp] theorem State.leaveList_spCounters (s : State) (g : GateId) (m : Motion) : (s.leaveList g m).spCounters = s.spCounters := rfl
@[simp] theorem State.leaveList_fpCounters (s : State) (g : GateId) (m : Motion) : (s.leaveList g m).fpCounters = s.fpCounters := rfl
@[simp] theorem State.leaveList_replies (s : State) (g : GateId) (m : Motion) : (s.leaveList g m).replies = s.replies := rfl
@[simp] theorem State.leaveList_notices (s : State) (g : GateId) (m : Motion) : (s.leaveList g m).notices = s.notices := rfl
@[simp] theorem State.leaveList_overflow (s : State) (g : GateId) (m : Motion) : (s.leaveList g m).overflow = s.overflow := rfl
@[simp] theorem State.leaveList_upQueue (s : State) (g : GateId) (m : Motion) : (s.leaveList g m).upQueue = s.upQueue := rfl
@[simp] theorem State.leaveList_downQueue (s : State) (g : GateId) (m : Motion) : (s.leaveList g m).downQueue = s.downQueue := rfl
@[simp] theorem State.leaveList_haltQueue (s : State) (g : GateId) (m : Motion) : (s.leaveList g m).haltQueue = s.haltQueue := rfl
@[simp] theorem State.leaveList_orderQueue (s : State) (g : GateId) (m : Motion) : (s.leaveList g m).orderQueue = s.orderQueue := rfl
@[simp] theorem State.leaveList_curves (s : State) (g : GateId) (m : Motion) : (s.leaveList g m).curves = s.curves := rfl
@[simp] theorem State.leaveList_gauges (s : State) (g : GateId) (m : Motion) : (s.leaveList g m).gauges = s.gauges := rfl
@[simp] theorem State.leaveList_routes (s : State) (g : GateId) (m : Motion) : (s.leaveList g m).routes = s.routes := rfl
@[simp] theorem State.leaveList_settings (s : State) (g : GateId) (m : Motion) : (s.leaveList g m).settings = s.settings := rfl
@[simp] theorem State.leaveList_settingsGen (s : State) (g : GateId) (m : Motion) : (s.leaveList g m).settingsGen = s.settingsGen := rfl
@[simp] theorem State.leaveList_staging (s : State) (g : GateId) (m : Motion) : (s.leaveList g m).staging = s.staging := rfl
@[simp] theorem State.leaveList_capture (s : State) (g : GateId) (m : Motion) : (s.leaveList g m).capture = s.capture := rfl
@[simp] theorem State.leaveList_upstream (s : State) (g : GateId) (m : Motion) : (s.leaveList g m).upstream = s.upstream := rfl
@[simp] theorem State.leaveList_downstream (s : State) (g : GateId) (m : Motion) : (s.leaveList g m).downstream = s.downstream := rfl
@[simp] theorem State.leaveList_head (s : State) (g : GateId) (m : Motion) : (s.leaveList g m).head = s.head := rfl
@[simp] theorem State.leaveList_mode (s : State) (g : GateId) (m : Motion) : (s.leaveList g m).mode = s.mode := rfl
@[simp] theorem State.leaveList_slotsInUse (s : State) (g : GateId) (m : Motion) : (s.leaveList g m).slotsInUse = s.slotsInUse := rfl
@[simp] theorem State.leaveList_grantCounter (s : State) (g : GateId) (m : Motion) : (s.leaveList g m).grantCounter = s.grantCounter := rfl
@[simp] theorem State.leaveList_silence (s : State) (g : GateId) (m : Motion) : (s.leaveList g m).silence = s.silence := rfl
@[simp] theorem State.leaveList_curve (s : State) (g : GateId) (m : Motion) (c : Fin 4) : (s.leaveList g m).curve c = s.curve c := rfl
@[simp] theorem State.leaveList_gauge (s : State) (g : GateId) (m : Motion) (gn : GaugeId) : (s.leaveList g m).gauge gn = s.gauge gn := rfl
@[simp] theorem State.leaveList_route (s : State) (g : GateId) (m : Motion) (at_ : LinkAddr) : (s.leaveList g m).route at_ = s.route at_ := rfl

end Sys2Proof.Machine
end

