-- ==== Sys2Proof/Laws/Ops.lean ====
section
/-! SUPPORT. What each shared operation of Machine/Ops.lean changes, said once: the provers cite these and unfold no
operation. -/

namespace Sys2Proof.Machine

/-! ### Gates -/

theorem State.setGate_gate (s : State) (g h : GateId) (x : Gate) :
    (s.setGate g x).gate h = if h = g then x else s.gate h := by
  by_cases hg : h = g
  · subst hg; simp [State.gate, State.setGate]
  · have : (g : Nat) ≠ h := fun e => hg (Fin.ext e.symm)
    simp [State.gate, State.setGate, hg, this]

@[simp] theorem State.setGate_gate_self (s : State) (g : GateId) (x : Gate) : (s.setGate g x).gate g = x := by
  simp [State.setGate_gate]

theorem State.setGate_gate_ne (s : State) {g h : GateId} (x : Gate) (hg : h ≠ g) :
    (s.setGate g x).gate h = s.gate h := by
  simp [State.setGate_gate, hg]

theorem State.setGate_faultN (s : State) (g : GateId) (x : Gate) :
    (s.setGate g x).faultN = holdPresent (s.setGate g x).gates := rfl

theorem State.setMotion_eq (s : State) (g : GateId) (m : Motion) :
    s.setMotion g m = s.setGate g { s.gate g with motion := m } := rfl

theorem State.setExcursion_eq (s : State) (g : GateId) (b : Bool) :
    s.setExcursion g b = s.setGate g { s.gate g with excursionReported := b } := rfl

theorem State.setCeiling_eq (s : State) (g : GateId) (c : Option Nat) :
    s.setCeiling g c = s.setGate g { s.gate g with ceiling := c } := rfl

theorem State.setMotion_gate (s : State) (g h : GateId) (m : Motion) :
    (s.setMotion g m).gate h = if h = g then { s.gate g with motion := m } else s.gate h := by
  simp [State.setMotion_eq, State.setGate_gate]

@[simp] theorem State.setMotion_gate_self (s : State) (g : GateId) (m : Motion) :
    (s.setMotion g m).gate g = { s.gate g with motion := m } := by
  simp [State.setMotion_gate]

theorem State.setMotion_gate_ne (s : State) {g h : GateId} (m : Motion) (hg : h ≠ g) :
    (s.setMotion g m).gate h = s.gate h := by
  simp [State.setMotion_gate, hg]

theorem State.setExcursion_gate (s : State) (g h : GateId) (b : Bool) :
    (s.setExcursion g b).gate h = if h = g then { s.gate g with excursionReported := b } else s.gate h := by
  simp [State.setExcursion_eq, State.setGate_gate]

@[simp] theorem State.setExcursion_gate_self (s : State) (g : GateId) (b : Bool) :
    (s.setExcursion g b).gate g = { s.gate g with excursionReported := b } := by
  simp [State.setExcursion_gate]

theorem State.setCeiling_gate (s : State) (g h : GateId) (c : Option Nat) :
    (s.setCeiling g c).gate h = if h = g then { s.gate g with ceiling := c } else s.gate h := by
  simp [State.setCeiling_eq, State.setGate_gate]

@[simp] theorem State.setMotion_record (s : State) (g h : GateId) (m : Motion) :
    (s.setMotion g m).record h = s.record h := by
  by_cases hg : h = g <;> simp [State.record, State.setMotion_gate, hg]

@[simp] theorem State.setExcursion_record (s : State) (g h : GateId) (b : Bool) :
    (s.setExcursion g b).record h = s.record h := by
  by_cases hg : h = g <;> simp [State.record, State.setExcursion_gate, hg]

@[simp] theorem State.setCeiling_record (s : State) (g h : GateId) (c : Option Nat) :
    (s.setCeiling g c).record h = s.record h := by
  by_cases hg : h = g <;> simp [State.record, State.setCeiling_gate, hg]

/-! ### Gauges and routes -/

theorem State.setGauge_gauge (s : State) (n m : GaugeId) (x : Gauge) :
    (s.setGauge n x).gauge m = if m = n then x else s.gauge m := by
  by_cases hn : m = n
  · subst hn; simp [State.gauge, State.setGauge]
  · have : (n : Nat) ≠ m := fun e => hn (Fin.ext e.symm)
    simp [State.gauge, State.setGauge, hn, this]

theorem State.setRoute_route (s : State) (a b : LinkAddr) (x : RouteEntry) :
    (s.setRoute a x).route b = if b = a then x else s.route b := by
  by_cases ha : b = a
  · subst ha; simp [State.route, State.setRoute]
  · have : (a : Nat) ≠ b := fun e => ha (Fin.ext e.symm)
    simp [State.route, State.setRoute, ha, this]

/-! ### Counters, replies and notices -/

/-- A count never lowers a counter that saturates (R186). -/
theorem bump_saturate_le (c : CountWord) : c.toNat ≤ (bump .saturate c).toNat := by
  by_cases h : c = 0xFFFF#16
  · simp [bump, h]
  · have : c.toNat ≠ 65535 := fun e => h (BitVec.eq_of_toNat_eq (by simpa using e))
    have := c.isLt
    simp [bump, h, BitVec.toNat_add]; omega

@[simp] theorem State.reply_replies (s : State) (k : Byte) (r : Result) (d : Nat) (l : List Byte) :
    (s.reply k r d l).replies = s.replies ++ [{ kind := k, result := r, detail := byte d, data := l }] := rfl

/-- A posting into a queue with room (R179). -/
theorem State.post_of_room (s : State) (n : Notice) (h : s.notices.length < 16) :
    s.post n = { s with notices := s.notices ++ [{ notice := n, stamp := s.tideClock }] } := by
  simp [State.post, h]

/-- A posting into a full queue (R179, R180). -/
theorem State.post_of_full (s : State) (n : Notice) (h : ¬ s.notices.length < 16) :
    s.post n = { s with overflow := true } := by
  simp [State.post, h]

/-! ### Hoist orders -/

@[simp] theorem State.pushHalt_haltQueue (s : State) (a : LinkAddr) :
    (s.pushHalt a).haltQueue = if a ∈ s.haltQueue then s.haltQueue else s.haltQueue ++ [a] := rfl

@[simp] theorem State.pushHalt_orderQueue (s : State) (a : LinkAddr) :
    (s.pushHalt a).orderQueue = s.orderQueue.filter fun o => o.hoist ≠ a := rfl

@[simp] theorem State.pushRun_orderQueue (s : State) (a : LinkAddr) (raw speed : Nat) :
    (s.pushRun a raw speed).orderQueue =
      s.orderQueue.filter (fun o => !o.isRunFor a) ++ [.run a raw speed] := rfl

/-- A PAUSE changes the order queue alone: it removes an unsent RESUME, or joins the tail once (R108; log 8). -/
theorem State.pushPause_eq (s : State) (a : LinkAddr) :
    s.pushPause a = { s with
      orderQueue := if .resume a ∈ s.orderQueue then s.orderQueue.filter fun o => o ≠ .resume a
        else if .pause a ∈ s.orderQueue then s.orderQueue else s.orderQueue ++ [.pause a] } := by
  unfold State.pushPause State.pushOnce; split <;> rfl

/-- A RESUME changes the order queue alone: it removes an unsent PAUSE, or joins the tail once (R108; log 8). -/
theorem State.pushResume_eq (s : State) (a : LinkAddr) :
    s.pushResume a = { s with
      orderQueue := if .pause a ∈ s.orderQueue then s.orderQueue.filter fun o => o ≠ .pause a
        else if .resume a ∈ s.orderQueue then s.orderQueue else s.orderQueue ++ [.resume a] } := by
  unfold State.pushResume State.pushOnce; split <;> rfl

/-! ### Slots and the pending list -/

@[simp] theorem State.owe_evalDue (s : State) : s.owe.evalDue = true := rfl

@[simp] theorem State.releaseSlot_slotsInUse (s : State) : s.releaseSlot.slotsInUse = s.slotsInUse - 1 := rfl

@[simp] theorem State.releaseSlot_evalDue (s : State) : s.releaseSlot.evalDue = true := rfl

@[simp] theorem State.joinTail_waiting (s : State) (g : GateId) (r : Request) :
    (s.joinTail g r).waiting = s.waiting ++ [g] := rfl

@[simp] theorem State.joinTail_gate (s : State) (g h : GateId) (r : Request) :
    (s.joinTail g r).gate h = (s.setMotion g (.pending r)).gate h := rfl

@[simp] theorem State.joinHead_waiting (s : State) (g : GateId) (r : Request) :
    (s.joinHead g r).waiting = g :: s.waiting := rfl

@[simp] theorem State.joinHead_gate (s : State) (g h : GateId) (r : Request) :
    (s.joinHead g r).gate h = (s.setMotion g (.pending r)).gate h := rfl

@[simp] theorem State.leaveList_waiting (s : State) (g : GateId) (m : Motion) :
    (s.leaveList g m).waiting = s.waiting.filter fun h => h ≠ g := rfl

@[simp] theorem State.leaveList_gate (s : State) (g h : GateId) (m : Motion) :
    (s.leaveList g m).gate h = (s.setMotion g m).gate h := rfl

/-! ### Evaluations -/

theorem State.evaluateDue_evalDue (n : Nat) (s : State) : (State.evaluateDue n s).evalDue = false := by
  induction n generalizing s with
  | zero => rfl
  | succ n ih =>
    unfold State.evaluateDue
    split
    · exact ih _
    · simpa using ‹¬ s.evalDue = true›

/-- After its event, no evaluation is owed (R56, R88). -/
@[simp] theorem State.settle_evalDue (s : State) : s.settle.evalDue = false := State.evaluateDue_evalDue _ _

/-- Where no evaluation is owed, none is made. -/
theorem State.settle_of_not_due (s : State) (h : s.evalDue = false) : s.settle = s := by
  simp [State.settle, State.evaluateDue, h]

end Sys2Proof.Machine
end

