-- ==== Sys2Proof/Laws/Reach.lean ====
section
/-! SUPPORT. What the Gate Sequencer, the Envelope Unit and the Motion Arbiter can do to the state, said once: every
transition of theirs is a chain of a few primitive changes (`State.Reach`). A frame or an invariant that the primitive
changes keep is kept by every transition. -/

namespace Sys2Proof.Machine

/-- A hold's further reasons are distinct and leave out the primary (R75). -/
def Motion.holdSound : Motion → Prop
  | .hold h _ => h.further.Nodup ∧ h.primary ∉ h.further
  | _ => True

/-- Chains of primitive motion changes from `s`. A motion state is replaced only by one whose hold is sound if the one
before was, and that has a request while STOP_N is asserted only if the one before had one (R75, R99). -/
inductive State.Reach (s : State) : State → Prop
  | refl : State.Reach s s
  | post {t : State} (n : Notice) (h : State.Reach s t) : State.Reach s (t.post n)
  | setMotion {t : State} (g : GateId) (m : Motion) (h : State.Reach s t)
      (sound : (t.gate g).motion.holdSound → m.holdSound)
      (quiet : t.stopAsserted = true → (t.gate g).motion.request = none → m.request = none) :
      State.Reach s (t.setMotion g m)
  | setExcursion {t : State} (g : GateId) (b : Bool) (h : State.Reach s t) : State.Reach s (t.setExcursion g b)
  | pushHalt {t : State} (a : LinkAddr) (h : State.Reach s t) : State.Reach s (t.pushHalt a)
  | pushRun {t : State} (a : LinkAddr) (raw speed : Nat) (h : State.Reach s t) : State.Reach s (t.pushRun a raw speed)
  | pushPause {t : State} (a : LinkAddr) (h : State.Reach s t) : State.Reach s (t.pushPause a)
  | pushResume {t : State} (a : LinkAddr) (h : State.Reach s t) : State.Reach s (t.pushResume a)
  | counts {t : State} (slots grants : Nat) (waiting : List GateId) (due : Bool) (h : State.Reach s t) :
      State.Reach s { t with slotsInUse := slots, grantCounter := grants, waiting := waiting, evalDue := due }

namespace State.Reach

theorem trans {s t u : State} (h : State.Reach s t) (k : State.Reach t u) : State.Reach s u := by
  induction k with
  | refl => exact h
  | post n _ ih => exact .post n ih
  | setMotion g m _ sd q ih => exact .setMotion g m ih sd q
  | setExcursion g b _ ih => exact .setExcursion g b ih
  | pushHalt a _ ih => exact .pushHalt a ih
  | pushRun a x v _ ih => exact .pushRun a x v ih
  | pushPause a _ ih => exact .pushPause a ih
  | pushResume a _ ih => exact .pushResume a ih
  | counts k n w d _ ih => exact .counts k n w d ih

end State.Reach

/-! ### What no chain touches -/

/-- A chain changes gates, FAULT_N, notices, the two hoist order queues and the Arbiter's counts; nothing else. -/
theorem State.Reach.frame {s t : State} (h : State.Reach s t) :
    t = { s with gates := t.gates, faultN := t.faultN, notices := t.notices, overflow := t.overflow,
                 haltQueue := t.haltQueue, orderQueue := t.orderQueue, slotsInUse := t.slotsInUse,
                 grantCounter := t.grantCounter, waiting := t.waiting, evalDue := t.evalDue } := by
  induction h with
  | refl => rfl
  | post n _ ih => unfold State.post; split <;> rw [ih]
  | setMotion g m _ _ _ ih => rw [ih]; rfl
  | setExcursion g b _ ih => rw [ih]; rfl
  | pushHalt a _ ih => rw [ih]; rfl
  | pushRun a x v _ ih => rw [ih]; rfl
  | pushPause a _ ih => rw [State.pushPause_eq, ih]
  | pushResume a _ ih => rw [State.pushResume_eq, ih]
  | counts k n w d _ ih => rw [ih]

theorem State.Reach.stopAsserted {s t : State} (h : State.Reach s t) : t.stopAsserted = s.stopAsserted := by
  rw [h.frame]

theorem State.Reach.settings {s t : State} (h : State.Reach s t) : t.settings = s.settings := by rw [h.frame]

theorem State.Reach.mode {s t : State} (h : State.Reach s t) : t.mode = s.mode := by rw [h.frame]

theorem State.Reach.head {s t : State} (h : State.Reach s t) : t.head = s.head := by rw [h.frame]

theorem State.Reach.tideClock {s t : State} (h : State.Reach s t) : t.tideClock = s.tideClock := by rw [h.frame]

/-- A chain changes motion state and excursion mark of a gate; nothing else of it. -/
theorem State.Reach.gate {s t : State} (h : State.Reach s t) (g : GateId) :
    t.gate g = { s.gate g with motion := (t.gate g).motion, excursionReported := (t.gate g).excursionReported } := by
  induction h with
  | refl => rfl
  | post n _ ih => simpa using ih
  | @setMotion t g' m _ _ _ ih =>
    rw [State.setMotion_gate]
    split
    · rename_i e; subst e; rw [ih]
    · exact ih
  | @setExcursion t g' b _ ih =>
    rw [State.setExcursion_gate]
    split
    · rename_i e; subst e; rw [ih]
    · exact ih
  | pushHalt a _ ih => simpa using ih
  | pushRun a x v _ ih => simpa using ih
  | pushPause a _ ih => simpa using ih
  | pushResume a _ ih => simpa using ih
  | counts k n w d _ ih => exact ih

theorem State.Reach.record {s t : State} (h : State.Reach s t) (g : GateId) : t.record g = s.record g := by
  show (t.gate g).record = (s.gate g).record
  rw [h.gate g]

/-! ### Changes that leave every gate as it is -/

@[simp] theorem State.counts_gate (s : State) (k n : Nat) (w : List GateId) (d : Bool) (g : GateId) :
    { s with slotsInUse := k, grantCounter := n, waiting := w, evalDue := d }.gate g = s.gate g := rfl

theorem State.reach_owe (s : State) : s.Reach s.owe := .counts s.slotsInUse s.grantCounter s.waiting true .refl

theorem State.reach_releaseSlot (s : State) : s.Reach s.releaseSlot :=
  .counts (s.slotsInUse - 1) s.grantCounter s.waiting true .refl

theorem State.forHoist_gate (s : State) (g h : GateId) (side : Side) (send : State → LinkAddr → State)
    (hs : ∀ t a, (send t a).gate h = t.gate h) : (s.forHoist g side send).gate h = s.gate h := by
  unfold State.forHoist; split
  · exact hs _ _
  · rfl

theorem State.reach_forHoist (s : State) (g : GateId) (side : Side) (send : State → LinkAddr → State)
    (hs : ∀ (t : State) a, t.Reach (send t a)) : s.Reach (s.forHoist g side send) := by
  unfold State.forHoist; split
  · exact hs _ _
  · exact .refl

@[simp] theorem State.haltGate_gate (s : State) (g h : GateId) : (s.haltGate g).gate h = s.gate h := by
  unfold State.haltGate
  rw [State.forHoist_gate, State.forHoist_gate] <;> simp

theorem State.reach_haltGate (s : State) (g : GateId) : s.Reach (s.haltGate g) :=
  (State.reach_forHoist _ _ _ _ fun _ a => .pushHalt a .refl).trans
    (State.reach_forHoist _ _ _ _ fun _ a => .pushHalt a .refl)

@[simp] theorem State.runGate_gate (s : State) (g h : GateId) (x v : Nat) : (s.runGate g x v).gate h = s.gate h := by
  unfold State.runGate
  simp only
  rw [State.forHoist_gate, State.forHoist_gate] <;> simp

theorem State.reach_runGate (s : State) (g : GateId) (x v : Nat) : s.Reach (s.runGate g x v) :=
  (State.reach_forHoist _ _ _ _ fun _ a => .pushRun a _ _ .refl).trans
    (State.reach_forHoist _ _ _ _ fun _ a => .pushRun a _ _ .refl)

@[simp] theorem State.pauseHoist_gate (s : State) (g h : GateId) (side : Side) :
    (s.pauseHoist g side).gate h = s.gate h := State.forHoist_gate _ _ _ _ _ (by simp)

theorem State.reach_pauseHoist (s : State) (g : GateId) (side : Side) : s.Reach (s.pauseHoist g side) :=
  State.reach_forHoist _ _ _ _ fun _ a => .pushPause a .refl

@[simp] theorem State.resumeHoist_gate (s : State) (g h : GateId) (side : Side) :
    (s.resumeHoist g side).gate h = s.gate h := State.forHoist_gate _ _ _ _ _ (by simp)

theorem State.reach_resumeHoist (s : State) (g : GateId) (side : Side) : s.Reach (s.resumeHoist g side) :=
  State.reach_forHoist _ _ _ _ fun _ a => .pushResume a .refl

@[simp] theorem State.resumePaused_gate (s : State) (g h : GateId) (l : Leg) :
    (s.resumePaused g l).gate h = s.gate h := by
  unfold State.resumePaused; split <;> simp

theorem State.reach_resumePaused (s : State) (g : GateId) (l : Leg) : s.Reach (s.resumePaused g l) := by
  unfold State.resumePaused; split
  · exact s.reach_resumeHoist _ _
  · exact .refl

@[simp] theorem State.postHeld_gate (s : State) (g h : GateId) (r : HoldReason) :
    (s.postHeld g r).gate h = s.gate h := by simp [State.postHeld]

theorem State.reach_postHeld (s : State) (g : GateId) (r : HoldReason) : s.Reach (s.postHeld g r) := .post _ .refl

@[simp] theorem State.postArrived_gate (s : State) (g h : GateId) : (s.postArrived g).gate h = s.gate h := by
  unfold State.postArrived; split <;> simp

theorem State.reach_postArrived (s : State) (g : GateId) : s.Reach (s.postArrived g) := by
  unfold State.postArrived; split
  · exact .post _ .refl
  · exact .refl

/-- A decision posts at most one notice (R51). -/
theorem State.weigh_state (s : State) (g : GateId) (r : Request) :
    (s.weigh g r).2.2 = s ∨ ∃ n, (s.weigh g r).2.2 = s.post n := by
  unfold State.weigh
  simp only
  split
  · split
    · exact .inl rfl
    · exact .inr ⟨_, rfl⟩
  · exact .inl rfl

@[simp] theorem State.weigh_gate (s : State) (g h : GateId) (r : Request) :
    ((s.weigh g r).2.2).gate h = s.gate h := by
  obtain e | ⟨n, e⟩ := s.weigh_state g r <;> simp [e]

theorem State.reach_weigh (s : State) (g : GateId) (r : Request) : s.Reach (s.weigh g r).2.2 := by
  obtain e | ⟨n, e⟩ := s.weigh_state g r <;> rw [e]
  · exact .refl
  · exact .post _ .refl

end Sys2Proof.Machine
end

