-- ==== Sys2Proof/Laws/Sequencer.lean ====
section
/-! SUPPORT. Every transition of the Gate Sequencer and of the Motion Arbiter is a chain of primitive motion changes
(`State.Reach`), and leaves the gates that it is not about as they were where it is about one gate. -/

namespace Sys2Proof.Machine

/-! ### Changing a motion state at the end of a chain -/

/-- The motion state replaced after a chain that left the gate as it was. -/
theorem State.Reach.motion {s t : State} (h : s.Reach t) (g : GateId) (m : Motion) (e : t.gate g = s.gate g)
    (sound : (s.gate g).motion.holdSound → m.holdSound)
    (quiet : s.stopAsserted = true → (s.gate g).motion.request = none → m.request = none) :
    s.Reach (t.setMotion g m) :=
  .setMotion g m h (e ▸ sound) fun a => e ▸ quiet (h.stopAsserted ▸ a)

theorem State.reach_setMotion (s : State) (g : GateId) (m : Motion)
    (sound : (s.gate g).motion.holdSound → m.holdSound)
    (quiet : s.stopAsserted = true → (s.gate g).motion.request = none → m.request = none) :
    s.Reach (s.setMotion g m) := .setMotion g m .refl sound quiet

theorem State.reach_joinTail (s : State) (g : GateId) (r : Request)
    (quiet : s.stopAsserted = true → (s.gate g).motion.request ≠ none) : s.Reach (s.joinTail g r) :=
  .counts s.slotsInUse s.grantCounter (s.waiting ++ [g]) true
    (s.reach_setMotion g (.pending r) (fun _ => by trivial) fun a e => absurd e (quiet a))

theorem State.reach_joinHead (s : State) (g : GateId) (r : Request)
    (quiet : s.stopAsserted = true → (s.gate g).motion.request ≠ none) : s.Reach (s.joinHead g r) :=
  .counts s.slotsInUse s.grantCounter (g :: s.waiting) true
    (s.reach_setMotion g (.pending r) (fun _ => by trivial) fun a e => absurd e (quiet a))

theorem State.reach_leaveList (s : State) (g : GateId) (m : Motion)
    (sound : (s.gate g).motion.holdSound → m.holdSound)
    (quiet : s.stopAsserted = true → (s.gate g).motion.request = none → m.request = none) :
    s.Reach (s.leaveList g m) :=
  .counts s.slotsInUse s.grantCounter (s.waiting.filter fun h => h ≠ g) s.evalDue (s.reach_setMotion g m sound quiet)

/-! ### The excursion check -/

theorem State.reach_actOnExcursion (s : State) (g : GateId) (o c : Nat) : s.Reach (s.actOnExcursion g o c) := by
  unfold State.actOnExcursion
  split
  · rename_i h
    exact s.reach_joinTail _ _ fun a => by simp [a] at h
  · split
    · exact .refl
    · exact .setExcursion _ _ (.post _ .refl)

theorem State.reach_excursionCheck (s : State) (g : GateId) : s.Reach (s.excursionCheck g) := by
  unfold State.excursionCheck
  split
  · split
    · exact .setExcursion _ _ .refl
    · exact s.reach_actOnExcursion _ _ _
  · exact .refl

/-! ### Stopping and holding -/

theorem State.reach_enterStopping (s : State) (g : GateId) (next : NextStep) (l : Leg)
    (quiet : s.stopAsserted = true → (s.gate g).motion.request = none → next.request = none) :
    s.Reach (s.enterStopping g next l) :=
  (s.reach_haltGate g).motion g _ (by simp) (fun _ => by trivial) quiet

theorem State.reach_enterOutOfService (s : State) (g : GateId) (d : Option Target) :
    s.Reach (s.enterOutOfService g d) :=
  .setExcursion _ _ (s.reach_setMotion g _ (fun _ => by trivial) fun _ _ => rfl)

theorem State.reach_makeHold (s : State) (g : GateId) (r : HoldReason) (d : Option Target) :
    s.Reach (s.makeHold g r d) :=
  .post _ (s.reach_setMotion g _ (fun _ => ⟨List.nodup_nil, List.not_mem_nil⟩) fun _ _ => rfl)

theorem Hold.withReason_sound (h : Hold) (r : HoldReason) (d e : Option Target)
    (hs : (Motion.hold h d).holdSound) : (Motion.hold (h.withReason r) e).holdSound := by
  obtain ⟨nd, np⟩ := hs
  unfold Hold.withReason
  split
  · exact ⟨nd, np⟩
  · rename_i k
    rw [not_or] at k
    refine ⟨?_, ?_⟩
    · refine List.nodup_append.mpr ⟨nd, by simp, fun a ha b hb e => ?_⟩
      rw [List.mem_singleton] at hb
      exact k.2 (hb ▸ e ▸ ha)
    · simp only [List.mem_append, List.mem_singleton, not_or]
      exact ⟨np, fun e => k.1 e.symm⟩

theorem State.reach_fault (s : State) (g : GateId) (r : HoldReason) : s.Reach (s.fault g r) := by
  unfold State.fault
  split
  · exact .refl
  · exact s.reach_makeHold _ _ _
  · exact .post _ (s.reach_leaveList _ _ (fun _ => ⟨List.nodup_nil, List.not_mem_nil⟩) fun _ _ => rfl)
  · exact ((s.reach_haltGate g).trans (State.reach_makeHold _ _ _ _)).trans (State.reach_releaseSlot _)
  · exact ((s.reach_haltGate g).trans (State.reach_makeHold _ _ _ _)).trans (State.reach_releaseSlot _)
  · exact ((s.reach_haltGate g).trans (State.reach_makeHold _ _ _ _)).trans (State.reach_releaseSlot _)
  · rename_i h d e
    exact s.reach_setMotion _ _ (fun k => Hold.withReason_sound h r d d (e ▸ k)) fun _ _ => rfl

theorem State.reach_faultIfStale (s : State) (g : GateId) : s.Reach (s.faultIfStale g) := by
  have one (side : Side) (t : State) :
      t.Reach (if (t.gate g).stale side then t.fault g .stale else t) := by
    split
    · exact t.reach_fault _ _
    · exact .refl
  exact (one .left s).trans (one .right _)

/-! ### Legs -/

theorem State.reach_startLeg (s : State) (g : GateId) (r : Request) (p : Plan) (stamp : Nat)
    (quiet : s.stopAsserted = true → (s.gate g).motion.request ≠ none) : s.Reach (s.startLeg g r p stamp) :=
  (s.reach_runGate g _ _).motion g _ (by simp) (fun _ => by trivial) fun a e => absurd e (quiet a)

theorem State.reach_goOn (s : State) (g : GateId) (r : Request) (l : Leg) (window : Option Nat) (p : Plan)
    (quiet : s.stopAsserted = true → (s.gate g).motion.request ≠ none) : s.Reach (s.goOn g r l window p) := by
  have base := (s.reach_resumePaused g l).trans (State.reach_runGate _ g p.target p.speed)
  have same : ((s.resumePaused g l).runGate g p.target p.speed).gate g = s.gate g := by simp
  unfold State.goOn
  simp only
  split <;> exact base.motion g _ same (fun _ => by trivial) fun a e => absurd e (quiet a)

theorem movingWith_request (r : Request) (l : Leg) (window : Option Nat) :
    (movingWith r l window).request = some r := by
  cases window <;> rfl

theorem movingWith_holdSound (r : Request) (l : Leg) (window : Option Nat) : (movingWith r l window).holdSound := by
  cases window <;> trivial

theorem State.reach_retargetMoving (s : State) (g : GateId) (r : Request) (l : Leg) (window : Option Nat)
    (quiet : s.stopAsserted = true → (s.gate g).motion.request ≠ none) :
    s.Reach (s.retargetMoving g r l window) := by
  have base := s.reach_weigh g r
  have same : ((s.weigh g r).2.2).gate g = s.gate g := by simp
  have stops : ∀ next, (s.weigh g r).2.2.Reach ((s.weigh g r).2.2.enterStopping g next l) := fun next =>
    State.reach_enterStopping _ g next l fun a e => absurd (same ▸ e) (quiet (base.stopAsserted ▸ a))
  have stays : ∀ r', s.Reach ((s.weigh g r).2.2.setMotion g (movingWith r' l window)) := fun r' =>
    base.motion g _ same (fun _ => movingWith_holdSound r' l window) fun a e => absurd e (quiet a)
  unfold State.retargetMoving
  simp only
  split
  · exact base.trans (stops _)
  · exact base.trans (stops _)
  · exact stays _
  · split
    · split
      · exact stays _
      · exact base.trans (State.reach_goOn _ g _ l window _ fun a => same ▸ quiet (base.stopAsserted ▸ a))
    · exact base.trans (stops _)

theorem State.reach_retarget (s : State) (g : GateId) : s.Reach (s.retarget g) := by
  unfold State.retarget
  split
  · rename_i e
    exact s.reach_retargetMoving _ _ _ _ fun _ => by simp [e, Motion.request]
  · rename_i e
    exact s.reach_retargetMoving _ _ _ _ fun _ => by simp [e, Motion.request]
  · exact .refl

theorem State.reach_ceilingCheck (s : State) (g : GateId) : s.Reach (s.ceilingCheck g) := by
  unfold State.ceilingCheck
  split
  · exact s.reach_excursionCheck _
  · exact s.reach_retarget _
  · exact s.reach_retarget _
  · exact .refl

theorem State.reach_toIdle (s : State) (g : GateId) : s.Reach (s.setMotion g .idle) :=
  s.reach_setMotion _ _ (fun _ => by trivial) fun _ _ => rfl

theorem State.reach_enterIdle (s : State) (g : GateId) : s.Reach (s.enterIdle g) :=
  (s.reach_toIdle g).trans (State.reach_excursionCheck _ _)

theorem State.reach_arrive (s : State) (g : GateId) : s.Reach (s.arrive g) :=
  ((s.reach_toIdle g).trans (State.reach_postArrived _ _)).trans (State.reach_excursionCheck _ _)

theorem State.reach_legComplete (s : State) (g : GateId) (r : Request)
    (quiet : s.stopAsserted = true → (s.gate g).motion.request ≠ none) : s.Reach (s.legComplete g r) := by
  have base := s.reach_releaseSlot.trans (State.reach_weigh s.releaseSlot g r)
  unfold State.legComplete
  simp only
  split
  · exact base.trans (State.reach_arrive _ _)
  · exact base.trans (State.reach_joinTail _ _ _ fun a => by
      simpa using quiet (base.stopAsserted ▸ a))

theorem State.reach_stoppingEnd (s : State) (g : GateId) (next : NextStep) (l : Leg)
    (quiet : s.stopAsserted = true → next.request.isSome → (s.gate g).motion.request ≠ none) :
    s.Reach (s.stoppingEnd g next l) := by
  unfold State.stoppingEnd
  split
  · exact s.reach_releaseSlot.trans (State.reach_enterIdle _ _)
  · rename_i r
    have base := s.reach_weigh g r
    have q : (s.weigh g r).2.2.stopAsserted = true → ((s.weigh g r).2.2.gate g).motion.request ≠ none := fun a => by
      simpa using quiet (base.stopAsserted ▸ a) rfl
    simp only
    split
    · exact base.trans ((State.reach_startLeg _ _ _ _ _ q).trans (State.reach_owe _))
    · exact base.trans ((State.reach_releaseSlot _).trans (State.reach_arrive _ _))
    · exact base.trans ((State.reach_releaseSlot _).trans (State.reach_joinHead _ _ _ q))
  · rename_i r
    exact s.reach_releaseSlot.trans (State.reach_joinHead _ _ _ fun a => quiet a rfl)
  · exact s.reach_releaseSlot.trans (State.reach_enterOutOfService _ _ _)

/-! ### Requests -/

theorem State.reach_takeIntoIdle (s : State) (g : GateId) (target level : Nat) (o : Origin)
    (free : s.stopAsserted = false) : s.Reach (s.takeIntoIdle g target level o) := by
  have join : s.Reach (s.joinTail g (.fresh target level o)) := s.reach_joinTail _ _ fun a => by simp [free] at a
  unfold State.takeIntoIdle
  split
  · split
    · exact .post _ .refl
    · exact join
  · exact join

theorem State.reach_applyTarget (s : State) (g : GateId) (target level : Nat) (o : Origin)
    (free : s.stopAsserted = false) : s.Reach (s.applyTarget g target level o) := by
  have q {p : Prop} : s.stopAsserted = true → p := fun a => by simp [free] at a
  unfold State.applyTarget
  simp only
  split
  · exact s.reach_setMotion _ _ (fun _ => by trivial) q
  · exact s.reach_takeIntoIdle _ _ _ _ free
  · exact (s.reach_setMotion _ _ (fun _ => by trivial) q).trans (State.reach_owe _)
  · exact s.reach_retargetMoving _ _ _ _ q
  · exact s.reach_retargetMoving _ _ _ _ q
  · exact s.reach_setMotion _ _ (fun _ => by trivial) q
  · exact s.reach_setMotion _ _ (fun _ => by trivial) q
  · exact s.reach_setMotion _ _ (fun _ => by trivial) q
  · exact s.reach_setMotion _ _ (fun _ => by trivial) q
  · rename_i e
    exact s.reach_setMotion _ _ (fun k => by rw [e] at k; exact k) q

theorem State.reach_stopGate (s : State) (g : GateId) : s.Reach (s.stopGate g) := by
  unfold State.stopGate
  split
  · exact s.reach_setMotion _ _ (fun _ => by trivial) fun _ _ => rfl
  · exact .refl
  · exact (s.reach_leaveList _ _ (fun _ => by trivial) fun _ _ => rfl).trans (State.reach_excursionCheck _ _)
  · exact s.reach_enterStopping _ _ _ fun _ _ => rfl
  · exact s.reach_enterStopping _ _ _ fun _ _ => rfl
  · exact s.reach_setMotion _ _ (fun _ => by trivial) fun _ _ => rfl
  · exact s.reach_setMotion _ _ (fun _ => by trivial) fun _ _ => rfl
  · rename_i e
    exact s.reach_setMotion _ _ (fun k => by rw [e] at k; exact k) fun _ _ => rfl

theorem State.reach_quellGate (s : State) (g : GateId) : s.Reach (s.quellGate g) := by
  unfold State.quellGate
  split
  · exact s.reach_leaveList _ _ (fun _ => by trivial) fun _ _ => rfl
  · exact s.reach_enterStopping _ _ _ fun _ _ => rfl
  · exact s.reach_enterStopping _ _ _ fun _ _ => rfl
  · exact s.reach_setMotion _ _ (fun _ => by trivial) fun _ _ => rfl
  · exact s.reach_setMotion _ _ (fun _ => by trivial) fun _ _ => rfl
  · exact .refl

theorem State.reach_sweep (s : State) (gs : List GateId) (act : State → GateId → State)
    (h : ∀ (t : State) g, t.Reach (act t g)) : s.Reach (s.sweep gs act) := by
  unfold State.sweep
  induction gs generalizing s with
  | nil => exact .refl
  | cons g gs ih => exact (h s g).trans (ih _)

/-! ### Leaving HOLD -/

theorem State.reach_useDeferred (s : State) (g : GateId) (d : Option Target) : s.Reach (s.useDeferred g d) := by
  unfold State.useDeferred
  split
  · exact .refl
  · split
    · exact .refl
    · rename_i h
      exact s.reach_takeIntoIdle _ _ _ _ (by simpa using h)

theorem State.reach_leaveHold (s : State) (g : GateId) (d : Option Target) (by_ : ClearedBy) :
    s.Reach (s.leaveHold g d by_) := by
  have posted : s.Reach (s.post (.holdCleared g by_)) := .post _ .refl
  unfold State.leaveHold
  simp only
  split
  · exact posted.trans (((State.reach_toIdle _ g).trans (State.reach_useDeferred _ _ _)).trans
      (State.reach_excursionCheck _ _))
  · exact posted.trans (State.reach_enterOutOfService _ _ _)

theorem State.reach_staleClearing (s : State) (g : GateId) : s.Reach (s.staleClearing g) := by
  unfold State.staleClearing
  split
  · rename_i h d e
    split
    · simp only
      split
      · split
        · rename_i p next rest f
          refine (s.reach_setMotion _ _ (fun k => ?_) fun _ _ => rfl).trans (State.reach_postHeld _ _ _)
          rw [e] at k
          have nd : (next :: rest).Nodup := f ▸ k.1.filter _
          exact ⟨(List.nodup_cons.mp nd).2, (List.nodup_cons.mp nd).1⟩
        · exact s.reach_leaveHold _ _ _
      · refine s.reach_setMotion _ _ (fun k => ?_) fun _ _ => rfl
        rw [e] at k
        exact ⟨k.1.filter _, fun m => k.2 (List.mem_of_mem_filter m)⟩
    · exact .refl
  · exact .refl

end Sys2Proof.Machine
end

