-- ==== Sys2Proof/Laws/Arbiter.lean ====
section
/-! SUPPORT. Grant evaluations, the events that cause them, and the hoist exchange are chains of primitive motion changes
(`State.Reach`). -/

namespace Sys2Proof.Machine

theorem State.Reach.free {s t : State} (h : s.Reach t) (free : s.stopAsserted = false) : t.stopAsserted = false := by
  rw [h.stopAsserted, free]

/-! ### Marking and grants -/

theorem State.reach_markOne (s : State) (g : GateId) : s.Reach (s.markOne g) := by
  unfold State.markOne
  split
  · rename_i e
    exact s.reach_setMotion _ _ (fun _ => by trivial) fun _ k => by simp [e, Motion.request] at k
  · exact .refl

theorem State.reach_markMasked (s : State) : s.Reach s.markMasked := s.reach_sweep _ _ State.reach_markOne

theorem Motion.restamped_request (m : Motion) (f : Nat → Nat) : (m.restamped f).request = m.request := by
  cases m <;> rfl

theorem Motion.restamped_holdSound (m : Motion) (f : Nat → Nat) (h : m.holdSound) : (m.restamped f).holdSound := by
  cases m <;> exact h

theorem State.reach_renumber (s : State) : s.Reach s.renumber := by
  have sweeps := s.reach_sweep allGates
    (fun t g => t.setMotion g ((t.gate g).motion.restamped
      fun x => (s.heldStamps.filter fun y => y < x).length + 1))
    fun t g => t.reach_setMotion _ _ (Motion.restamped_holdSound _ _) fun _ k => by rw [Motion.restamped_request, k]
  exact .counts _ _ _ _ sweeps

theorem State.reach_readyCounter (s : State) : s.Reach s.readyCounter := by
  unfold State.readyCounter
  split
  · exact .refl
  · exact s.reach_renumber

theorem State.reach_grant (s : State) (g : GateId) (r : Request) (p : Plan) (free : s.stopAsserted = false) :
    s.Reach (s.grant g r p) := by
  have ready := s.reach_readyCounter
  have counted : s.Reach { s.readyCounter with
      waiting := s.readyCounter.waiting.filter fun h => h ≠ g
      slotsInUse := s.readyCounter.slotsInUse + 1
      grantCounter := s.readyCounter.grantCounter + 1 } := .counts _ _ _ _ ready
  exact (counted.trans (State.reach_startLeg _ g r p _ fun a =>
    absurd (a.symm.trans (counted.free free)) (by decide))).trans (State.reach_faultIfStale _ g)

theorem State.reach_completePending (s : State) (g : GateId) : s.Reach (s.completePending g) :=
  ((s.reach_leaveList g .idle (fun _ => by trivial) fun _ _ => rfl).trans (State.reach_postArrived _ _)).trans
    (State.reach_excursionCheck _ _)

/-! ### The walk and the preemption test -/

theorem State.reach_weighInWalk (s : State) (g : GateId) (free : s.stopAsserted = false) :
    s.Reach (s.weighInWalk g) := by
  unfold State.weighInWalk
  split
  · rename_i r e
    have base := s.reach_weigh g r
    split
    · rename_i h; rw [h] at base
      exact base.trans (State.reach_grant _ _ _ _ (base.free free))
    · rename_i h; rw [h] at base
      exact base.trans (State.reach_completePending _ _)
    · rename_i h; rw [h] at base
      exact base.trans (State.reach_setMotion _ _ _ (fun _ => by trivial) fun a =>
        absurd (a.symm.trans (base.free free)) (by decide))
  · exact .refl

theorem State.reach_walk (s : State) (gs : List GateId) (free : s.stopAsserted = false) : s.Reach (s.walk gs).1 := by
  induction gs generalizing s with
  | nil => exact .refl
  | cons g gs ih =>
    unfold State.walk
    split
    · have h := s.reach_weighInWalk g free
      exact h.trans (ih _ (h.free free))
    · exact .refl

theorem State.reach_weighForPreemption (s : State) (g : GateId) (free : s.stopAsserted = false) :
    s.Reach (s.weighForPreemption g).1 := by
  unfold State.weighForPreemption
  split
  · rename_i r e
    have base := s.reach_weigh g r
    split
    · rename_i h; rw [h] at base
      exact base.trans (State.reach_setMotion _ _ _ (fun _ => by trivial) fun a =>
        absurd (a.symm.trans (base.free free)) (by decide))
    · rename_i h; rw [h] at base
      exact base.trans (State.reach_completePending _ _)
    · rename_i h; rw [h] at base
      exact base.trans (State.reach_setMotion _ _ _ (fun _ => by trivial) fun a =>
        absurd (a.symm.trans (base.free free)) (by decide))
  · exact .refl

theorem State.reach_movable (s : State) (gs : List GateId) (free : s.stopAsserted = false) :
    s.Reach (s.movable gs).1 := by
  induction gs generalizing s with
  | nil => exact .refl
  | cons g gs ih =>
    have h := s.reach_weighForPreemption g free
    exact h.trans (ih _ (h.free free))

theorem State.reach_preempt (s : State) (v b : GateId) : s.Reach (s.preempt v b) := by
  unfold State.preempt
  simp only
  split
  · rename_i e
    exact .post _ (s.reach_enterStopping _ _ _ fun _ k => by simp [e, Motion.request] at k)
  · rename_i e
    exact .post _ (s.reach_enterStopping _ _ _ fun _ k => by simp [e, Motion.request] at k)
  · exact .post _ .refl

theorem State.reach_preemptFor (s : State) (bs : List GateId) : s.Reach (s.preemptFor bs) := by
  induction bs generalizing s with
  | nil => exact .refl
  | cons b bs ih =>
    unfold State.preemptFor
    split
    · exact .refl
    · exact (s.reach_preempt _ _).trans (ih _)

theorem State.reach_preemptionTest (s : State) (gs : List GateId) (free : s.stopAsserted = false) :
    s.Reach (s.preemptionTest gs) :=
  (s.reach_movable _ free).trans (State.reach_preemptFor _ _)

/-! ### Evaluations and events -/

theorem State.reach_evaluate (s : State) : s.Reach s.evaluate := by
  have marked : s.Reach { s with evalDue := false }.markMasked :=
    (State.Reach.counts s.slotsInUse s.grantCounter s.waiting false .refl).trans (State.reach_markMasked _)
  unfold State.evaluate
  simp only
  split
  · exact marked
  · rename_i h
    have free := Bool.eq_false_iff.mpr h
    have walked := State.reach_walk _ { s with evalDue := false }.markMasked.walkOrder free
    split
    · exact marked.trans walked
    · exact (marked.trans walked).trans (State.reach_preemptionTest _ _ (walked.free free))

theorem State.reach_evaluateDue (n : Nat) (s : State) : s.Reach (State.evaluateDue n s) := by
  induction n generalizing s with
  | zero => exact .counts s.slotsInUse s.grantCounter s.waiting false .refl
  | succ n ih =>
    unfold State.evaluateDue
    split
    · exact s.reach_evaluate.trans (ih _)
    · exact .refl

theorem State.reach_settle (s : State) : s.Reach s.settle := State.reach_evaluateDue _ _

theorem State.reach_evaluateNow (s : State) : s.Reach s.evaluateNow := s.reach_owe.trans (State.reach_settle _)

theorem State.reach_checkExcursionOf (s : State) (g : GateId) : s.Reach (s.checkExcursionOf g) :=
  (s.reach_excursionCheck g).trans (State.reach_settle _)

theorem State.reach_quell (s : State) : s.Reach s.quell :=
  (s.reach_sweep _ _ State.reach_quellGate).trans (State.reach_sweep _ _ _ State.reach_checkExcursionOf)

theorem State.reach_tellNeighbours (s : State) (g : GateId) : s.Reach (s.tellNeighbours g) :=
  s.reach_sweep _ _ State.reach_retarget

theorem State.reach_openingChanged (s : State) (g : GateId) : s.Reach (s.openingChanged g) := by
  have told := (s.reach_excursionCheck g).trans (State.reach_tellNeighbours _ g)
  unfold State.openingChanged
  simp only
  split
  · exact (told.trans (State.reach_owe _)).trans (State.reach_settle _)
  · exact told.trans (State.reach_settle _)

/-! ### The hoist exchange -/

theorem Motion.evidence_request (m : Motion) (h : Handshake) (side : Side) (st : HoistState) :
    (m.evidence h side st).request = m.request := by
  cases m <;> cases h <;> cases st <;> rfl

theorem Motion.evidence_holdSound (m : Motion) (h : Handshake) (side : Side) (st : HoistState) (k : m.holdSound) :
    (m.evidence h side st).holdSound := by
  cases m <;> cases h <;> cases st <;> exact k

theorem State.reach_takeEvidence (s : State) (g : GateId) (side : Side) (st : HoistState) :
    s.Reach (s.takeEvidence g side st) :=
  s.reach_setMotion _ _ (Motion.evidence_holdSound _ _ _ _) fun _ k => by rw [Motion.evidence_request, k]

theorem State.reach_faultCheck (s : State) (g : GateId) (st : HoistState) : s.Reach (s.faultCheck g st) := by
  unfold State.faultCheck
  split
  · exact (s.reach_fault _ _).trans (State.reach_settle _)
  · exact .refl

theorem State.reach_tripCheck (s : State) (g : GateId) : s.Reach (s.tripCheck g) := by
  unfold State.tripCheck
  split
  · exact (s.reach_fault _ _).trans (State.reach_settle _)
  · exact .refl

theorem State.reach_enterTravelling (s : State) (g : GateId) (r : Request) (l : Leg)
    (quiet : s.stopAsserted = true → (s.gate g).motion.request ≠ none) : s.Reach (s.enterTravelling g r l) :=
  s.reach_setMotion _ _ (fun _ => by trivial) fun a e => absurd e (quiet a)

theorem State.reach_startCheck (s : State) (g : GateId) : s.Reach (s.startCheck g) := by
  unfold State.startCheck
  split
  · rename_i e
    split
    · exact s.reach_enterTravelling _ _ _ fun _ => by simp [e, Motion.request]
    · exact .refl
  · exact .refl

theorem State.reach_restCheck (s : State) (g : GateId) : s.Reach (s.restCheck g) := by
  unfold State.restCheck
  split
  · rename_i r l e
    split
    · refine State.Reach.trans ?_ (State.reach_settle _)
      split
      · exact s.reach_legComplete _ _ fun _ => by simp [e, Motion.request]
      · exact s.reach_fault _ _
    · exact .refl
  · rename_i n l w e
    split
    · exact (s.reach_stoppingEnd _ _ _ fun _ k => by
        rw [e]; exact Option.isSome_iff_ne_none.mp k).trans (State.reach_settle _)
    · exact .refl
  · exact .refl

theorem State.reach_trimCheck (s : State) (g : GateId) : s.Reach (s.trimCheck g) := by
  unfold State.trimCheck
  split
  · rename_i r l e
    have q {p : Prop} : s.stopAsserted = true → (s.gate g).motion.request = none → p :=
      fun _ k => by simp [e, Motion.request] at k
    simp only
    split
    · split
      · split
        · exact (s.reach_pauseHoist _ _).motion g _ (by simp) (fun _ => by trivial) q
        · exact .refl
      · exact .refl
    · split
      · exact (s.reach_resumeHoist _ _).motion g _ (by simp) (fun _ => by trivial) q
      · exact .refl
  · exact .refl

theorem State.reach_sampleChecks (s : State) (g : GateId) (side : Side) (st : HoistState) :
    s.Reach (s.sampleChecks g side st) :=
  ((((((s.reach_takeEvidence g side st).trans (State.reach_faultCheck _ _ _)).trans
    (State.reach_tripCheck _ _)).trans ((State.reach_staleClearing _ _).trans (State.reach_settle _))).trans
    (State.reach_startCheck _ _)).trans (State.reach_restCheck _ _)).trans (State.reach_trimCheck _ _)

theorem State.reach_ackOfRun (s : State) (g : GateId) (side : Side) : s.Reach (s.ackOfRun g side) := by
  unfold State.ackOfRun
  split
  · rename_i e
    have q {p : Prop} : s.stopAsserted = true → (s.gate g).motion.request = none → p :=
      fun _ k => by simp [e, Motion.request] at k
    split
    · simp only
      split
      · exact s.reach_enterTravelling _ _ _ fun a k => q a k
      · exact s.reach_setMotion _ _ (fun _ => by trivial) q
    · exact .refl
  · exact .refl

theorem State.reach_takeAck (s : State) (g : GateId) (side : Side) (p : List Byte) : s.Reach (s.takeAck g side p) := by
  unfold State.takeAck
  split
  · exact s.reach_ackOfRun _ _
  · exact .refl

/-! ### Expiries -/

theorem State.reach_hoistGoesStale (s : State) (g : GateId) (side : Side) : s.Reach (s.hoistGoesStale g side) := by
  unfold State.hoistGoesStale
  split
  · exact (s.reach_fault _ _).trans (State.reach_settle _)
  · exact .refl

theorem State.reach_ackWindowEnds (s : State) (g : GateId) : s.Reach (s.ackWindowEnds g) := by
  unfold State.ackWindowEnds
  split
  · exact (s.reach_fault _ _).trans (State.reach_settle _)
  · exact .refl

theorem State.reach_deadlineEnds (s : State) (g : GateId) : s.Reach (s.deadlineEnds g) := by
  unfold State.deadlineEnds
  split
  · split
    · exact (s.reach_fault _ _).trans (State.reach_settle _)
    · exact .refl
  · exact .refl

theorem State.reach_haltWindowEnds (s : State) (g : GateId) : s.Reach (s.haltWindowEnds g) := by
  unfold State.haltWindowEnds
  split
  · exact (s.reach_fault _ _).trans (State.reach_settle _)
  · exact .refl

end Sys2Proof.Machine
end

