-- ==== Sys2Proof/Laws/Checks.lean ====
section
/-! SUPPORT. What the checks of a TABLE WRITE answer (R36, R162, R165): said once, so that no proof unfolds their recursions. -/

namespace Sys2Proof.Machine

/-- Which index `firstFailing` answers: the first whose check is false (R165). -/
theorem firstFailing_eq_some (l : List Bool) (i : Nat) :
    firstFailing l = some i ↔ FirstAt (fun i => 1 ≤ i ∧ l[i-1]? = some false) i := by
  induction l generalizing i with
  | nil => simp [firstFailing, FirstAt]
  | cons b l ih =>
    cases b
    · simp only [firstFailing, Option.some.injEq]
      constructor
      · rintro rfl; refine ⟨by simp, fun j hj h => by omega⟩
      · rintro ⟨⟨h1, h2⟩, h3⟩
        by_contra hne
        exact h3 1 (by omega) (by simp)
    · simp only [firstFailing, Option.map_eq_some_iff, ih]
      constructor
      · rintro ⟨a, ⟨⟨h1, h2⟩, h3⟩, rfl⟩
        refine ⟨⟨by omega, ?_⟩, ?_⟩
        · obtain ⟨a, rfl⟩ : ∃ b, a = b + 1 := ⟨a-1, by omega⟩
          simpa using h2
        · rintro j hj ⟨j1, j2⟩
          rcases j with _ | _ | j
          · omega
          · simp at j2
          · exact h3 (j+1) (by omega) ⟨by omega, by simpa using j2⟩
      · rintro ⟨⟨h1, h2⟩, h3⟩
        rcases i with _ | _ | i
        · omega
        · simp at h2
        · refine ⟨i+1, ⟨⟨by omega, by simpa using h2⟩, ?_⟩, rfl⟩
          rintro j hj ⟨j1, j2⟩
          obtain ⟨k, rfl⟩ : ∃ b, j = b + 1 := ⟨j-1, by omega⟩
          exact h3 (k+2) (by omega) ⟨by omega, by simpa using j2⟩

/-- A curve part has as many breakpoints as are asked of it (R162). -/
@[simp] theorem rawPoints_length (r : List Byte) (off n : Nat) : (rawPoints r off n).length = n := by
  induction n generalizing off with
  | zero => rfl
  | succ n ih => simp [rawPoints, ih]

/-- Where breakpoint j of a curve part stands in its bytes (R162). -/
theorem rawPoints_getElem (r : List Byte) (off n j : Nat) (h : j < (rawPoints r off n).length) :
    (rawPoints r off n)[j] = (s16At r (off + 4 * j), u16At r (off + 4 * j + 2)) := by
  induction n generalizing off j with
  | zero => simp [rawPoints] at h
  | succ n ih =>
    rcases j with _ | j
    · simp [rawPoints]
    · simp only [rawPoints, List.getElem_cons_succ]
      rw [ih]
      congr 2 <;> omega

/-- Which of the checks of breakpoints fail: of the j-th, from 0, the head at place 2j and the ceiling at 2j + 1 (R36). -/
theorem pointChecks_fails (b : Option Int) (ps : List (Int × Nat)) (i : Nat) :
    (pointChecks b ps)[i]? = some false ↔ ∃ j, ∃ h : j < ps.length,
      (i = 2 * j ∧ (beyond (-3000) 30000 ps[j].1 ∨ (∃ h0 : 0 < j, ps[j].1 ≤ (ps[j-1]'(by omega)).1) ∨
        (j = 0 ∧ ∃ q, b = some q ∧ ps[j].1 ≤ q))) ∨
      (i = 2 * j + 1 ∧ 16000 < ps[j].2) := by
  induction ps generalizing b i with
  | nil => simp [pointChecks]
  | cons p ps ih =>
    obtain ⟨h, c⟩ := p
    simp only [pointChecks]
    match i with
    | 0 =>
      simp [beyond, withinInt]
      cases b <;> simp <;> omega
    | 1 =>
      simp [beyond, within]
      constructor
      · intro q; exact ⟨0, by omega, .inr ⟨rfl, by simpa using q⟩⟩
      · rintro ⟨j, hj, ⟨q, _⟩ | ⟨q, q2⟩⟩
        · omega
        · have : j = 0 := by omega
          subst this; simpa using q2
    | i + 2 =>
      simp only [List.getElem?_cons_succ, ih]
      constructor
      · rintro ⟨j, hj, q⟩
        refine ⟨j+1, by simp; omega, ?_⟩
        rcases q with ⟨rfl, q⟩ | ⟨rfl, q⟩
        · left
          refine ⟨by omega, ?_⟩
          rcases q with q | ⟨h0, q⟩ | ⟨rfl, w, q, q2⟩
          · exact .inl (by simpa using q)
          · right; left
            refine ⟨by omega, ?_⟩
            obtain ⟨k, rfl⟩ : ∃ k, j = k+1 := ⟨j-1, by omega⟩
            simpa using q
          · right; left; refine ⟨by omega, ?_⟩
            simp at q; subst q; simpa using q2
        · right; exact ⟨by omega, by simpa using q⟩
      · rintro ⟨j, hj, q⟩
        rcases j with _ | j
        · simp at q
        · simp at hj
          refine ⟨j, by omega, ?_⟩
          rcases q with ⟨e, q⟩ | ⟨e, q⟩
          · left; refine ⟨by omega, ?_⟩
            rcases q with q | ⟨h0, q⟩ | ⟨z, _⟩
            · exact .inl (by simpa using q)
            · rcases j with _ | j
              · right; right; exact ⟨rfl, h, rfl, by simpa using q⟩
              · right; left; exact ⟨by omega, by simpa using q⟩
            · omega
          · right; exact ⟨by omega, by simpa using q⟩

/-- A check of a record's fields refuses with INVALID and the first failing index (R165). -/
theorem fieldCheck_eq_some (l : List Bool) (result : Result) (detail : Nat) :
    fieldCheck l = some (result, detail) ↔ result = .invalid ∧ FirstAt (fun i => 1 ≤ i ∧ l[i - 1]? = some false) detail := by
  rw [← firstFailing_eq_some]
  simp only [fieldCheck, Option.map_eq_some_iff, Prod.mk.injEq]
  constructor
  · rintro ⟨a, h, rfl, rfl⟩; exact ⟨rfl, h⟩
  · rintro ⟨rfl, h⟩; exact ⟨detail, h, rfl, rfl⟩

/-- A conditional write with another generation is refused GENERATION with detail 0 (R165, R166). -/
theorem generationCheck_eq_some (conditional : Bool) (expected gen : CountWord) (result : Result) (detail : Nat) :
    generationCheck conditional expected gen = some (result, detail) ↔
      (conditional = true ∧ expected ≠ gen) ∧ result = .generation ∧ detail = 0 := by
  unfold generationCheck
  split <;> rename_i h <;> simp [h, eq_comm]

end Sys2Proof.Machine
end

