-- ==== Sys2Proof/Laws/PerInstr.lean ====
section
/-! SUPPORT. Statements about every command as syntax, one lemma per constructor. -/

namespace Sys2Proof.Laws.FrameOperands

/-- A command that takes its operands from a frame has none of its own that could be ill formed (log 3). -/
def Statement (i : Instr) : Prop := i.takesFrom ≠ none → i.wellFormed = true

theorem coldReset (a : BitVec 6) (b : Bool) (c : Bool) : Statement (.coldReset a b c) := fun _ => rfl
theorem stopNAssertion : Statement (.stopNAssertion) := fun _ => rfl
theorem stopNRelease : Statement (.stopNRelease) := fun _ => rfl
theorem frameCheck (a : Port) (b : List Byte) : Statement (.frameCheck a b) := fun h => absurd rfl h
theorem receiveGapAbandon (a : Port) : Statement (.receiveGapAbandon a) := fun _ => rfl
theorem stationFrameSort : Statement (.stationFrameSort) := fun _ => rfl
theorem fieldFrameSort : Statement (.fieldFrameSort) := fun _ => rfl
theorem position : Statement (.position) := fun _ => rfl
theorem ack : Statement (.ack) := fun _ => rfl
theorem level : Statement (.level) := fun _ => rfl
theorem move : Statement (.move) := fun _ => rfl
theorem stop : Statement (.stop) := fun _ => rfl
theorem groupSet : Statement (.groupSet) := fun _ => rfl
theorem groupStop : Statement (.groupStop) := fun _ => rfl
theorem clearHold : Statement (.clearHold) := fun _ => rfl
theorem tableRead : Statement (.tableRead) := fun _ => rfl
theorem tableWriteGate : Statement (.tableWriteGate) := fun _ => rfl
theorem tableWriteCurveFirstPart : Statement (.tableWriteCurveFirstPart) := fun _ => rfl
theorem tableWriteCurveSecondPart : Statement (.tableWriteCurveSecondPart) := fun _ => rfl
theorem tableWriteGauge : Statement (.tableWriteGauge) := fun _ => rfl
theorem tableWriteRoute : Statement (.tableWriteRoute) := fun _ => rfl
theorem tableWriteSettings : Statement (.tableWriteSettings) := fun _ => rfl
theorem statusRead : Statement (.statusRead) := fun _ => rfl
theorem counterSnapshot : Statement (.counterSnapshot) := fun _ => rfl
theorem misrouteRead : Statement (.misrouteRead) := fun _ => rfl
theorem timeSet : Statement (.timeSet) := fun _ => rfl
theorem restart : Statement (.restart) := fun _ => rfl
theorem spTransmit : Statement (.spTransmit) := fun _ => rfl
theorem fpTransmit : Statement (.fpTransmit) := fun _ => rfl
theorem hoistStale (a : GateId) (b : Side) : Statement (.hoistStale a b) := fun _ => rfl
theorem gaugeStale (a : GaugeId) : Statement (.gaugeStale a) := fun _ => rfl
theorem ackWindowExpiry (a : GateId) : Statement (.ackWindowExpiry a) := fun _ => rfl
theorem deadlineExpiry (a : GateId) : Statement (.deadlineExpiry a) := fun _ => rfl
theorem haltWindowExpiry (a : GateId) : Statement (.haltWindowExpiry a) := fun _ => rfl
theorem silenceExpiry : Statement (.silenceExpiry) := fun _ => rfl
theorem candidateSync (a : Port) : Statement (.candidateSync a) := fun _ => rfl
theorem lengthOver48 (a : Port) (b : Byte) : Statement (.lengthOver48 a b) := fun h => absurd rfl h
theorem groupInvalidAction : Statement (.groupInvalidAction) := fun _ => rfl

end Sys2Proof.Laws.FrameOperands
end

