-- ==== Sys2Proof/Tests/Slice0.lean ====
section
/-! SUPPORT. Tests of one step each, their expected values from the spec's worked examples and tables or by hand from its
rules, and for every statement of Certificates/Slice0/Obligations.lean with hypotheses a state and operands that meet them
(`meets_<statement>`). -/

set_option maxRecDepth 100000

open Sys2Proof Sys2Proof.Machine

namespace Sys2Proof.Tests

/-! ### A small barrage: the gates of 03, 3.5.1 -/

/-- The state that an outcome leads to. -/
def after (o : Host.Outcome State Fault Refusal) : State :=
  match o with
  | .next t => t
  | .fault f => nomatch f
  | .refused _ => State.reset

/-- Curve 0 of the worked ceilings (03, 3.2). -/
def curve0 : List Breakpoint :=
  [{ head := -500, ceiling := 12000 }, { head := 500, ceiling := 9000 }, { head := 1200, ceiling := 6500 },
   { head := 3000, ceiling := 2000 }, { head := 6000, ceiling := 0 }]

/-- A cold record put in service with two hoists. -/
def served (left right : LinkAddr) : GateRecord :=
  { GateRecord.cold with inService := true, leftHoist := some left, rightHoist := some right }

/-- The record of gate 4 (03, 3.5.1). -/
def gate4 : GateRecord :=
  { served 9 10 with leftOffset := 12, rightOffset := -7, spread := 800, linkLeft := true, linkRight := true }

/-- A sample that stands at a corrected position. -/
def sampleAt (r : GateRecord) (side : Side) (corrected age : Nat) : Sample where
  raw := ((corrected : Int) - r.offset side).toNat
  corrected := corrected
  state := .atRest
  faultCode := none
  stamp := 0
  age := age

/-- A gate with both hoists at one opening. -/
def standing (r : GateRecord) (m : Motion) (opening age : Nat) : Gate where
  record := r
  generation := 0
  motion := m
  left := some (sampleAt r .left opening age)
  right := some (sampleAt r .right opening age)
  ceiling := some 7571
  excursionReported := false

/-- A bound or OTHER route entry. -/
def entry (role : Role) (b : Option Binding) (down : PassDown) (up : PassUp) : RouteEntry where
  role := role
  binding := b
  passDown := down
  passUp := up
  generation := 0

/-- An enabled gauge with a good value. -/
def gaugeAt (b : Bank) (a : LinkAddr) (v : Int) (age : Nat) : Gauge where
  record := { GaugeRecord.cold with enabled := true, bank := b, address := some a }
  generation := 0
  value := some v
  age := age

/-- Routes, curve 0, two gauges and a forward head of 900. -/
def wired (gaugeAge : Nat) : State :=
  let bind (s : State) (a : LinkAddr) (g : GateId) (side : Side) : State :=
    s.setRoute a (entry .hoist (some (.hoist g side)) .drop .forward)
  let s := bind (bind (bind State.reset 7 3 .left) 8 3 .right) 9 4 .left
  let s := bind (bind (bind s 10 4 .right) 11 5 .left) 12 5 .right
  let s := s.setRoute 40 (entry .gauge (some (.gauge 0)) .drop .forward)
  let s := s.setRoute 42 (entry .gauge (some (.gauge 2)) .drop .consume)
  let s := s.setRoute 50 (entry .other none .forward .forward)
  let s := s.setRoute 51 (entry .other none .drop .consume)
  let s := (s.setGauge 0 (gaugeAt .upstream 40 1900 gaugeAge)).setGauge 2 (gaugeAt .downstream 42 1000 0)
  { s with
    curves := s.curves.set 0 { points := curve0, generation := 0 }
    upstream := { value := some { hi := 1900, lo := 1900 }, disagree := false }
    downstream := { value := some { hi := 1000, lo := 1000 }, disagree := false }
    head := some { fwd := 900, rev := -900 }
    mode := .curve }

/-- Gate 4 in a motion state, at an opening and a sample age, between gate 3 at 1500 and gate 5 at 3100, both IDLE. -/
def barrage (m : Motion) (opening : Nat := 2000) (age : Nat := 0) (gaugeAge : Nat := 0) : State :=
  { (((wired gaugeAge).setGate 3 (standing (served 7 8) .idle 1500 0)).setGate 5
      (standing (served 11 12) .idle 3100 0)).setGate 4 (standing gate4 m opening age) with
    slotsInUse := if m.holdsSlot then 1 else 0
    grantCounter := if m.holdsSlot then 1 else 0
    waiting := if m.isPending then [4] else [] }

/-- The request of 03, 3.5.1: target 4000 at level 4. -/
def req4 : Request := { target := 4000, level := 4, origin := .station, clampReported := false, waitReason := .none }

/-- The leg of 03, 3.5.1: up to 2300. -/
def leg4 : Leg where
  target := 2300
  direction := .raise
  speed := 300
  deadline := 70000
  acks := .empty
  paused := none
  stamp := 1

/-- A deferred or carried target. -/
def kept4 : Target := { target := 3000, level := 4 }

/-- A hold for a reason. -/
def holdFor (reason : HoldReason) : Motion := .hold { primary := reason, further := [] } none

/-- A frame at the head of the SP receive buffer. -/
def fromStation (dst src : Nat) (kind : Byte) (payload : List Byte) : RxFrame :=
  { frame := { dst := byte dst, src := byte src, kind := kind, payload := payload }, stamp := 5 }

/-- A request waits at the part, whose own address is 63. -/
def asked (s : State) (kind : Byte) (payload : List Byte) : State := { s with spRx := [fromStation 63 0 kind payload] }

/-- A station frame to another address waits. -/
def sentTo (s : State) (dst src : Nat) (kind : Byte) : State := { s with spRx := [fromStation dst src kind []] }

/-- A field frame. -/
def fromField (src dst : Nat) (kind : Byte) (payload : List Byte) : RxFrame :=
  { frame := { dst := byte dst, src := byte src, kind := kind, payload := payload }, stamp := 5 }

/-- A field frame waits. -/
def heard (s : State) (src dst : Nat) (kind : Byte) (payload : List Byte) : State :=
  { s with fpRx := [fromField src dst kind payload] }

/-- A state in which a frame waits agrees with the one without it in everything but that receive buffer, so a witness shows
of the plain state what holds of both: gates, records, routes and the judgement of a write. -/
theorem waiting_agrees (s : State) (dst src : Nat) (kind : Byte) (p : List Byte) :
    asked s kind p = { s with spRx := [fromStation 63 0 kind p] } ∧
    heard s src dst kind p = { s with fpRx := [fromField src dst kind p] } ∧
    (asked s kind p).gate = s.gate ∧ (heard s src dst kind p).gate = s.gate ∧ (asked s kind p).route = s.route ∧
    (asked s kind p).judgeGate = s.judgeGate ∧ (asked s kind p).judgeFirstPart = s.judgeFirstPart ∧
    (asked s kind p).judgeSecondPart = s.judgeSecondPart ∧ (asked s kind p).judgeGauge = s.judgeGauge ∧
    (asked s kind p).judgeRoute = s.judgeRoute ∧ (asked s kind p).judgeSettings = s.judgeSettings ∧
    (asked s kind p).decideFor = s.decideFor :=
  ⟨rfl, rfl, rfl, rfl, rfl, rfl, rfl, rfl, rfl, rfl, rfl, rfl⟩

/-- A request that waits is one. -/
theorem requested (s : State) (kind : Byte) (payload : List Byte) (h : (s.route 63).role = .self ∧ s.replies.length < 4) :
    (asked s kind payload).HasRequest kind payload [] :=
  ⟨fromStation 63 0 kind payload, rfl, rfl, h.1, rfl, rfl, h.2⟩

/-! ### Well-formed commands -/

/-- No character, 55 characters and a length of 48 are refused; 54 characters and a length of 49 are not (R129, R132). -/
theorem test_wellFormed :
    Instr.wellFormed (.frameCheck .sp []) = false ∧ Instr.wellFormed (.frameCheck .fp (List.replicate 55 0)) = false ∧
    Instr.wellFormed (.lengthOver48 .sp 48) = false ∧ Instr.wellFormed (.frameCheck .fp (List.replicate 54 0)) = true ∧
    Instr.wellFormed (.lengthOver48 .sp 49) = true := by decide

/-- No row has bits, so no word spells a command (log 25). -/
theorem test_no_word : decodeTableWord 16 0 = none ∧ (State.reset.withFetchWord 16 5).pending = [] := by decide

/-! ### Steps and time -/

theorem meets_StepRunsTheFrontCommand :
    { State.reset with pending := [.stop, .spTransmit] }.pending = .stop :: [.spTransmit] := rfl

/-- Everything in the barrage that can fall due in one millisecond. -/
def nearlyDue (filter remaining age gaugeAge : Nat) : State :=
  { barrage (.starting req4 { leg4 with deadline := remaining } remaining) 2000 age gaugeAge with
    stopPinLow := true, stopFilter := filter, silence := .running remaining }

/-- At their last millisecond all windows run out: 20 ms of the filter (R97), ages above sample_window (R115, R24). -/
theorem test_expiries_due :
    (nearlyDue 19 1 500 2000).pending = [] ∧ (after (step (nearlyDue 19 1 500 2000))).pending =
      [.stopNAssertion, .silenceExpiry, .ackWindowExpiry 4, .deadlineExpiry 4, .hoistStale 4 .left, .hoistStale 4 .right,
       .gaugeStale 0] := by decide

/-- One millisecond earlier none does. -/
theorem test_expiries_not_due :
    (after (step (nearlyDue 18 2 499 1999))).pending = [] ∧ (after (step (nearlyDue 18 2 499 1999))).tideClock = 1 := by
  decide

theorem meets_IdleStepIsOneMillisecond :
    (nearlyDue 19 1 500 2000).pending = [] ∧
    step (nearlyDue 19 1 500 2000) = .next (after (step (nearlyDue 19 1 500 2000))) := ⟨by decide, rfl⟩

theorem meets_InputsMoveByTheirOwnCommands :
    exec .position State.reset = .next (after (exec .position State.reset)) ∧ (∀ a b d, Instr.position ≠ .coldReset a b d) ∧
    Instr.position.hearsAt ≠ some .sp ∧ Instr.position.takesFrom ≠ some .sp := by
  refine ⟨rfl, fun _ _ _ => Instr.noConfusion, ?_⟩; decide

theorem meets_RecordsChangeByTheirOwnCommands :
    exec .spTransmit State.reset = .next (after (exec .spTransmit State.reset)) ∧
    (∀ a b d, Instr.spTransmit ≠ .coldReset a b d) ∧ (∀ n, Instr.spTransmit ≠ .gaugeStale n) ∧
    ¬ mayCount .spTransmit .sp .good ∧ ¬ mayCount .move .sp .forwarded ∧ ¬ mayCount .position .fp .good :=
  ⟨rfl, fun _ _ _ => Instr.noConfusion, fun _ => Instr.noConfusion, id, id, nofun⟩

/-! ### Invariants -/

/-- Gate 4 travels, and the part has one millisecond to let pass. -/
def moving : State := barrage (.travelling req4 leg4) 2150

theorem moving_steps : step moving = .next (after (step moving)) := rfl

theorem meets_QueuesStayBounded : moving.QueuesBounded ∧ step moving = .next (after (step moving)) :=
  ⟨{ spRx := by decide, fpRx := by decide, replies := by decide, notices := by decide, overflow := by decide
     upQueue := by decide, downQueue := by decide, halts := by decide, runs := by decide, trims := by decide },
   moving_steps⟩

theorem meets_FaultOutputShowsHolds : moving.FaultShown ∧ (barrage (holdFor .timeout)).FaultShown ∧
    exec (.coldReset 0 false false) moving = .next (after (exec (.coldReset 0 false false) moving)) := by
  refine ⟨?_, ?_, rfl⟩
  · unfold State.FaultShown; decide
  · unfold State.FaultShown; decide

theorem moving_slots : moving.SlotsCounted where
  once := by decide
  pendingGates := by decide
  count := by decide
  withinK := by decide
  quiet := by decide

theorem meets_SlotsAndPendingListAgree : moving.SlotsCounted ∧ step moving = .next (after (step moving)) :=
  ⟨moving_slots, moving_steps⟩

theorem moving_routes : moving.RoutesBound where
  own := by decide
  station := by decide
  self := by decide
  hoists := by
    have left_or_right : ∀ a, (moving.route a).role = .hoist →
        (∃ g, (moving.route a).binding = some (.hoist g .left)) ∨
        ∃ g, (moving.route a).binding = some (.hoist g .right) := by decide
    intro a; constructor
    · intro h
      obtain ⟨g, e⟩ | ⟨g, e⟩ := left_or_right a h
      · exact ⟨g, .left, e⟩
      · exact ⟨g, .right, e⟩
    · rintro ⟨g, side, h⟩; revert a g; cases side <;> decide
  gauges := by decide
  hoistRecords := by intro a g side; revert a g; cases side <;> decide
  gaugeRecords := by decide

theorem meets_RoutesFollowRecords : moving.RoutesBound ∧ step moving = .next (after (step moving)) :=
  ⟨moving_routes, moving_steps⟩

theorem moving_records : ∀ g, moving.record g = GateRecord.cold ∨ moving.record g = served 7 8 ∨
    moving.record g = gate4 ∨ moving.record g = served 11 12 := by decide

theorem moving_gauges : ∀ n, (moving.gauge n).record = GaugeRecord.cold ∨
    (moving.gauge n).record = { GaugeRecord.cold with enabled := true, address := some 40 } ∨
    (moving.gauge n).record = { GaugeRecord.cold with enabled := true, bank := .downstream, address := some 42 } := by
  decide

theorem moving_legal : moving.RecordsLegal where
  gates := by
    intro g
    obtain e | e | e | e := moving_records g <;> rw [e] <;> constructor <;>
      first | decide | (unfold addressLegal; decide)
  curves := by
    intro c
    have e : (moving.curve c).points = [] ∨ (moving.curve c).points = curve0 := by revert c; decide
    unfold Curve.Legal pointsLegal
    obtain e | e := e <;> rw [e] <;> decide
  inUse := by decide
  gauges := by
    intro n
    obtain e | e | e := moving_gauges n <;> rw [e] <;>
      exact ⟨by decide, by unfold addressLegal; decide, by decide, by decide, by decide⟩
  settings := ⟨by decide, by decide, by decide, by decide, by decide, by decide⟩
  staging := nofun

theorem meets_RecordsStayLegal : moving.RecordsLegal ∧ step moving = .next (after (step moving)) :=
  ⟨moving_legal, moving_steps⟩

theorem moving_motions : ∀ g, (moving.gate g).motion = .outOfService none ∨ (moving.gate g).motion = .idle ∨
    ((moving.gate g).motion = .travelling req4 leg4 ∧ (moving.record g).fullTravel = 8000) := by decide

theorem moving_samples : ∀ g, ((moving.gate g).left = none ∧ (moving.gate g).right = none) ∨
    (moving.gate g).left = some (sampleAt (moving.record g) .left 1500 0) ∧
      (moving.gate g).right = some (sampleAt (moving.record g) .right 1500 0) ∧ moving.record g = served 7 8 ∨
    (moving.gate g).left = some (sampleAt (moving.record g) .left 2150 0) ∧
      (moving.gate g).right = some (sampleAt (moving.record g) .right 2150 0) ∧ moving.record g = gate4 ∨
    (moving.gate g).left = some (sampleAt (moving.record g) .left 3100 0) ∧
      (moving.gate g).right = some (sampleAt (moving.record g) .right 3100 0) ∧ moving.record g = served 11 12 := by
  decide

theorem moving_travel : moving.TravelKept where
  samples := by
    intro g side x h
    obtain ⟨l, r⟩ | ⟨l, r, e⟩ | ⟨l, r, e⟩ | ⟨l, r, e⟩ := moving_samples g <;> cases side <;>
      simp only [Gate.sample, l, r, reduceCtorEq, Option.some.injEq] at h <;> subst h <;> rw [e] <;>
      exact ⟨by decide, by decide, by decide, by decide, nofun⟩
  targets := by
    intro g
    obtain e | e | ⟨e, f⟩ := moving_motions g <;> rw [e]
    · exact ⟨nofun, nofun, nofun⟩
    · exact ⟨nofun, nofun, nofun⟩
    · rw [f]
      exact ⟨by rintro r ⟨⟩; decide, nofun, by rintro l ⟨⟩; decide⟩
  ceilings := by
    have k : ∀ g, (moving.gate g).ceiling = none ∨
        (moving.gate g).ceiling = some 7571 ∧ (moving.record g).fullTravel = 8000 := by decide
    intro g c h
    obtain e | ⟨e, f⟩ := k g <;> rw [e] at h
    · cases h
    · cases h; rw [f]; decide
  gaugeAges := by decide

theorem meets_TargetsStayWithinTravel : moving.TravelKept ∧ step moving = .next (after (step moving)) :=
  ⟨moving_travel, moving_steps⟩

theorem moving_settled : moving.LevelsSettled := ⟨by decide, by decide, by decide⟩

theorem meets_LevelsStaySettled : moving.LevelsSettled ∧ step moving = .next (after (step moving)) :=
  ⟨moving_settled, moving_steps⟩

/-- Gate 4 held for SKEW and then STALE. -/
def heldTwice : State := barrage (.hold { primary := .skew, further := [.stale] } (some kept4))

theorem heldTwice_motion : (heldTwice.gate 4).motion = .hold { primary := .skew, further := [.stale] } (some kept4) := by
  decide

theorem meets_HoldsAndEvaluationsStaySound : heldTwice.HoldsSound ∧ heldTwice.evalDue = false ∧
    step heldTwice = .next (after (step heldTwice)) := by
  refine ⟨?_, rfl, rfl⟩
  intro g h d e
  have k : ∀ g, (heldTwice.gate g).motion = .outOfService none ∨ (heldTwice.gate g).motion = .idle ∨
      (heldTwice.gate g).motion = .hold { primary := .skew, further := [.stale] } (some kept4) := by decide
  obtain f | f | f := k g <;> rw [f] at e <;> cases e
  decide

/-! ### Counters and encodings -/

theorem meets_CountersSaturateOrWrap :
    exec .spTransmit moving = .next (after (exec .spTransmit moving)) ∧ moving.settings.counterMode = .saturate ∧
    (∀ a b d, Instr.spTransmit ≠ .coldReset a b d) ∧ Instr.spTransmit ≠ .counterSnapshot ∧
    exec .counterSnapshot (asked moving 0x23#8 [0]) = .next (after (exec .counterSnapshot (asked moving 0x23#8 [0]))) ∧
    byteAt (fromStation 63 0 0x23#8 [0]).frame.payload 0 = 0 ∧ (1#16 : CountWord) ≠ 0xFFFF#16 := by
  refine ⟨rfl, rfl, fun _ _ _ => Instr.noConfusion, Instr.noConfusion, rfl, ?_⟩; decide

/-- The CRC of R130 over the characters 1 to 9: 0x29B1, the check value published for this CRC (PRESUMED). -/
theorem test_crc : crc [0x31, 0x32, 0x33, 0x34, 0x35, 0x36, 0x37, 0x38, 0x39] = 0x29B1#16 := by decide

/-- A STOP of gate 4 from the station: length 1, destination 63, source 0, kind 0x11, payload 4. -/
def stopFrame : Frame := { dst := 63, src := 0, kind := 0x11#8, payload := [4] }

/-- A port that has heard a sync at clock value 9. -/
def synced (s : State) (port : Port) : State := s.setReceiver port [{ data := 0xA5#8, stamp := 9 }]

/-- FRAME_CHECK (R132): the characters 01 3F 00 11 04 and the CRC make a good frame with the stamp of its sync; the
counter at 65535 stays there under SATURATE (R186). -/
theorem test_frameCheck :
    stopFrame.bytes.tail.take 5 = [0x01, 0x3F, 0x00, 0x11, 0x04] ∧
    (after (exec (.frameCheck .sp stopFrame.bytes.tail) (synced moving .sp))).spRx = [{ frame := stopFrame, stamp := 9 }] ∧
    (after (exec (.frameCheck .fp stopFrame.bytes.tail)
      { synced moving .fp with fpCounters := { Counters.zero with good := 0xFFFF#16 } })).fpCounters.good = 0xFFFF#16 := by
  decide

/-- A false sync (R132): behind a bad candidate that ends in a sync, hunting resumes inside it. The first candidate claims
one payload byte; its last character begins the frame that follows. -/
theorem test_false_sync :
    let chars : List Byte := [0x01, 0, 0, 0, 0, 0] ++ stopFrame.bytes
    let t := after (exec (.frameCheck .fp chars) (synced moving .fp))
    t.fpRx = [{ frame := stopFrame, stamp := 0 }] ∧ t.fpCounters.crcErrors = 1 ∧ t.fpCounters.good = 1 ∧
    t.fpReceiver = [] := by decide

/-- A payload of the greatest length and an empty one. -/
theorem meets_FrameCheckReadsTheEncodedFrame :
    (List.replicate 48 (7 : Byte)).length ≤ 48 ∧ ([] : List Byte).length ≤ 48 ∧
    (synced moving .sp).receiver .sp = [{ data := 0xA5#8, stamp := 9 }] ∧
    (synced moving .fp).receiver .fp = [{ data := 0xA5#8, stamp := 9 }] := by decide

/-- A route record of pass_down FORWARD and pass_up CONSUME for an OTHER address. -/
def routeRecord : List Byte := [5, 0, 1]

/-- The cold settings record (R162, R163): K 1, mask 7, no silence window, 300, 100, 150, SATURATE. -/
def settingsRecord : List Byte := [1, 7, 0, 0, 0x01, 0x2C, 0, 100, 0, 150, 0]

/-- The record of gauge 0 (R162): enabled, UPSTREAM, address 40, bounds −10000 and 20000, window 2000. -/
def gaugeRecord : List Byte := [1, 0, 40, 0, 0, 0xD8, 0xF0, 0x4E, 0x20, 0x07, 0xD0]

/-- The record of gate 4 (R162), byte by byte from R2 and 03, 3.5.1. -/
def gateRecord : List Byte :=
  [1, 9, 10, 0, 12, 0xFF, 0xF9, 0x1F, 0x40, 0, 0x03, 0x20, 1, 1, 0x01, 0x2C, 0, 100, 0x75, 0x30, 0x27, 0x10, 0, 25, 0, 40,
   0, 120, 0x01, 0xF4, 0, 0x03, 0xE8, 0, 4]

theorem test_record_bytes : gate4.bytes = gateRecord ∧ Settings.cold.bytes = settingsRecord ∧
    (gaugeAt .upstream 40 0 0).record.bytes = gaugeRecord ∧ (RawGate.parse gateRecord).record = gate4 := by decide

theorem meets_RecordsReadBackAsWritten :
    gateRecord.length = 35 ∧ firstFailing ((RawGate.parse gateRecord).checks moving) = none ∧
    gaugeRecord.length = 11 ∧ firstFailing ((RawGauge.parse gaugeRecord).checks 63) = none ∧
    routeRecord.length = 3 ∧ firstFailing (routeChecks (moving.route 50).role routeRecord) = none ∧
    settingsRecord.length = 11 ∧ firstFailing (settingsChecks settingsRecord) = none ∧
    Curve.Legal { points := curve0, generation := 0 } := by
  unfold Curve.Legal pointsLegal; decide

/-! ### Envelope arithmetic -/

/-- The worked ceilings of 03, 3.2, falling and rising. -/
theorem test_curve :
    ([-800, -250, 0, 500, 900, 1200, 2000, 2001, 6000, 7000].map (curveValue curve0)) =
      [some 12000, some 11250, some 10500, some 9000, some 7571, some 6500, some 4500, some 4497, some 0, some 0] ∧
    ([1, 350].map (curveValue [{ head := 0, ceiling := 2000 }, { head := 700, ceiling := 2500 }])) =
      [some 2000, some 2250] := by decide

theorem meets_CurveValueFollowsTheBreakpoints :
    curve0.Pairwise (fun a b => a.head < b.head) ∧ curve0 = { head := -500, ceiling := 12000 } :: curve0.tail ∧
    (-500 : Int) ≤ -500 ∧ curve0.getLast? = some { head := 6000, ceiling := 0 } ∧ (6000 : Int) ≤ 6000 ∧
    curve0 = [{ head := -500, ceiling := 12000 }] ++ { head := 500, ceiling := 9000 } :: { head := 1200, ceiling := 6500 } ::
      curve0.drop 3 ∧ (500 : Int) ≤ 500 ∧ (500 : Int) < 1200 := by decide

/-- The worked deadlines of 03, 3.4 (R53). -/
theorem test_deadlines :
    legDeadline 300 0 300 10000 = 70000 ∧ legDeadline 500 0 300 10000 = 110000 ∧ legDeadline 0 77 130 10000 = 45539 ∧
    legDeadline 3000 0 300 10000 = 610000 ∧ legDeadline 16000 0 10 10000 = 96010000 := by decide

/-- The leg of gate 4 worked in 03, 3.5.1, and blocked once it stands at 2300. -/
theorem test_decisions :
    moving.decideAt 4 4000 2000 = { decision := .legNeeded { target := 2300, direction := .raise, speed := 300, deadline := 70000 },
                                    clampedTo := none } ∧
    moving.decideAt 4 4000 2300 = { decision := .blocked (some .spread), clampedTo := none } := by decide

/-- The linked neighbours of gate 4 are gates 3 and 5 where they stand (R45). -/
theorem moving_linked (h : GateId) (n : Nat) (l : moving.Linked 4 h n) : n = 1500 ∧ h = 3 ∨ n = 3100 ∧ h = 5 := by
  have adjacent : ∀ h : GateId, h.val + 1 = (4 : GateId).val ∨ h.val = (4 : GateId).val + 1 → h = 3 ∨ h = 5 := by decide
  have left : (moving.gate 3).opening = some 1500 := by decide
  have right : (moving.gate 5).opening = some 3100 := by decide
  obtain ⟨-, side, -, o⟩ := l
  obtain rfl | rfl := adjacent h (side.imp And.right And.right)
  · rw [left] at o; cases o; exact .inl ⟨rfl, rfl⟩
  · rw [right] at o; cases o; exact .inr ⟨rfl, rfl⟩

theorem moving_links : moving.Linked 4 3 1500 ∧ moving.Linked 4 5 3100 := by unfold State.Linked; decide

/-- The band of gate 4 worked in 03, 3.5.1. -/
theorem moving_band : moving.Band 4 2000 2000 2300 := by
  refine ⟨2000, ⟨5, 3100, moving_links.2, by decide⟩, ?_, ⟨3, 1500, moving_links.1, by decide⟩, ?_, by decide⟩ <;>
    (intro h n l; obtain ⟨rfl, rfl⟩ | ⟨rfl, rfl⟩ := moving_linked h n l <;> decide)

theorem meets_LegsStayWithinTheirBounds :
    4000 ≤ (moving.record 4).fullTravel ∧ 2000 ≤ (moving.record 4).fullTravel ∧
    (moving.decideAt 4 4000 2000).decision =
      .legNeeded { target := 2300, direction := .raise, speed := 300, deadline := 70000 } ∧
    (moving.gate 4).ceiling = some 7571 ∧
    moving.Band 4 2000 2000 2300 ∧ moving.Linked 4 3 1500 ∧ moving.Linked 4 5 3100 ∧
    ({ moving with mode := .noHead, head := none }.setCeiling 4 none |>.gate 4).ceiling = none ∧
    (({ moving with mode := .noHead, head := none }.setCeiling 4 none).decideAt 3 100 1500).decision =
      .legNeeded { target := 100, direction := .lower, speed := 100, deadline := 850000 } :=
  ⟨by decide, by decide, by decide, by decide, moving_band, moving_links.1, moving_links.2, by decide⟩

/-- The right sample of gate 4 is gone. -/
def oneSided4 : State := moving.setGate 4 { moving.gate 4 with right := none }

theorem meets_DecisionsFollowTheStages :
    (moving.decideAt 4 2025 2000).decision = .satisfied ∧ (moving.decideAt 4 4000 2300).decision = .blocked (some .spread) ∧
    distance 2025 2000 ≤ gate4.arriveTol ∧ gate4.arriveTol < distance 2026 2000 ∧ moving.goal 4 4000 2300 = 4000 ∧
    (moving.decideAt 3 8000 7571).decision = .blocked (some .ceiling) ∧ moving.goal 3 8000 7571 = 7571 ∧
    ((moving.setCeiling 3 none).decideAt 3 4000 1500).decision = .blocked (some .noHead) ∧
    (oneSided4.gate 4).opening = none ∧ (moving.gate 4).opening = some 2150 ∧
    (moving.decideFor 3 8000).clampedTo = some 7571 ∧
    (moving.decideAt 4 4000 2000).decision =
      .legNeeded { target := 2300, direction := .raise, speed := 300, deadline := 70000 } ∧
    moving.mode = .curve ∧ moving.head = some { fwd := 900, rev := -900 } ∧
    ({ moving with mode := .reverse }.decideAt 3 100 1500).decision =
      .legNeeded { target := 100, direction := .lower, speed := 300, deadline := 290000 } ∧
    ({ moving with mode := .noHead }.decideAt 3 100 1500).decision =
      .legNeeded { target := 100, direction := .lower, speed := 100, deadline := 850000 } := by decide

/-- Three gates that lower, at levels 4, 5 and 5 with stamps 1, 2 and 3, as gates 2, 9 and 10 of 05, 5.9 do. -/
def closure : State :=
  let mover (level stamp : Nat) : Motion := .travelling { req4 with level := level } { leg4 with direction := .lower, stamp := stamp }
  ((moving.setMotion 4 (mover 4 1)).setMotion 3 (mover 5 2)).setMotion 5 (mover 5 3)

/-- The later of the two gates at level 5 is the victim (05, 5.9); no gate is one where none moves. -/
theorem meets_VictimIsTheLeastUrgentMover : closure.victim = some 5 ∧ (barrage .idle).victim = none := by decide

/-- Gate 4 idle between two gates that move at level 5. -/
def crossed : State := closure.setMotion 4 .idle

/-- The same while gate 3 stops for REQUEUE. -/
def requeueing3 : State := crossed.setMotion 3 (.stopping (.requeue { req4 with level := 5 }) leg4 900)

theorem meets_PreemptionStopsTheVictims :
    (asked crossed 0x10#8 [4, 0x0F, 0xA0, 0]).HasRequest 0x10#8 [4, 0x0F, 0xA0, 0] [] ∧
    crossed.AsksMove 4 [4, 0x0F, 0xA0, 0] 4000 0 ∧ crossed.stopAsserted = false ∧ crossed.evalDue = false ∧
    (crossed.gate 4).motion = .idle ∧ crossed.waiting = [] ∧ crossed.settings.slots ≤ crossed.slotsInUse ∧
    (crossed.gate 4).opening = some 2150 ∧ gate4.arriveTol < distance (min 4000 gate4.fullTravel) 2150 ∧
    crossed.decideFor 4 (min 4000 gate4.fullTravel) =
      { decision := .legNeeded { target := 2300, direction := .raise, speed := 300, deadline := 40000 }, clampedTo := none } ∧
    crossed.requeueing = 0 ∧ crossed.victim = some 5 ∧ crossed.notices.length < 14 ∧
    (crossed.gate 5).motion = .travelling { req4 with level := 5 } { leg4 with direction := .lower, stamp := 3 } ∧
    (requeueing3.gate 3).motion = .stopping (.requeue { req4 with level := 5 }) leg4 900 :=
  ⟨requested _ _ _ (by decide), ⟨0x0F, 0xA0, rfl, .inr ⟨0, rfl, rfl⟩⟩, by decide⟩

/-- MOVE (R91, R92): gate 5, of the two at level 5 the later, is stopped for gate 4, which waits; no slot has moved. -/
theorem test_move_preempts :
    let t := after (exec .move (asked crossed 0x10#8 [4, 0x0F, 0xA0, 0]))
    (t.gate 5).motion = .stopping (.requeue { req4 with level := 5 }) { leg4 with direction := .lower, stamp := 3 } 2000 ∧
    t.waiting = [4] ∧ t.notices = [{ notice := .preempted 5 4, stamp := 0 }] ∧ t.slotsInUse = 1 ∧
    (after (exec .move (asked requeueing3 0x10#8 [4, 0x0F, 0xA0, 0]))).notices = [] := by decide

/-! ### Resets and STOP_N -/

/-- COLD_RESET (R147, R128): straps 0 give address 63, straps 5 address 5; what was received is gone, the queue of commands
stays. -/
theorem test_coldReset :
    let t := after (exec (.coldReset 5 true false) { heard moving 7 0 0x50#8 [0, 0, 0] with pending := [.position] })
    t.ownAddress = 5 ∧ (t.route 5).role = .self ∧ (t.route 63).role = .unused ∧ t.rate = .r460800 ∧ t.fpRx = [] ∧
    t.pending = [.position] ∧ (after (exec (.coldReset 0 false false) moving)).ownAddress = 63 := by decide

/-- STOP_N_ASSERTION (R98, R69): HALT to both hoists of gate 4, its halt window 4 × 500 ms. -/
theorem test_stopNAssertion :
    let t := after (exec .stopNAssertion moving)
    (t.gate 4).motion = .stopping .idle leg4 2000 ∧ t.haltQueue = [9, 10] ∧ t.slotsInUse = 1 ∧
    t.notices = [{ notice := .stopInput true, stamp := 0 }] := by decide

/-- The part while STOP_N is asserted, nothing moving. -/
def stopped : State := { barrage .idle with stopAsserted := true, stopPinLow := true }

theorem meets_StopInputStopsAllMotion :
    moving.SlotsCounted ∧ moving.stopAsserted = false ∧ moving.notices.length < 16 ∧
    (moving.gate 4).motion = .travelling req4 leg4 ∧
    stopped.stopAsserted = true ∧ stopped.waiting = [] ∧ stopped.evalDue = false ∧ stopped.notices.length < 16 :=
  ⟨moving_slots, by decide⟩

/-- STOP_N_RELEASE (R100): its notice, and no motion. -/
theorem test_stopNRelease :
    let t := after (exec .stopNRelease stopped)
    t.stopAsserted = false ∧ t.notices = [{ notice := .stopInput false, stamp := 0 }] ∧ (t.gate 4).motion = .idle := by decide

/-! ### Receivers -/

/-- A candidate of length 48 with nothing more of it. -/
def collecting : State :=
  moving.setReceiver .sp [{ data := 0xA5#8, stamp := 9 }, { data := 48, stamp := 10 }]

theorem meets_CandidatesAreCollectedOrCountedBad :
    moving.receiver .sp = [] ∧
    collecting.receiver .sp = { data := 0xA5#8, stamp := 9 } :: { data := 48, stamp := 10 } :: [] ∧
    (48#8).toNat ≤ 48 ∧ ([] : List RxChar).length + 1 < (48#8).toNat + 5 ∧
    (synced moving .fp).receiver .fp = [{ data := 0xA5#8, stamp := 9 }] ∧ 48 < (49#8).toNat ∧ (49#8) ≠ 0xA5#8 ∧
    (0#8).toNat ≤ 48 ∧
    ([0, 0, 0, 0, 0] : List Byte).length = (0#8).toNat + 5 ∧ 0xA5#8 ∉ (0#8) :: [0, 0, 0, 0, 0] ∧
    ([0, 0, 0, 0, 0] : List Byte).drop 3 ≠ crcBytes (crc (0#8 :: [0, 0, 0])) ∧
    collecting.receiver .sp = { data := 0xA5#8, stamp := 9 } :: [{ data := 48, stamp := 10 }] ∧
    (∀ x ∈ [({ data := 48, stamp := 10 } : RxChar)], x.data ≠ 0xA5#8) ∧ moving.receiver .fp = [] := by decide

/-- CANDIDATE_SYNC and LENGTH_OVER_48 (R132): 49 discards the candidate; a second sync as its length begins one anew. -/
theorem test_candidateSync_lengthOver48 :
    (after (exec (.candidateSync .sp) { moving with tideClock := 3 })).spReceiver = [{ data := 0xA5#8, stamp := 3 }] ∧
    (after (exec (.lengthOver48 .fp 49) (synced moving .fp))).fpReceiver = [] ∧
    (after (exec (.lengthOver48 .fp 49) (synced moving .fp))).fpCounters.crcErrors = 1 ∧
    (after (exec (.lengthOver48 .fp 0xA5) (synced moving .fp))).fpReceiver = [{ data := 0xA5#8, stamp := 0 }] := by decide

/-- RECEIVE_GAP_ABANDON (R132): the candidate is counted bad, and a sync among its characters begins the next. -/
theorem test_receiveGapAbandon :
    (after (exec (.receiveGapAbandon .sp) collecting)).spReceiver = [] ∧
    (after (exec (.receiveGapAbandon .sp) collecting)).spCounters.crcErrors = 1 ∧
    (after (exec (.receiveGapAbandon .sp) (collecting.setReceiver .sp
      [{ data := 0xA5#8, stamp := 1 }, { data := 9, stamp := 2 }, { data := 0xA5#8, stamp := 3 }]))).spReceiver =
      [{ data := 0xA5#8, stamp := 3 }] := by decide

/-! ### The Frame Sorter -/

theorem meets_MisroutesAreCountedAndCaptured :
    (sentTo moving 63 1 0x11#8).HasStationFrame (fromStation 63 1 0x11#8 []) [] ∧
    (fromStation 63 1 0x11#8 []).frame.source ≠ 0 ∧
    (sentTo moving 0 0 0x11#8).HasStationFrame (fromStation 0 0 0x11#8 []) [] ∧ (moving.route 0).role = .station ∧
    (sentTo moving 30 0 0x11#8).HasStationFrame (fromStation 30 0 0x11#8 []) [] ∧ (moving.route 30).role = .unused ∧
    (heard moving 7 8 0x50#8 []).fpRx = fromField 7 8 0x50#8 [] :: [] ∧ (moving.route 7).role = .hoist ∧
    (fromField 7 8 0x50#8 []).frame.dest ≠ 0 ∧ (fromField 7 8 0x50#8 []).frame.dest ≠ moving.ownAddress ∧
    (fromField 50 63 0x50#8 []).frame.dest ≠ 0 ∧ (moving.route 50).role = .other ∧ (moving.route 63).role = .self ∧
    (moving.route 40).role = .gauge := by
  unfold State.HasStationFrame; decide

/-- FIELD_FRAME_SORT (R158, R159): a misroute fills the capture record and posts its notice. -/
theorem test_fieldFrameSort_misroute :
    let t := after (exec .fieldFrameSort (heard moving 30 0 0x50#8 [0, 0, 0]))
    t.fpCounters.misroutes = 1 ∧ t.capture = some { port := .fp, src := 30, dst := 0, kind := 0x50#8, stamp := 5 } ∧
    t.notices = [{ notice := .misroute .fp 30 0 0x50#8, stamp := 0 }] ∧ t.fpRx = [] := by decide

theorem meets_UnfitRequestsAreAnswered :
    (asked moving 0x40#8 [1]).HasRequest 0x40#8 [1] [] ∧ requestLengths 0x40#8 = none ∧ (0x40#8 : Byte) ≠ 0x21#8 ∧
    (asked moving 0x10#8 [1, 2]).HasRequest 0x10#8 [1, 2] [] ∧ requestLengths 0x10#8 = some [3, 4] ∧
    [1#8, 2#8].length ∉ [3, 4] ∧
    (asked moving 0x21#8 [6, 0]).HasRequest 0x21#8 [6, 0] [] ∧ [6#8, 0#8].length ∉ writeLengths 6 ∧
    (asked moving 0x21#8 []).HasRequest 0x21#8 [] [] :=
  ⟨requested _ _ _ (by decide), by decide, by decide, requested _ _ _ (by decide), by decide, by decide,
   requested _ _ _ (by decide), by decide, requested _ _ _ (by decide)⟩

/-- STATION_FRAME_SORT (R151, R175): BAD_LENGTH carries the length as its detail. -/
theorem test_stationFrameSort_badLength :
    (after (exec .stationFrameSort (asked moving 0x10#8 [4, 2]))).replies =
      [{ kind := 0x10#8, result := .badLength, detail := 2, data := [] }] := by decide

theorem meets_DirectOrdersAreRelayedOrRefused :
    (sentTo moving 9 0 0x43#8).HasStationFrame (fromStation 9 0 0x43#8 []) [] ∧
    (fromStation 9 0 0x43#8 []).frame.source = 0 ∧ (moving.route 9).role = .hoist ∧
    (moving.route 9).binding = some (.hoist 4 .left) ∧ (fromStation 9 0 0x43#8 []).frame.dest = 9 ∧
    (fromStation 9 0 0x44#8 []).frame.kind = 0x44#8 ∧ (moving.gate 4).motion.holdsSlot = true ∧
    (moving.route 8).binding = some (.hoist 3 .right) ∧ ¬ ((moving.gate 3).motion.isPending = true ∨
      (moving.gate 3).motion.holdsSlot = true) ∧ (0x40#8 : Byte) ≠ 0x43#8 ∧ (0x40#8 : Byte) ≠ 0x44#8 := by
  unfold State.HasStationFrame; decide

/-- STATION_FRAME_SORT (R152): a NODE RESET to a hoist of a moving gate is refused RUNNING with gate and side. -/
theorem test_stationFrameSort_direct :
    (after (exec .stationFrameSort (sentTo moving 10 0 0x44#8))).replies =
      [{ kind := 0x44#8, result := .running, detail := 4, data := [1] }] ∧
    (after (exec .stationFrameSort (sentTo moving 10 0 0x44#8))).spCounters.routeDrops = 1 ∧
    (after (exec .stationFrameSort (sentTo moving 8 0 0x44#8))).downQueue = [(fromStation 8 0 0x44#8 []).frame] := by decide

theorem meets_FramesArePassedThrough :
    (sentTo moving 40 0 0x58#8).HasStationFrame (fromStation 40 0 0x58#8 []) [] ∧ (moving.route 40).role = .gauge ∧
    (sentTo moving 50 0 0x58#8).HasStationFrame (fromStation 50 0 0x58#8 []) [] ∧
    (moving.route 50).passDown = .forward ∧ (moving.route 50).role = .other ∧
    (sentTo moving 51 0 0x58#8).HasStationFrame (fromStation 51 0 0x58#8 []) [] ∧
    (moving.route 51).passDown = .drop ∧ (moving.route 51).role = .other ∧
    (fromStation 51 0 0x58#8 []).frame.source = 0 ∧
    (heard moving 50 0 0x50#8 []).fpRx = fromField 50 0 0x50#8 [] :: [] ∧ (moving.route 50).passUp = .forward ∧
    (heard moving 51 0 0x50#8 []).fpRx = fromField 51 0 0x50#8 [] :: [] ∧ (moving.route 51).passUp = .consume ∧
    (fromField 51 0 0x50#8 []).frame.dest = 0 ∧ (fromField 51 0 0x50#8 []).frame.source = 51 := by
  unfold State.HasStationFrame; decide

theorem meets_UnownedReportsAreNotTaken :
    (heard moving 7 0 0x58#8 []).fpRx = fromField 7 0 0x58#8 [] :: [] ∧ (moving.route 7).role = .hoist ∧
    (0x58#8 : Byte) ≠ 0x50#8 ∧ (0x58#8 : Byte) ≠ 0x51#8 ∧ (moving.route 7).passUp = .forward ∧
    (heard moving 42 0 0x50#8 []).fpRx = fromField 42 0 0x50#8 [] :: [] ∧ (moving.route 42).role = .gauge ∧
    (0x50#8 : Byte) ≠ 0x58#8 ∧ (moving.route 42).passUp = .consume ∧
    (heard moving 42 63 0x50#8 []).fpRx = fromField 42 63 0x50#8 [] :: [] ∧
    (fromField 42 63 0x50#8 []).frame.dest ≠ 0 ∧ (fromField 42 63 0x50#8 []).frame.dest = moving.ownAddress := by decide

/-! ### Reports -/

/-- Nothing that waits can be weighed while nothing waits. -/
theorem nothing_waits (s : State) (h : ∀ g, (s.gate g).motion.isPending = false) : s.AllMasked := by
  intro g q e
  have k := h g
  rw [e] at k; cases k

/-- The left hoist of gate 4 reports a raw position and a hoist state. -/
def told (s : State) (hi lo code : Byte) : State := heard s 9 0 0x50#8 [hi, lo, code]

/-- The frame of that report. -/
def report (hi lo code : Byte) : RxFrame := fromField 9 0 0x50#8 [hi, lo, code]

/-- Such a report is one that trips nothing, with the skew that it leaves. -/
theorem quiet (s : State) (hi lo code : Byte) (state : HoistState) (skew : Option Int)
    (h : (s.route 9).role = .hoist ∧ (s.route 9).binding = some (.hoist 4 .left)) (n : namesState code state)
    (e : (((told s hi lo code).reported (report hi lo code) [] 4 .left hi lo state).gate 4).skew = skew)
    (b : skew.all (fun k => k.natAbs ≤ (s.record 4).trip) = true) :
    (told s hi lo code).HasQuietReport (report hi lo code) [] 4 .left hi lo state := by
  refine ⟨⟨rfl, rfl, .inl rfl, h.1, h.2⟩, ⟨code, .inl rfl, n⟩, fun k f => ?_⟩
  rw [e] at f
  subst f
  exact of_decide_eq_true b

/-- Both hoists of gate 4 report at rest; the right one did so before. -/
def resting (target : Nat) (opening : Nat) : State :=
  barrage (.travelling { req4 with target := target } { leg4 with target := target, acks := { left := false, right := true } })
    opening

theorem meets_PositionReplacesTheSample :
    (heard moving 9 0 0x50#8 [0, 100, 3]).HasHoistReport (fromField 9 0 0x50#8 [0, 100, 3]) [] 0x50#8 4 .left ∧
    (heard moving 10 63 0x50#8 [0xFF, 0xFF, 3, 0]).HasHoistReport (fromField 10 63 0x50#8 [0xFF, 0xFF, 3, 0]) [] 0x50#8 4 .right ∧
    (heard moving 9 0 0x50#8 [1, 2]).HasHoistReport (fromField 9 0 0x50#8 [1, 2]) [] 0x50#8 4 .left ∧
    [1#8, 2#8].length ≠ 3 ∧ [1#8, 2#8].length ≠ 4 ∧
    (heard (barrage (.outOfService none)) 9 0 0x50#8 [0, 0, 0]).HasHoistReport (fromField 9 0 0x50#8 [0, 0, 0]) [] 0x50#8 4 .left ∧
    ((barrage (.outOfService none)).gate 4).motion.isOutOfService = true := by
  unfold State.HasHoistReport; decide

/-- POSITION (R109, R13, R14): raw 0x7FFF is taken as 16383, its offset of 12 added, the sum clamped to 8000; the frame goes up
to the station. -/
theorem test_position_sample :
    let t := after (exec .position (heard (barrage (.outOfService none)) 9 0 0x50#8 [0x7F, 0xFF, 3]))
    (t.gate 4).left = some { raw := 16383, corrected := 8000, state := .fault, faultCode := some 255, stamp := 5, age := 0 } ∧
    (t.gate 4).opening = some 5000 ∧ (t.gate 4).skew = some 6000 ∧
    t.upQueue = [(fromField 9 0 0x50#8 [0x7F, 0xFF, 3]).frame] ∧ t.fpCounters.forwarded = 1 := by decide

theorem meets_SkewAndFaultReportsHoldTheGate :
    (heard moving 9 0 0x50#8 [0x08, 0xD3, 1]).HasHoistReport (fromField 9 0 0x50#8 [0x08, 0xD3, 1]) [] 0x50#8 4 .left ∧
    (moving.gate 4).motion.isOutOfService = false ∧ (moving.gate 4).motion.isHold = false ∧
    (sampleAt gate4 .left 2271 0).corrected = (moving.record 4).corrected .left (min ((0x08#8).toNat * 256 + (0xD3#8).toNat) 16383) ∧
    ((moving.gate 4).withSample .left (some (sampleAt gate4 .left 2271 0))).skew = some 121 ∧
    (moving.record 4).trip < (121 : Int).natAbs ∧ (1#8).toNat < 3 ∧
    (heard moving 9 0 0x50#8 [0x08, 0xD2, 3]).HasHoistReport (fromField 9 0 0x50#8 [0x08, 0xD2, 3]) [] 0x50#8 4 .left ∧
    (sampleAt gate4 .left 2270 0).corrected = (moving.record 4).corrected .left (min ((0x08#8).toNat * 256 + (0xD2#8).toNat) 16383) ∧
    (∀ k, ((moving.gate 4).withSample .left (some (sampleAt gate4 .left 2270 0))).skew = some k →
      k.natAbs ≤ (moving.record 4).trip) ∧ 3 ≤ (3#8).toNat := by
  unfold State.HasHoistReport
  refine ⟨by decide, by decide, by decide, by decide, by decide, by decide, by decide, by decide, by decide, ?_, by decide⟩
  have e : ((moving.gate 4).withSample .left (some (sampleAt gate4 .left 2270 0))).skew = some 120 := by decide
  rw [e]; rintro k ⟨⟩; decide

/-- POSITION (R120, R74, R118): a skew of 121 above the trip of 120 holds the gate, FAULT_N goes on and both hoists get HALT;
one of 120 is above the trim of 40 and pauses the left hoist, which leads a raise. -/
theorem test_position_skew :
    let t := after (exec .position (heard moving 9 0 0x50#8 [0x08, 0xD3, 1]))
    (t.gate 4).motion = .hold { primary := .skew, further := [] } (some { target := 4000, level := 4 }) ∧ t.faultN = true ∧
    t.haltQueue = [9, 10] ∧ t.slotsInUse = 0 ∧
    (after (exec .position (heard moving 9 0 0x50#8 [0x08, 0xD2, 1]))).orderQueue = [.pause 9] := by decide

/-- Gate 4 at the end of a leg, its request a target further on. -/
def ending (target opening mask : Nat) : State :=
  { barrage (.travelling { req4 with target := target }
      { leg4 with target := opening, acks := { left := false, right := true } }) opening with
    settings := { Settings.cold with priorityMask := mask } }

theorem meets_RestReportsEndTheLeg :
    (heard (resting 2300 2300) 9 0 0x50#8 [0x08, 0xF0, 0]).HasHoistReport (fromField 9 0 0x50#8 [0x08, 0xF0, 0]) [] 0x50#8 4 .left ∧
    ((resting 2300 2300).gate 4).motion = .travelling { req4 with target := 2300 }
      { leg4 with acks := { left := false, right := true } } ∧
    (sampleAt gate4 .left 2300 0).corrected =
      ((resting 2300 2300).record 4).corrected .left (min ((0x08#8).toNat * 256 + (0xF0#8).toNat) 16383) ∧
    (((resting 2300 2300).gate 4).withSample .left (some (sampleAt gate4 .left 2300 0))).opening = some 2300 ∧
    (((resting 2300 2300).gate 4).withSample .left (some (sampleAt gate4 .left 2300 0))).skew = some 0 ∧
    (0 : Int).natAbs ≤ ((resting 2300 2300).record 4).trip ∧
    (resting 2300 2300).evalDue = false ∧ ((resting 2300 2300).gate 4).ceiling = some 7571 ∧ (resting 2300 2300).notices.length < 15 ∧
    distance 2300 2325 ≤ ((resting 2325 2300).record 4).arriveTol ∧
    ((resting 2326 2300).record 4).arriveTol < distance 2300 2326 := by
  unfold State.HasHoistReport; decide

/-- Blocked by SPREAD at 2300 on the way to 4000, masked there under mask 3, and with a further leg from 2150 to 2250. -/
theorem meets_RestReportsEndTheLeg_further_on :
    (told (ending 4000 2300 7) 0x08 0xF0 0).HasHoistReport (report 0x08 0xF0 0) [] 0x50#8 4 .left ∧
    ((ending 4000 2300 7).gate 4).motion = .travelling req4 { leg4 with acks := { left := false, right := true } } ∧
    (sampleAt gate4 .left 2300 0).corrected =
      ((ending 4000 2300 7).record 4).corrected .left (min ((0x08#8).toNat * 256 + (0xF0#8).toNat) 16383) ∧
    (((ending 4000 2300 7).gate 4).withSample .left (some (sampleAt gate4 .left 2300 0))).opening = some 2300 ∧
    (((ending 4000 2300 7).gate 4).withSample .left (some (sampleAt gate4 .left 2300 0))).skew = some 0 ∧
    (ending 4000 2300 7).evalDue = false ∧ distance 2300 2300 ≤ gate4.arriveTol ∧ gate4.arriveTol < distance 4000 2300 ∧
    (ending 4000 2300 7).AllMasked ∧ (ending 4000 2300 3).AllMasked ∧ (ending 2250 2150 7).AllMasked ∧
    (ending 4000 2300 7).stopAsserted = false ∧ 1 ≤ (ending 4000 2300 7).slotsInUse ∧
    (ending 4000 2300 7).slotsInUse ≤ (ending 4000 2300 7).settings.slots ∧
    (ending 4000 2300 3).Masked 4 ∧ ¬ (ending 4000 2300 7).Masked 4 ∧
    ((ending 4000 2300 7).decideFor 4 4000).decision = .blocked (some .spread) ∧
    ((ending 2250 2150 7).decideFor 4 2250).decision =
      .legNeeded { target := 2250, direction := .raise, speed := 300, deadline := 30000 } ∧
    (ending 2250 2150 7).grantCounter < 4294967295 ∧ 4 ∉ (ending 2250 2150 7).waiting ∧
    staleUnder gate4.sampleWindow (((ending 2250 2150 7).gate 4).sample .right) = false := by
  unfold State.HasHoistReport State.Masked
  refine ⟨by decide, by decide, by decide, by decide, by decide, by decide, by decide, by decide, nothing_waits _ (by decide),
    nothing_waits _ (by decide), nothing_waits _ (by decide), by decide⟩

/-- Gate 4 stops, its right hoist at rest. -/
def halting (n : NextStep) (opening : Nat) (mask : Nat := 7) : State :=
  { barrage (.stopping n { leg4 with acks := { left := false, right := true } } 900) opening with
    settings := { Settings.cold with priorityMask := mask } }

/-- Each next step at 2300 (raw 0x08F0), where 4000 is blocked by SPREAD and 2300 is satisfied; legs from 2150 (raw 0x085A). -/
theorem meets_StopsEndByTheirNextStep :
    (told (halting .idle 2300) 0x08 0xF0 0).HasQuietReport (report 0x08 0xF0 0) [] 4 .left 0x08 0xF0 .atRest ∧
    (∀ n opening mask, (∀ g, ((halting n opening mask).gate g).motion.isPending = false) →
      (halting n opening mask).AllMasked ∧ 4 ∉ (halting n opening mask).waiting ∧
      (halting n opening mask).evalDue = false ∧ (halting n opening mask).stopAsserted = false ∧
      1 ≤ (halting n opening mask).slotsInUse ∧ (halting n opening mask).slotsInUse ≤ (halting n opening mask).settings.slots ∧
      (halting n opening mask).notices.length < 14 ∧ (halting n opening mask).grantCounter < 4294967295) ∧
    (∀ g, ((halting .idle 2300).gate g).motion.isPending = false) ∧
    ((halting .idle 2300).gate 4).motion =
      .stopping .idle { leg4 with acks := { left := false, right := true } } 900 ∧
    ((halting .idle 2300).gate 4).opening = some 2300 ∧ ((halting .idle 2300).gate 4).excursion = none ∧
    ((halting (.outOfService (some kept4)) 2300).gate 4).motion.holdsSlot = true ∧
    (halting (.requeue req4) 2300 3).Masked 4 ∧ (halting (.restartLeg req4) 2300 3).Masked 4 ∧
    ¬ (halting (.restartLeg req4) 2300).Masked 4 ∧
    ((halting (.restartLeg req4) 2300).decideFor 4 4000).decision = .blocked (some .spread) ∧
    ((halting (.requeue req4) 2300).decideFor 4 2300).decision = .satisfied ∧
    ((halting (.restartLeg req4) 2150).decideFor 4 4000).decision =
      .legNeeded { target := 2300, direction := .raise, speed := 300, deadline := 40000 } ∧
    (halting (.restartLeg req4) 2150).linkingToward 4 = [] ∧ gate4.leftHoist ≠ gate4.rightHoist ∧
    staleUnder gate4.sampleWindow (((halting (.requeue req4) 2150).gate 4).sample .right) = false :=
  ⟨quiet _ _ _ _ _ (some 0) (by decide) (.inl ⟨rfl, rfl⟩) (by decide) (by decide),
   fun _ _ _ h => ⟨nothing_waits _ h, nofun, rfl, rfl, Nat.le_refl 1, Nat.le_refl 1, (by decide : 0 < 14),
     (by decide : 1 < 4294967295)⟩,
   by unfold State.Masked; decide⟩

/-- POSITION (R71): the stop for a restart starts its leg from 2150 with the stamp it had; the one that keeps its slot for a
blocked request gives it back and waits at the head. -/
theorem test_position_stopping :
    let t := after (exec .position (told (halting (.restartLeg req4) 2150) 0x08 0x5A 0))
    (t.gate 4).motion = .starting req4 { leg4 with deadline := 40000 } 1000 ∧
    t.orderQueue = [.run 9 2288 300, .run 10 2307 300] ∧ t.slotsInUse = 1 ∧
    (after (exec .position (told (halting (.restartLeg req4) 2300) 0x08 0xF0 0))).waiting = [4] := by decide

/-- Gate 4 travels with a hoist paused or none. -/
def trimming (paused : Option Side) : State := barrage (.travelling req4 { leg4 with paused := paused }) 2150

/-- The right sample of gate 4 is gone, so that it has no skew. -/
def oneSided (paused : Option Side) : State := (trimming paused).setGate 4 { (trimming paused).gate 4 with right := none }

/-- The skew of gate 4 after its left hoist has reported. -/
def skewOf (s : State) (hi lo : Byte) : Option Int :=
  (((told s hi lo 1).reported (report hi lo 1) [] 4 .left hi lo .moving).gate 4).skew

/-- With trim 40, as gate 4 raises: skews of 40, 41, 20, 21 and −21 at raw 2138 and more or less. -/
theorem meets_SkewTrimPausesTheLeadHoist :
    (told (trimming none) 0x08 0x83 1).HasQuietReport (report 0x08 0x83 1) [] 4 .left 0x08 0x83 .moving ∧
    ((trimming none).gate 4).motion = .travelling req4 { leg4 with paused := none } ∧ (trimming none).evalDue = false ∧
    (trimming none).linkingToward 4 = [] ∧ (gate4.hoist .left = some 9 ∧ gate4.trim = 40 ∧ leg4.direction = .raise) ∧
    skewOf (oneSided none) 0x08 0x83 = none ∧ skewOf (oneSided (some .left)) 0x08 0x83 = none ∧
    skewOf (trimming none) 0x08 0x82 = some 40 ∧ skewOf (trimming none) 0x08 0x83 = some 41 ∧
    skewOf (trimming (some .left)) 0x08 0x6E = some 20 ∧ skewOf (trimming (some .left)) 0x08 0x45 = some (-21) ∧
    skewOf (trimming (some .left)) 0x08 0x6F = some 21 :=
  ⟨quiet _ _ _ _ _ (some 41) (by decide) (.inr (.inl ⟨rfl, rfl⟩)) (by decide) (by decide), by decide⟩

/-- POSITION (R118, R119): a skew of 41 pauses the lead hoist and one of 40 does not; the paused hoist goes on at 20. -/
theorem test_position_trim :
    (after (exec .position (told (trimming none) 0x08 0x83 1))).orderQueue = [.pause 9] ∧
    (after (exec .position (told (trimming none) 0x08 0x82 1))).orderQueue = [] ∧
    (after (exec .position (told (trimming (some .left)) 0x08 0x6F 1))).orderQueue = [] ∧
    (after (exec .position (told (trimming (some .left)) 0x08 0x6E 1))).orderQueue = [.resume 9] := by decide

/-- Gate 4 idle at 2000 under a ceiling, following it or not. -/
def under (ceiling : Nat) (track : Bool) (mask : Nat) (slots : Nat := 0) : State :=
  let s := barrage .idle
  { s.setGate 4 { s.gate 4 with ceiling := some ceiling, record := { gate4 with trackCeiling := track } } with
    settings := { Settings.cold with priorityMask := mask }, slotsInUse := slots }

/-- The left hoist reports 2020 (raw 0x07D8): the opening becomes 2010, above a ceiling of 1985 with arrive_tol 25 by nothing, and
above 1984 by one. -/
theorem meets_ExcursionsAreFollowedOrReported :
    (told (under 1984 false 7) 0x07 0xD8 0).HasQuietReport (report 0x07 0xD8 0) [] 4 .left 0x07 0xD8 .atRest ∧
    ((under 1984 false 7).gate 4).motion = .idle ∧ (under 1984 false 7).evalDue = false ∧
    (((told (under 1984 false 7) 0x07 0xD8 0).reported (report 0x07 0xD8 0) [] 4 .left 0x07 0xD8 .atRest).gate 4).opening =
      some 2010 ∧
    ((under 1984 false 7).gate 4).opening ≠ some 2010 ∧ ((under 1985 false 7).gate 4).ceiling = some 1985 ∧
    2010 ≤ 1985 + gate4.arriveTol ∧ 1984 + gate4.arriveTol < 2010 ∧ ((under 1984 false 7).record 4).trackCeiling = false ∧
    ((under 1984 false 7).gate 4).excursionReported = false ∧ (under 1984 false 7).linkingToward 4 = [] ∧
    ((under 1984 true 7).record 4).trackCeiling = true ∧ (under 1984 true 7).stopAsserted = false ∧
    (under 1984 true 3).AllMasked ∧ (under 1984 true 7 1).AllMasked ∧ (under 1984 true 3).Masked 4 ∧
    ¬ (under 1984 true 7 1).Masked 4 ∧ (under 1984 true 7 1).settings.slots ≤ (under 1984 true 7 1).slotsInUse ∧
    ((moving.gate 4).motion ≠ .idle) :=
  ⟨quiet _ _ _ _ _ (some 20) (by decide) (.inl ⟨rfl, rfl⟩) (by decide) (by decide), by decide, by decide, by decide, by decide,
   by decide, by decide, by decide, by decide, by decide, by decide, by decide, by decide, nothing_waits _ (by decide),
   nothing_waits _ (by decide), by unfold State.Masked; decide⟩

/-- POSITION (R73): the ENVELOPE request at default_priority 4, or the one EXCURSION notice. -/
theorem test_position_excursion :
    ((after (exec .position (told (under 1984 true 3) 0x07 0xD8 0))).gate 4).motion = .pending
      { target := 1984, level := 4, origin := .envelope, clampReported := false, waitReason := .masked } ∧
    (after (exec .position (told (under 1984 false 7) 0x07 0xD8 0))).notices =
      [{ notice := .excursion 4 2010 1984, stamp := 0 }] := by decide

/-- POSITION (R121, R65): both at rest 25 from the target the gate has ARRIVED and is IDLE; 26 away it is held, SHORTFALL. -/
theorem test_position_rest :
    let near := after (exec .position (heard (resting 2325 2300) 9 0 0x50#8 [0x08, 0xF0, 0]))
    let far := after (exec .position (heard (resting 2326 2300) 9 0 0x50#8 [0x08, 0xF0, 0]))
    (near.gate 4).motion = .idle ∧ near.slotsInUse = 0 ∧ near.notices = [{ notice := .arrived 4 2300, stamp := 0 }] ∧
    (far.gate 4).motion = .hold { primary := .shortfall, further := [] } (some { target := 2326, level := 4 }) := by decide

/-- Gate 4 waits for its hoists to acknowledge RUN. -/
def starting (acks : SideSet) : State := barrage (.starting req4 { leg4 with acks := acks } 1000) 2150

/-- The same under PULSED. -/
def pulsed (acks : SideSet) : State :=
  (starting acks).setGate 4 { (starting acks).gate 4 with record := { gate4 with handshake := .pulsed } }

theorem meets_StartEvidenceStartsTheTravel_pulsed :
    (told (pulsed .empty) 0x08 0x5A 1).HasQuietReport (report 0x08 0x5A 1) [] 4 .left 0x08 0x5A .moving ∧
    (told (pulsed .empty) 0x08 0x5A 0).HasQuietReport (report 0x08 0x5A 0) [] 4 .left 0x08 0x5A .atRest ∧
    ((pulsed .empty).gate 4).motion = .starting req4 leg4 1000 ∧ ((pulsed .empty).record 4).handshake = .pulsed ∧
    leg4.paused = none ∧ (pulsed .empty).evalDue = false ∧ (pulsed .empty).linkingToward 4 = [] ∧
    skewOf (pulsed .empty) 0x08 0x5A = some 0 ∧ (0 : Int).natAbs ≤ ((pulsed .empty).record 4).trim ∧
    (leg4.acks.left && leg4.acks.right) = false :=
  ⟨quiet _ _ _ _ _ (some 0) (by decide) (.inr (.inl ⟨rfl, rfl⟩)) (by decide) (by decide),
   quiet _ _ _ _ _ (some 0) (by decide) (.inl ⟨rfl, rfl⟩) (by decide) (by decide), by decide⟩

/-- POSITION (R113): the second hoist that reports MOVING starts the travel. -/
theorem test_position_pulsed :
    ((after (exec .position (told (pulsed { left := false, right := true }) 0x08 0x5A 1))).gate 4).motion =
      .travelling req4 leg4 := by decide

theorem meets_StartEvidenceStartsTheTravel :
    (heard (starting .empty) 9 0 0x51#8 [0x40]).HasHoistReport (fromField 9 0 0x51#8 [0x40]) [] 0x51#8 4 .left ∧
    ((starting .empty).gate 4).motion = .starting req4 leg4 1000 ∧ ((starting .empty).record 4).handshake = .interlocked ∧
    (fromField 9 0 0x51#8 [0x40]).frame.payload = [0x40#8] ∧ (fromField 9 0 0x51#8 [0x41]).frame.payload ≠ [0x40#8] ∧
    (heard moving 9 0 0x51#8 [0x40]).HasHoistReport (fromField 9 0 0x51#8 [0x40]) [] 0x51#8 4 .left ∧
    (moving.gate 4).motion.holdsSlot = true := by
  unfold State.HasHoistReport; decide

/-- ACK (R112, R64): the first side is noted, the second begins the travel with an empty set. -/
theorem test_ack :
    ((after (exec .ack (heard (starting .empty) 10 0 0x51#8 [0x40]))).gate 4).motion =
      .starting req4 { leg4 with acks := { left := false, right := true } } 1000 ∧
    ((after (exec .ack (heard (starting { left := false, right := true }) 9 63 0x51#8 [0x40]))).gate 4).motion =
      .travelling req4 leg4 := by decide

/-- Two fresh gauges upstream, numbers 0 and 1. -/
def paired (v w : Int) (disagree : Bool) : State :=
  let s := moving.setGauge 1 (gaugeAt .upstream 41 w 7)
  { s.setGauge 0 (gaugeAt .upstream 40 v 5) with upstream := { s.upstream with disagree := disagree } }

theorem meets_SideValuesFollowTheFreshestGauges :
    (∀ n v a, ¬ State.reset.FreshAt .upstream n v a) ∧
    (moving.FreshAt .upstream 0 1900 0 ∧ ∀ m w e, moving.FreshAt .upstream m w e → m = 0) ∧
    (paired 1200 1051 false).FreshAt .upstream 0 1200 5 ∧ (paired 1200 1051 false).FreshAt .upstream 1 1051 7 ∧
    (∀ k x i, (paired 1200 1051 false).FreshAt .upstream k x i → k = 0 ∨ k = 1) ∧
    ((1200 : Int) - 1050).natAbs ≤ (paired 1200 1050 false).settings.gaugeAgree ∧
    (paired 1200 1049 false).settings.gaugeAgree < ((1200 : Int) - 1049).natAbs ∧
    ((paired 1200 1049 true).bank .upstream).disagree = true := by
  have none_enabled : ∀ n, (State.reset.gauge n).record.enabled = false := by decide
  have zero_alone : ∀ m, (moving.gauge m).record.bank = .upstream → (moving.gauge m).record.enabled = true → m = 0 := by
    decide
  have two : ∀ k, ((paired 1200 1051 false).gauge k).record.bank = .upstream →
      ((paired 1200 1051 false).gauge k).record.enabled = true → k = 0 ∨ k = 1 := by decide
  refine ⟨?_, ⟨by unfold State.FreshAt; decide, fun m w e h => zero_alone m h.1 h.2.1⟩, by unfold State.FreshAt; decide,
    by unfold State.FreshAt; decide, fun k x i h => two k h.1 h.2.1, by decide, by decide, by decide⟩
  rintro n v a ⟨_, h, _⟩
  rw [none_enabled n] at h; cases h

/-- The side value (R26, R27): 1200 and 1051 average to 1125 rounded down; −1200 and −1051 to −1126; 1200 and 1049, further apart
than 150, leave both and post GAUGE_DISAGREE once. -/
theorem test_sideValue :
    ((paired 1200 1051 true).recomputeBank .upstream).upstream = { value := some { hi := 1125, lo := 1125 }, disagree := false } ∧
    ((paired (-1200) (-1051) true).recomputeBank .upstream).upstream.value = some { hi := -1126, lo := -1126 } ∧
    ((paired 1049 1200 false).recomputeBank .upstream).upstream = { value := some { hi := 1200, lo := 1049 }, disagree := true } ∧
    ((paired 1049 1200 false).recomputeBank .upstream).notices =
      [{ notice := .gaugeDisagree .upstream 1049 1200, stamp := 0 }] ∧
    ((paired 1049 1200 true).recomputeBank .upstream).notices = [] := by decide

theorem meets_LevelSamplesAreAcceptedOrRejected :
    (heard moving 40 0 0x58#8 [0x4E, 0x20, 0]).HasLevelReport (fromField 40 0 0x58#8 [0x4E, 0x20, 0]) [] 0 ∧
    signed16 (0x4E * 256 + 0x20) + (moving.gauge 0).record.datumOffset = 20000 ∧
    (moving.gauge 0).record.enabled = true ∧ (moving.gauge 0).record.lowPlaus ≤ 20000 ∧
    20000 ≤ (moving.gauge 0).record.highPlaus ∧
    (heard moving 40 0 0x58#8 [0x4E, 0x21, 0]).HasLevelReport (fromField 40 0 0x58#8 [0x4E, 0x21, 0]) [] 0 ∧
    (moving.gauge 0).record.highPlaus < signed16 (0x4E * 256 + 0x21) + (moving.gauge 0).record.datumOffset ∧
    (heard moving 42 63 0x58#8 [0, 0, 1]).HasLevelReport (fromField 42 63 0x58#8 [0, 0, 1]) [] 2 ∧
    (heard moving 40 0 0x58#8 [0]).HasLevelReport (fromField 40 0 0x58#8 [0]) [] 0 ∧ [0#8].length ≠ 3 := by
  unfold State.HasLevelReport; decide

/-- LEVEL (R28, R41, R66 and 04, 4.5): the upstream level rises to 4000, the head to 3000 and the ceiling falls to 2000, so gate 4,
raising to 2300 at 2150, is stopped to restart downward, and CLAMPED tells 4000 lowered to 2000. -/
theorem test_level :
    let t := after (exec .level (heard moving 40 0 0x58#8 [0x0F, 0xA0, 0]))
    t.head = some { fwd := 3000, rev := -3000 } ∧ (t.gate 4).ceiling = some 2000 ∧
    (t.gate 4).motion = .stopping (.restartLeg { req4 with clampReported := true }) leg4 2000 ∧ t.haltQueue = [9, 10] ∧
    { notice := .clamped 4 4000 2000 .ceiling, stamp := 0 } ∈ t.notices := by decide

/-- LEVEL (R29, R30, R38, R73): the upstream level falls to 700, H_rev reaches the limit of 300, the mode is REVERSE and the
ceilings 0. -/
theorem test_level_reverse :
    let t := after (exec .level (heard (barrage .idle) 40 0 0x58#8 [0x02, 0xBC, 0]))
    t.mode = .reverse ∧ (t.gate 4).ceiling = some 0 ∧
    t.notices = [{ notice := .reverseOn 300, stamp := 0 }, { notice := .excursion 3 1500 0, stamp := 0 },
                 { notice := .excursion 4 2000 0, stamp := 0 }, { notice := .excursion 5 3100 0, stamp := 0 }] := by decide

theorem meets_HeadModeAndCeilingsFollowTheTables :
    moving.notices.length < 15 ∧ moving.mode = .curve ∧
    (moving.settings.reverseLimit : Int) ≤ 300 ∧ { moving with mode := .reverse }.mode = .reverse ∧
    moving.head = some { fwd := 900, rev := -900 } ∧ (∀ g, (moving.gate g).ceiling = moving.computeCeiling (moving.gate g)) ∧
    (moving.record 4).inService = true ∧ (moving.newHead none).mode = .noHead ∧
    (moving.newHead (some { fwd := -300, rev := 300 })).mode = .reverse ∧
    (moving.newHead (some { fwd := -299, rev := 299 })).mode = .curve ∧
    ({ moving with mode := .reverse }.newHead (some { fwd := -199, rev := 199 })).mode = .curve ∧
    ({ moving with mode := .reverse }.newHead none).mode = .noHead ∧
    ({ moving with mode := .noHead }.newHead (some { fwd := -299, rev := 299 })).mode = .curve ∧
    ({ moving with mode := .noHead }.newHead (some { fwd := -300, rev := 300 })).mode = .reverse ∧
    (moving.newHead moving.head).mode = moving.mode := by decide

/-- Gate 4 idle, the upstream gauge at an age. -/
def ageing (age : Nat) : State := barrage .idle 2000 0 age

theorem meets_StaleGaugesRemoveTheHead :
    ((ageing 2001).gauge 0).value ≠ none ∧ ((ageing 2001).gauge 0).age = 2001 ∧ ((ageing 2001).gauge 0).record.enabled = true ∧
    ((ageing 2001).gauge 0).record.sampleWindow < 2001 ∧ (ageing 2001).LevelsSettled ∧
    (∀ m, m ≠ 0 → ((ageing 2001).gauge m).record.bank = ((ageing 2001).gauge 0).record.bank →
      ((ageing 2001).gauge m).fresh = none) ∧
    ((ageing 2000).gauge 0).value ≠ none ∧ ((ageing 2000).gauge 0).age ≤ ((ageing 2000).gauge 0).record.sampleWindow :=
  ⟨by decide, by decide, by decide, by decide, ⟨by decide, by decide, by decide⟩, by decide, by decide, by decide⟩

/-- GAUGE_STALE (R24, R29, R30). -/
theorem test_gaugeStale :
    let t := after (exec (.gaugeStale 0) (ageing 2001))
    t.mode = .noHead ∧ (t.gate 4).ceiling = none ∧ t.notices = [{ notice := .noHeadOn, stamp := 0 }] := by decide

/-! ### Motion requests -/

theorem meets_RefusedMotionRequestsChangeNothing :
    (asked moving 0x10#8 [12, 0, 0]).HasRequest 0x10#8 [12, 0, 0] [] ∧ 11 < (12#8).toNat ∧
    (asked moving 0x11#8 [12]).HasRequest 0x11#8 [12] [] ∧ (asked moving 0x13#8 [255]).HasRequest 0x13#8 [255] [] ∧
    (asked moving 0x12#8 [0, 16, 2, 0, 0]).HasRequest 0x12#8 [0, 16, 2, 0, 0] [] ∧ asksGroup [0, 16, 2, 0, 0] 2 16 0 1 ∧
    (asked stopped 0x10#8 [4, 0, 1]).HasRequest 0x10#8 [4, 0, 1] [] ∧ stopped.AsksMove 4 [4, 0, 1] 1 4 ∧
    stopped.stopAsserted = true ∧ (asked stopped 0x12#8 [0, 16, 1, 0, 0, 9]).HasRequest 0x12#8 [0, 16, 1, 0, 0, 9] [] ∧
    asksGroup [0, 16, 1, 0, 0, 9] 1 16 0 7 ∧
    (asked moving 0x10#8 [4, 0, 1, 5]).HasRequest 0x10#8 [4, 0, 1, 5] [] ∧ moving.AsksMove 4 [4, 0, 1, 5] 1 5 ∧
    moving.stopAsserted = false ∧ (moving.gate 4).motion.request = some req4 ∧ req4.level < 5 :=
  ⟨requested _ _ _ (by decide), by decide, requested _ _ _ (by decide), requested _ _ _ (by decide),
   requested _ _ _ (by decide), ⟨0, 16, 0, 0, rfl, rfl, .inl ⟨rfl, rfl⟩⟩, requested _ _ _ (by decide),
   ⟨0, 1, rfl, .inl ⟨rfl, rfl⟩⟩, rfl, requested _ _ _ (by decide), ⟨0, 16, 0, 0, rfl, rfl, .inr ⟨9, rfl, rfl⟩⟩,
   requested _ _ _ (by decide), ⟨0, 1, rfl, .inr ⟨5, rfl, rfl⟩⟩, rfl, by decide, by decide⟩

/-- GROUP_INVALID_ACTION (R94). -/
theorem test_groupInvalidAction :
    (after (exec .groupInvalidAction (asked moving 0x12#8 [0, 16, 2, 0, 0]))).replies =
      [{ kind := 0x12#8, result := .invalid, detail := 2, data := [] }] := by decide

theorem meets_MovesToGatesThatCannotMoveAreKept :
    (asked moving 0x10#8 [4, 0x1F, 0x41]).HasRequest 0x10#8 [4, 0x1F, 0x41] [] ∧
    moving.AsksMove 4 [4, 0x1F, 0x41] 8001 4 ∧ moving.stopAsserted = false ∧ moving.evalDue = false ∧
    (∃ d, ((barrage (.outOfService none)).gate 4).motion = .outOfService d) ∧
    (∃ h d, (heldTwice.gate 4).motion = .hold h d) ∧
    (∃ c l w, ((barrage (.stopping (.outOfService none) leg4 9)).gate 4).motion = .stopping (.outOfService c) l w) ∧
    (∃ l w, ((barrage (.stopping .idle leg4 9)).gate 4).motion = .stopping .idle l w) ∧
    (∃ r l w, ((barrage (.stopping (.restartLeg req4) leg4 9)).gate 4).motion = .stopping (.restartLeg r) l w ∧ 4 ≤ r.level) ∧
    ∃ r l w, ((barrage (.stopping (.requeue req4) leg4 9)).gate 4).motion = .stopping (.requeue r) l w ∧ 4 ≤ r.level :=
  ⟨requested _ _ _ (by decide), ⟨0x1F, 0x41, rfl, .inl ⟨rfl, rfl⟩⟩, rfl, rfl, ⟨none, by decide⟩, ⟨_, _, heldTwice_motion⟩,
   ⟨none, leg4, 9, by decide⟩, ⟨leg4, 9, by decide⟩, ⟨req4, leg4, 9, by decide⟩, ⟨req4, leg4, 9, by decide⟩⟩

theorem meets_MovesOfIdleGatesAreGranted :
    (asked (barrage .idle) 0x10#8 [4, 0x07, 0xE9]).HasRequest 0x10#8 [4, 0x07, 0xE9] [] ∧
    (barrage .idle).AsksMove 4 [4, 0x07, 0xE9] 2025 4 ∧ distance 2025 2000 ≤ ((barrage .idle).record 4).arriveTol ∧
    (asked (barrage .idle) 0x10#8 [4, 0x0F, 0xA0, 0]).HasRequest 0x10#8 [4, 0x0F, 0xA0, 0] [] ∧
    (barrage .idle).AsksMove 4 [4, 0x0F, 0xA0, 0] 4000 0 ∧ (barrage .idle).stopAsserted = false ∧
    (barrage .idle).evalDue = false ∧ ((barrage .idle).gate 4).motion = .idle ∧ ((barrage .idle).gate 4).opening = some 2000 ∧
    (barrage .idle).decideFor 4 4000 =
      { decision := .legNeeded { target := 2300, direction := .raise, speed := 300, deadline := 70000 }, clampedTo := none } ∧
    (barrage .idle).waiting = [] ∧ (barrage .idle).slotsInUse < (barrage .idle).settings.slots ∧
    staleUnder gate4.sampleWindow ((barrage .idle).gate 4).left = false ∧
    staleUnder gate4.sampleWindow ((barrage .idle).gate 4).right = false ∧ (barrage .idle).grantCounter < 4294967295 ∧
    (∀ a, gate4.leftHoist = some a → gate4.rightHoist ≠ some a) ∧ (barrage .idle).notices.length < 16 ∧
    4 ≤ (barrage .idle).settings.priorityMask :=
  ⟨requested _ _ _ (by decide), ⟨0x07, 0xE9, rfl, .inl ⟨rfl, by decide⟩⟩, by decide, requested _ _ _ (by decide),
   ⟨0x0F, 0xA0, rfl, .inr ⟨0, rfl, rfl⟩⟩, by decide⟩

/-- MOVE (03, 3.5.1 and R54): gate 4 is granted its leg to 2300 with a deadline of 70000 and raw targets 2288 and 2307. -/
theorem test_move_granted :
    let t := after (exec .move (asked (barrage .idle) 0x10#8 [4, 0x0F, 0xA0]))
    (t.gate 4).motion = .starting req4 leg4 1000 ∧ t.orderQueue = [.run 9 2288 300, .run 10 2307 300] ∧ t.slotsInUse = 1 ∧
    t.replies = [{ kind := 0x10#8, result := .accepted, detail := 0, data := [0x0F, 0xA0, 4] }] := by decide

/-- Gate 4 in a motion state under a mask and with slots in use of one. -/
def queued (m : Motion) (mask slots : Nat) : State :=
  { barrage m with settings := { Settings.cold with priorityMask := mask }, slotsInUse := slots }

/-- Gate 4 waits for a slot. -/
def waiting4 : State := barrage (.pending req4)

theorem meets_MovesWaitInThePendingList :
    (asked (queued .idle 3 0) 0x10#8 [4, 0x0F, 0xA0]).HasRequest 0x10#8 [4, 0x0F, 0xA0] [] ∧
    (queued .idle 3 0).AsksMove 4 [4, 0x0F, 0xA0] 4000 4 ∧ (queued .idle 3 0).stopAsserted = false ∧
    (queued .idle 3 0).evalDue = false ∧ ((queued .idle 3 0).gate 4).motion = .idle ∧ (queued .idle 3 0).waiting = [] ∧
    ((queued .idle 3 0).gate 4).opening = some 2000 ∧ gate4.arriveTol < distance (min 4000 gate4.fullTravel) 2000 ∧
    (queued .idle 3 0).Masked 4 ∧ ¬ (queued .idle 7 1).Masked 4 ∧ (queued .idle 7 1).settings.slots ≤ 1 ∧
    (queued .idle 7 0).slotsInUse < (queued .idle 7 0).settings.slots ∧
    ((queued .idle 7 0).decideFor 4 1000).decision = .blocked (some .spread) ∧
    ((queued (.pending req4) 3 0).gate 4).motion = .pending req4 ∧ 4 ≤ req4.level ∧ (queued (.pending req4) 3 0).waiting = [4] ∧
    ((queued (.pending req4) 7 0).decideFor 4 1000).decision = .blocked (some .spread) ∧
    ((queued (.pending req4) 7 0).decideFor 4 4000).decision =
      .legNeeded { target := 2300, direction := .raise, speed := 300, deadline := 70000 } ∧
    (queued (.pending req4) 7 0).grantCounter < 4294967295 ∧
    staleUnder gate4.sampleWindow ((queued (.pending req4) 7 0).gate 4).left = false ∧
    staleUnder gate4.sampleWindow ((queued (.pending req4) 7 0).gate 4).right = false ∧
    ((queued (.pending req4) 7 0).decideFor 4 2025).decision = .satisfied ∧
    ((queued (.pending req4) 7 0).gate 4).excursion = none ∧
    (∀ h, h ≠ 4 → ((queued (.pending req4) 7 1).gate h).motion.isPending = false) :=
  ⟨requested _ _ _ (by decide), ⟨0x0F, 0xA0, rfl, .inl ⟨rfl, by decide⟩⟩, by unfold State.Masked; decide⟩

/-- MOVE (R58, R59, R60): an idle gate waits for a slot, a waiting one is granted with its new target. -/
theorem test_move_waits :
    let t := after (exec .move (asked (queued .idle 7 1) 0x10#8 [4, 0x0F, 0xA0]))
    t.waiting = [4] ∧ (t.gate 4).motion = .pending req4 ∧ t.orderQueue = [] ∧
    ((after (exec .move (asked (queued (.pending req4) 7 0) 0x10#8 [4, 0x08, 0xCA]))).gate 4).motion.leg.map Leg.target =
      some 2250 := by decide

theorem meets_MovesRetargetMovingGates :
    (asked moving 0x10#8 [4, 0x07, 0x08, 3]).HasRequest 0x10#8 [4, 0x07, 0x08, 3] [] ∧
    moving.AsksMove 4 [4, 0x07, 0x08, 3] 1800 3 ∧ moving.stopAsserted = false ∧ moving.evalDue = false ∧
    (moving.gate 4).motion = .travelling req4 leg4 ∧ 3 ≤ req4.level ∧ (moving.gate 4).opening ≠ none ∧
    ((starting .empty).gate 4).motion = .starting req4 leg4 1000 ∧
    (moving.decideFor 4 2150).decision = .satisfied ∧ (moving.decideFor 4 1800).decision = .blocked (some .spread) ∧
    (moving.decideFor 4 2250).decision = .legNeeded { target := 2250, direction := .raise, speed := 300, deadline := 30000 } ∧
    ((barrage (.travelling req4 { leg4 with direction := .lower }) 2150).gate 4).motion =
      .travelling req4 { leg4 with direction := .lower } ∧ Direction.lower ≠ .raise ∧
    (moving.decideFor 4 4000).decision = .legNeeded { target := 2300, direction := .raise, speed := 300, deadline := 40000 } ∧
    ((trimming (some .left)).gate 4).motion = .travelling req4 { leg4 with paused := some .left } ∧
    gate4.leftHoist = some 9 ∧ gate4.rightHoist = some 10 ∧
    (moving.record 4).handshake = .interlocked ∧ ((pulsed .empty).record 4).handshake = .pulsed ∧
    ((pulsed .empty).gate 4).motion = .starting req4 leg4 1000 :=
  ⟨requested _ _ _ (by decide), ⟨0x07, 0x08, rfl, .inr ⟨3, rfl, rfl⟩⟩, by decide⟩

/-- MOVE (R67): a raising gate goes on to 2250 with a new RUN and a new deadline, waiting again for its ACKs. -/
theorem test_move_retargets :
    let t := after (exec .move (asked moving 0x10#8 [4, 0x08, 0xCA]))
    (t.gate 4).motion = .starting { req4 with target := 2250 } { leg4 with target := 2250, deadline := 30000 } 1000 ∧
    t.orderQueue = [.run 9 2238 300, .run 10 2257 300] := by decide

/-- MOVE (R67, R69): the paused hoist has its RESUME before the RUN of both; a leg the other way is stopped. -/
theorem test_move_orders :
    (after (exec .move (asked (trimming (some .left)) 0x10#8 [4, 0x08, 0xCA]))).orderQueue =
      [.resume 9, .run 9 2238 300, .run 10 2257 300] ∧
    let t := after (exec .move (asked
      { barrage (.travelling req4 { leg4 with direction := .lower }) 2150 with orderQueue := [.run 9 1 300, .run 7 1 300] }
      0x10#8 [4, 0x08, 0xCA]))
    t.haltQueue = [9, 10] ∧ t.orderQueue = [.run 7 1 300] := by decide

theorem meets_StopActsByTheGateState :
    (asked moving 0x11#8 [byte (4 : GateId).val]).HasRequest 0x11#8 [byte (4 : GateId).val] [] ∧ moving.evalDue = false ∧
    (∃ d, ((barrage (.outOfService none)).gate 4).motion = .outOfService d) ∧ ((barrage .idle).gate 4).motion = .idle ∧
    (waiting4.gate 4).motion = .pending req4 ∧ (waiting4.gate 4).excursion = none ∧
    (moving.gate 4).motion = .travelling req4 leg4 ∧ ((starting .empty).gate 4).motion = .starting req4 leg4 1000 ∧
    (∃ c l w, ((barrage (.stopping (.outOfService none) leg4 9)).gate 4).motion = .stopping (.outOfService c) l w) ∧
    (∃ n l w, ((barrage (.stopping (.requeue req4) leg4 9)).gate 4).motion = .stopping n l w ∧ ∀ c, n ≠ .outOfService c) ∧
    ∃ h d, (heldTwice.gate 4).motion = .hold h d :=
  ⟨requested _ _ _ (by decide), rfl, ⟨none, by decide⟩, by decide, by decide, by decide, by decide, by decide,
   ⟨none, leg4, 9, by decide⟩, ⟨.requeue req4, leg4, 9, by decide, nofun⟩, ⟨_, _, heldTwice_motion⟩⟩

/-- STOP (R61): a pending request is discarded; a deferred target is, and the hold stands. -/
theorem test_stop :
    ((after (exec .stop (asked waiting4 0x11#8 [4]))).gate 4).motion = .idle ∧
    (after (exec .stop (asked waiting4 0x11#8 [4]))).waiting = [] ∧
    ((after (exec .stop (asked heldTwice 0x11#8 [4]))).gate 4).motion =
      .hold { primary := .skew, further := [.stale] } none := by decide

theorem meets_GroupSetSortsTheNamedGates :
    (asked heldTwice 0x12#8 [0, 0x30, 1, 0, 0]).HasRequest 0x12#8 [0, 0x30, 1, 0, 0] [] ∧
    asksGroup [0, 0x30, 1, 0, 0] 1 0x30 0 1 ∧ heldTwice.stopAsserted = false ∧
    ((allGates.filter fun g => named 0x30 g) = [4, 5]) ∧ (∃ h d, (heldTwice.gate 4).motion = .hold h d) ∧
    ((heldTwice.gate 0).motion.isOutOfService && (heldTwice.record 0).leftHoist.isNone &&
      (heldTwice.record 0).rightHoist.isNone) = true ∧
    ((barrage (.outOfService none)).gate 4).motion = .outOfService none ∧
    ((barrage (.stopping (.outOfService none) leg4 9)).gate 4).motion = .stopping (.outOfService none) leg4 9 ∧
    ((barrage (.stopping .idle leg4 9)).gate 4).motion = .stopping .idle leg4 9 ∧
    ((barrage (.stopping (.restartLeg req4) leg4 9)).gate 4).motion = .stopping (.restartLeg req4) leg4 9 ∧
    ((barrage (.stopping (.requeue req4) leg4 9)).gate 4).motion = .stopping (.requeue req4) leg4 9 ∧
    ((queued .idle 0 1).gate 4).motion = .idle ∧ ((queued .idle 0 1).gate 4).opening = some 2000 ∧
    distance 2025 2000 ≤ gate4.arriveTol ∧ gate4.arriveTol < distance 0 2000 ∧ (queued .idle 0 1).Masked 1 ∧
    ¬ (queued .idle 7 1).Masked 1 ∧ (queued .idle 0 1).settings.slots ≤ (queued .idle 0 1).slotsInUse ∧
    ((queued (.pending req4) 0 1).gate 4).motion = .pending req4 ∧ 4 ∈ (queued (.pending req4) 0 1).waiting ∧
    1 ≤ req4.level ∧ (moving.gate 4).motion = .travelling req4 leg4 ∧ ((starting .empty).gate 4).motion = .starting req4 leg4 1000 ∧
    (moving.decideFor 4 2150).decision = .satisfied ∧ (moving.decideFor 4 0).decision = .blocked (some .spread) ∧
    ((oneSided none).decideFor 4 0).decision = .blocked none ∧ ((oneSided none).gate 4).motion = .travelling req4 leg4 ∧
    (moving.decideFor 4 2250).decision = .legNeeded { target := 2250, direction := .raise, speed := 300, deadline := 30000 } ∧
    ((barrage (.travelling req4 { leg4 with direction := .lower }) 2150).gate 4).motion =
      .travelling req4 { leg4 with direction := .lower } :=
  ⟨requested _ _ _ (by decide), ⟨0, 0x30, 0, 0, rfl, rfl, .inl ⟨rfl, rfl⟩⟩, by decide, by decide, ⟨_, _, heldTwice_motion⟩,
   by unfold State.Masked; decide⟩

/-- GROUP_SET (R95, R175): of gates 0, 4 and 5 at level 1 and target 9000, gate 0 names no hoist and refuses; gate 4 is held and
keeps the target lowered to 8000. -/
theorem test_groupSet :
    let t := after (exec .groupSet (asked heldTwice 0x12#8 [0, 0x31, 1, 0x23, 0x28]))
    t.replies = [{ kind := 0x12#8, result := .accepted, detail := 0, data := [0, 0x30, 0, 0x01, 1] }] ∧
    (t.gate 4).motion.storedTarget = some { target := 8000, level := 1 } ∧
    { notice := .clamped 4 9000 8000 .travel, stamp := 0 } ∈ t.notices := by decide

theorem meets_GroupStopStopsTheNamedGates :
    (asked moving 0x12#8 [0x0F, 0xFF, 0, 0, 0]).HasRequest 0x12#8 [0x0F, 0xFF, 0, 0, 0] [] ∧
    asksGroup [0x0F, 0xFF, 0, 0, 0] 0 0x0FFF 0 1 ∧ named 0x0FFF 4 = true ∧ (moving.gate 4).motion = .travelling req4 leg4 ∧
    ((starting .empty).gate 4).motion = .starting req4 leg4 1000 ∧
    ((barrage (.stopping (.requeue req4) leg4 9)).gate 4).motion = .stopping (.requeue req4) leg4 9 ∧
    (∀ c, NextStep.requeue req4 ≠ .outOfService c) ∧
    ((barrage (.stopping (.outOfService none) leg4 9)).gate 4).motion = .stopping (.outOfService none) leg4 9 ∧
    (heldTwice.gate 4).motion = .hold { primary := .skew, further := [.stale] } (some kept4) ∧
    (moving.gate 11).motion = .outOfService none ∧ (moving.gate 5).motion = .idle ∧ moving.evalDue = false ∧
    (∀ g, (moving.gate g).motion.isPending = false) ∧
    (waiting4.gate 4).motion = .pending req4 ∧ (waiting4.gate 4).excursion = none ∧ waiting4.evalDue = false :=
  ⟨requested _ _ _ (by decide), ⟨0x0F, 0xFF, 0, 0, rfl, rfl, .inl ⟨rfl, rfl⟩⟩, by decide, by decide, by decide, by decide,
   nofun, by decide⟩

/-- Gate 4 waits, would follow its ceiling, and stands above it. -/
def above4 : State :=
  let s := barrage (.pending req4)
  s.setGate 4 { s.gate 4 with record := { gate4 with trackCeiling := true }, ceiling := some 1000 }

theorem meets_GroupStopStopsTheNamedGates_follows :
    (above4.gate 4).motion = .pending req4 ∧ (above4.record 4).trackCeiling = true ∧ above4.stopAsserted = false ∧
    (above4.gate 4).excursion = some (2000, 1000) := by decide

/-- GROUP_STOP (R61, R96): a PENDING gate is IDLE and no longer in the list, an IDLE one stays so; one above the ceiling that it
follows asks for that ceiling (R73), and its leg starts. -/
theorem test_groupStop_pending :
    let t := after (exec .groupStop (asked { waiting4 with slotsInUse := 1 } 0x12#8 [0x00, 0x30, 0, 0, 0]))
    (t.gate 4).motion = .idle ∧ (t.gate 5).motion = .idle ∧ t.waiting = [] ∧
    ((after (exec .groupStop (asked above4 0x12#8 [0x00, 0x10, 0, 0, 0]))).gate 4).motion.request.map
      (fun q => (q.target, q.origin)) = some (1000, .envelope) := by decide

/-- GROUP_STOP (R96): gates 4 and 11 in the effect mask, gate 4 stopping. -/
theorem test_groupStop :
    let t := after (exec .groupStop (asked moving 0x12#8 [0x08, 0x10, 0, 0, 0]))
    t.replies = [{ kind := 0x12#8, result := .accepted, detail := 0, data := [0x08, 0x10, 0, 0, 1] }] ∧
    (t.gate 4).motion = .stopping .idle leg4 2000 ∧ t.haltQueue = [9, 10] := by decide

/-- Gate 4 held for one reason that its samples do not show any more. -/
def heldOnce : State := barrage (holdFor .timeout)

/-- Gate 4 held for STALE with samples at an age. -/
def heldStale (age : Nat) : State := barrage (holdFor .stale) 2000 age

theorem meets_HoldsClearByRequestOrFreshReports :
    (asked moving 0x13#8 [byte (4 : GateId).val]).HasRequest 0x13#8 [byte (4 : GateId).val] [] ∧ heldOnce.evalDue = false ∧
    (∀ h d, (moving.gate 4).motion ≠ .hold h d) ∧ (heldOnce.gate 4).motion = holdFor .timeout ∧
    (∀ x ∈ HoldReason.timeout :: [], ¬ (heldOnce.gate 4).reasonPresent x) ∧ (heldOnce.record 4).inService = true ∧
    (heldOnce.gate 4).excursion = none ∧ (heldStale 4001).gate 4 = standing gate4 (holdFor .stale) 2000 4001 ∧
    ((heldStale 4001).gate 4).reasonPresent .stale ∧ ¬ ((heldStale 4000).gate 4).reasonPresent .stale := by
  refine ⟨requested _ _ _ (by decide), rfl, ?_, by decide, ?_, by decide, by decide, by decide, ?_, ?_⟩
  · have e : (moving.gate 4).motion = .travelling req4 leg4 := by decide
    rw [e]; nofun
  · rintro x (_ | ⟨_, ⟨⟩⟩); exact id
  · have e : (heldStale 4001).gate 4 = standing gate4 (holdFor .stale) 2000 4001 := by decide
    rw [e]; exact ⟨.left, by rintro v ⟨⟩; decide⟩
  · have e : (heldStale 4000).gate 4 = standing gate4 (holdFor .stale) 2000 4000 := by decide
    rw [e]; rintro ⟨side, h⟩
    cases side
    · exact absurd (h _ rfl) (by decide)
    · exact absurd (h _ rfl) (by decide)

/-- Gate 4 held with a primary and further reasons, a deferred target, and its right sample at an age. -/
def held (primary : HoldReason) (further : List HoldReason) (kept : Option Target) (age : Nat) : State :=
  barrage (.hold { primary := primary, further := further } kept) 2000 age

theorem meets_HoldsClearByRequestOrFreshReports_reports :
    (told (held .stale [] none 4000) 0x07 0xC4 0).HasQuietReport (report 0x07 0xC4 0) [] 4 .left 0x07 0xC4 .atRest ∧
    ((held .stale [] none 4000).gate 4).motion = .hold { primary := .stale, further := [] } none ∧
    (held .stale [] none 4000).evalDue = false ∧
    staleUnder (8 * gate4.sampleWindow) (((held .stale [] none 4000).gate 4).sample .right) = false ∧
    staleUnder (8 * gate4.sampleWindow) (((held .stale [] none 4001).gate 4).sample .right) = true ∧
    ((held .skew [.stale, .hoistFault] none 0).gate 4).motion =
      .hold { primary := .skew, further := [.stale, .hoistFault] } none ∧
    ([.stale, .hoistFault] : List HoldReason).filter (· ≠ .stale) = [.hoistFault] ∧
    ((held .stale [.skew] none 0).gate 4).motion = .hold { primary := .stale, further := [.skew] } none ∧
    ((held .stale [] (some kept4) 0).gate 4).motion = .hold { primary := .stale, further := [] } (some kept4) ∧
    ((held .stale [] (some kept4) 0).record 4).inService = true ∧ (held .stale [] (some kept4) 0).stopAsserted = false ∧
    ((held .stale [] none 0).gate 4).excursion = none ∧ (held .stale [] none 0).notices.length < 15 ∧
    gate4.arriveTol < distance kept4.target 2000 ∧ distance 2025 2000 ≤ gate4.arriveTol :=
  ⟨quiet _ _ _ _ _ (some 0) (by decide) (.inl ⟨rfl, rfl⟩) (by decide) (by decide), by decide⟩

/-- POSITION (R76, R78): a fresh report ends a hold for STALE alone, marked AUTO, and uses up its deferred target; of two reasons
the other stays, with its HELD; with the other hoist stale nothing is cleared. -/
theorem test_position_clears :
    let ended := after (exec .position (told (held .stale [] (some kept4) 500) 0x07 0xC4 0))
    ended.notices.head? = some { notice := .holdCleared 4 .auto, stamp := 0 } ∧
    (ended.gate 4).motion.request.map Request.target = some 3000 ∧
    ((after (exec .position (told (held .stale [.skew] none 4000) 0x07 0xC4 0))).gate 4).motion = holdFor .skew ∧
    ((after (exec .position (told (held .stale [] none 4001) 0x07 0xC4 0))).gate 4).motion = holdFor .stale := by decide

/-- CLEAR_HOLD (R77, R78): STALE is still present at an age above 8 × 500 and not at 4000. -/
theorem test_clearHold :
    (after (exec .clearHold (asked (heldStale 4001) 0x13#8 [4]))).replies =
      [{ kind := 0x13#8, result := .stillPresent, detail := 2, data := [] }] ∧
    ((after (exec .clearHold (asked (heldStale 4000) 0x13#8 [4]))).gate 4).motion = .idle ∧
    (after (exec .clearHold (asked (heldStale 4000) 0x13#8 [4]))).faultN = false ∧
    (after (exec .clearHold (asked (heldStale 4000) 0x13#8 [4]))).notices =
      [{ notice := .holdCleared 4 .request, stamp := 0 }] := by decide

/-! ### Tables, status and time -/

theorem meets_ReadsReturnTheRecordsAsTheyStand :
    (asked moving 0x20#8 [0, byte 11]).HasRequest 0x20#8 [0, byte 11] [] ∧
    (asked moving 0x20#8 [5, 1]).HasRequest 0x20#8 [5, 1] [] ∧ (1 : Byte) ≠ 0 ∧
    (asked moving 0x20#8 [0, 12]).HasRequest 0x20#8 [0, 12] [] ∧ 11 < (12#8).toNat ∧
    (asked moving 0x20#8 [2, 4]).HasRequest 0x20#8 [2, 4] [] ∧ 3 < (4#8).toNat ∧
    (asked moving 0x20#8 [4, 64]).HasRequest 0x20#8 [4, 64] [] ∧ 63 < (64#8).toNat ∧
    (asked moving 0x20#8 [6, 0]).HasRequest 0x20#8 [6, 0] [] ∧ 5 < (6#8).toNat ∧
    (asked moving 0x22#8 [byte 11]).HasRequest 0x22#8 [byte 11] [] ∧
    (asked moving 0x22#8 [byte 4, 1]).HasRequest 0x22#8 [byte 4, 1] [] ∧ (1#8).toNat ≤ 1 ∧
    (asked moving 0x22#8 [byte 4, 2]).HasRequest 0x22#8 [byte 4, 2] [] ∧ 1 < (2#8).toNat ∧
    (asked moving 0x22#8 [12]).HasRequest 0x22#8 [12] [] :=
  ⟨requested _ _ _ (by decide), requested _ _ _ (by decide), by decide, requested _ _ _ (by decide), by decide,
   requested _ _ _ (by decide), by decide, requested _ _ _ (by decide), by decide, requested _ _ _ (by decide), by decide,
   requested _ _ _ (by decide), requested _ _ _ (by decide), by decide, requested _ _ _ (by decide), by decide,
   requested _ _ _ (by decide)⟩

/-- TABLE_READ (R164): gate 4's generation and record, and the binding of address 10. -/
theorem test_tableRead :
    (after (exec .tableRead (asked moving 0x20#8 [0, 4]))).replies =
      [{ kind := 0x20#8, result := .accepted, detail := 0, data := [0, 4, 0, 0] ++ gateRecord }] ∧
    (after (exec .tableRead (asked moving 0x20#8 [4, 10]))).replies =
      [{ kind := 0x20#8, result := .accepted, detail := 0, data := [4, 10, 0, 0, 3, 1, 0, 1, 4, 1] }] := by decide

/-- STATUS_READ part 1 (R170) of gate 4 travelling: request, no stored target, leg, no next step, no hold. -/
theorem test_statusRead :
    (after (exec .statusRead (asked moving 0x22#8 [4, 1]))).replies =
      [{ kind := 0x22#8, result := .accepted, detail := 0
         data := [4, 1, 4] ++ [1, 0x0F, 0xA0, 4, 0, 0, 0] ++ [0, 0, 0, 0] ++
           [1, 0x08, 0xFC, 0, 0x01, 0x2C, 0, 0x01, 0x11, 0x70, 0, 0, 0, 0, 0, 1] ++ [0, 0] ++
           [0, 0, 0, 0, 0, 0, 0, 0, 0, 0] }] := by decide

/-- STATUS_READ part 0 (R170) of the same gate: two samples corrected to 2150 from raw 2138 and 2157, opening 2150, skew 0 and
ceiling 7571. -/
theorem test_statusRead_part0 :
    (after (exec .statusRead (asked moving 0x22#8 [4]))).replies.map Reply.data =
      [[4, 0, 4] ++ [1, 0x08, 0x5A, 0x08, 0x66, 0, 0, 0, 0, 0, 0, 0, 0, 0, 0] ++
        [1, 0x08, 0x6D, 0x08, 0x66, 0, 0, 0, 0, 0, 0, 0, 0, 0, 0] ++ [1, 0x08, 0x66] ++ [1, 0, 0] ++ [1, 0x1D, 0x93] ++ [0]] := by
  decide

/-- The part with a count, a captured misroute and a clock. -/
def counted : State :=
  { moving with
    spCounters := { Counters.zero with good := 0x0102#16 }
    capture := some { port := .fp, src := 30, dst := 0, kind := 0x50#8, stamp := 7 }
    tideClock := 0x01020304#32 }

theorem meets_SnapshotMisrouteReadAndTimeSet :
    (asked counted 0x23#8 [1]).HasRequest 0x23#8 [1] [] ∧ (asked counted 0x24#8 []).HasRequest 0x24#8 [] [] ∧
    (asked counted 0x25#8 [0, 0, 1, 0]).HasRequest 0x25#8 [0, 0, 1, 0] [] :=
  ⟨requested _ _ _ (by decide), requested _ _ _ (by decide), requested _ _ _ (by decide)⟩

/-- COUNTER_SNAPSHOT (R171) with the clear flag, MISROUTE_READ (R172), TIME_SET (R173). -/
theorem test_counterSnapshot_misrouteRead_timeSet :
    (after (exec .counterSnapshot (asked counted 0x23#8 [1]))).replies.map Reply.data =
      [[0x01, 0x02] ++ List.replicate 26 0] ∧
    (after (exec .counterSnapshot (asked counted 0x23#8 [1]))).spCounters = .zero ∧
    (after (exec .misrouteRead (asked counted 0x24#8 []))).replies.map Reply.data = [[1, 1, 30, 0, 0x50, 0, 0, 0, 7]] ∧
    (after (exec .misrouteRead (asked counted 0x24#8 []))).capture = none ∧
    (after (exec .timeSet (asked counted 0x25#8 [0, 0, 1, 0]))).tideClock = 256 ∧
    (after (exec .timeSet (asked counted 0x25#8 [0, 0, 1, 0]))).replies.map Reply.data = [[1, 2, 3, 4]] := by decide

/-- A TABLE WRITE payload: identifier, index, not conditional, record. -/
def writing (id ix : Nat) (record : List Byte) : List Byte := [byte id, byte ix, 0, 0, 0] ++ record

/-- The first part of a curve with a count of breakpoints (R162). -/
def firstPart (count : Nat) : List Byte := byte count :: pointBytes 8
  ((List.range 8).map fun n => { head := 100 * n, ceiling := 1000 })

/-- The breakpoints that follow those of `firstPart`. -/
def secondPart : List Byte := pointBytes 8 [{ head := 800, ceiling := 900 }]

/-- Curve 1 half written, with nine breakpoints to come to. -/
def halfWritten : State := after (exec .tableWriteCurveFirstPart (asked moving 0x21#8 (writing 1 1 (firstPart 9))))

/-- The first part staged. -/
def staged9 : Staging where
  curve := 1
  count := 9
  points := (List.range 8).map fun n => { head := 100 * n, ceiling := 1000 }
  conditional := false
  expected := 0

theorem halfWritten_request (p : List Byte) :
    (asked { halfWritten with replies := [] } 0x21#8 p).HasRequest 0x21#8 p [] := requested _ _ _ (by decide)

/-- A write of gate 4 while it moves: its left offset goes from 12 to 13 (R11). -/
def shifted : List Byte := gateRecord.take 4 ++ [13] ++ gateRecord.drop 5

/-- A second gate moves under K 2. -/
def twoMoving : State :=
  { moving.setMotion 5 (.travelling req4 leg4) with slotsInUse := 2, settings := { Settings.cold with slots := 2 } }

/-- The record of gate 4 with a default_priority of 0. -/
def unranked : List Byte := gateRecord.take 34 ++ [0]

/-- The record of gate 4 with the addresses of gate 5's hoists. -/
def taken : List Byte := gateRecord.take 1 ++ [11, 12] ++ gateRecord.drop 3

/-- A curve's first part whose second head does not rise. -/
def falling : List Byte := 2 :: pointBytes 8 [{ head := 100, ceiling := 1000 }, { head := 100, ceiling := 1000 }]

/-- No field of a gate record that the checks pass fails. -/
theorem gate_fields_hold (s : State) (r : List Byte) (h : ∀ i : Fin 23, ¬ s.gateFieldFails r i) (i : Nat) :
    ¬ s.gateFieldFails r i := by
  by_cases hi : i < 23
  · exact h ⟨i, hi⟩
  · obtain ⟨n, rfl⟩ : ∃ n, i = n + 23 := ⟨i - 23, by omega⟩
    exact id

/-- Gate 4's own record passes every check of its fields while it moves, and so does one with other hoists or offsets. -/
theorem moving_fields_hold (r : List Byte) (h : r = gateRecord ∨ r = shifted ∨ r = taken) (i : Nat) :
    ¬ moving.gateFieldFails r i := by
  refine gate_fields_hold _ _ (fun i => ?_) i
  rcases h with rfl | rfl | rfl <;>
  · obtain ⟨i, hi⟩ := i
    interval_cases i <;> simp only [State.gateFieldFails] <;> decide

theorem meets_RefusedWritesChangeNothing :
    (∀ p, (asked moving 0x21#8 p).HasRequest 0x21#8 p []) ∧
    (∀ p, (asked { halfWritten with replies := [] } 0x21#8 p).HasRequest 0x21#8 p []) ∧
    ((writing 0 4 shifted).drop 2).length = 38 ∧ ((writing 1 0 (firstPart 1)).drop 2).length = 36 ∧
    halfWritten.staging = some staged9 ∧ staged9.curve = 1 ∧ moving.staging = none ∧
    ((writing 2 1 (pointBytes 8 [])).drop 2).length = 35 ∧ ((writing 3 1 gaugeRecord).drop 2).length = 14 ∧
    ((writing 4 0 routeRecord).drop 2).length = 6 ∧ ((writing 5 0 settingsRecord).drop 2).length = 14 ∧
    11 < (12#8).toNat ∧ 3 < (4#8).toNat ∧ 63 < (64#8).toNat ∧ 5 < (6#8).toNat ∧ (1#8) ≠ 0#8 :=
  ⟨fun _ => requested _ _ _ (by decide), halfWritten_request, by decide⟩

/-- Writes of gate 4 while it moves, each refused at its check of R165: its last field, another generation, its left offset, and
both hoists in use, the left one named. -/
theorem meets_RefusedWritesChangeNothing_gate :
    FirstAt (moving.gateFieldFails unranked) 22 ∧
    (∀ i, ¬ moving.gateFieldFails gateRecord i) ∧ u16At [1, 0, 1] 1 ≠ (moving.gate 4).generation.toNat ∧
    (∀ i, ¬ moving.gateFieldFails shifted i) ∧ FirstAt ((moving.record 4).fixedFieldDiffers shifted) 4 ∧
    (∃ q l, (moving.gate 4).motion = .travelling q l) ∧
    (∀ i, ¬ moving.gateFieldFails taken i) ∧ ((barrage .idle).gate 4).motion = .idle ∧
    moving.addressUsed (byteAt taken 1) .hoist (.hoist 4 .left) ∧ moving.addressUsed (byteAt taken 2) .hoist (.hoist 4 .right) := by
  refine ⟨⟨by simp only [State.gateFieldFails]; decide, fun j hj => ?_⟩, moving_fields_hold _ (.inl rfl), by decide,
    moving_fields_hold _ (.inr (.inl rfl)), ⟨by simp only [GateRecord.fixedFieldDiffers]; decide, fun j hj => ?_⟩,
    ⟨req4, leg4, by decide⟩, moving_fields_hold _ (.inr (.inr rfl)), by decide,
    ⟨by decide, 11, by decide⟩, ⟨by decide, 12, by decide⟩⟩
  · interval_cases j <;> simp only [State.gateFieldFails] <;> decide
  · interval_cases j
    · exact id
    · exact id
    · exact fun h => h ⟨by decide, by decide⟩
    · exact fun h => h ⟨by decide, by decide⟩

/-- Curve, gauge, route and settings writes refused at a check of their fields or of what is in use. -/
theorem meets_RefusedWritesChangeNothing_others :
    firstPartFails (firstPart 1) 1 ∧ firstPartFails falling 4 ∧ (byteAt (firstPart 0) 0 = 0 ∧ (moving.record 4).inService = true ∧
      (moving.record 4).curve = 0) ∧
    staged9.secondPartFails (pointBytes 8 []) 18 ∧ moving.addressUsed (byteAt gaugeRecord 2) .gauge (.gauge 1) ∧
    FirstAt (moving.gaugeFieldFails (gaugeRecord.take 9 ++ [0, 99])) 7 ∧
    routeFieldFails (moving.route 30).role [3, 0, 0] 1 ∧ roleChanges (moving.route 0).role routeRecord ∧
    settingsFieldFails (0 :: settingsRecord.drop 1) 1 ∧ byteAt settingsRecord 0 < twoMoving.slotsInUse := by
  refine ⟨.inl ⟨rfl, by decide⟩, .inr ⟨2, by decide, by decide, .inl ⟨rfl, .inr (.inl (by decide))⟩⟩, by decide,
    ⟨9, by decide, by decide, .inl ⟨rfl, .inr (.inr ⟨rfl, 700, by decide⟩)⟩⟩, ⟨by decide, 40, by decide⟩,
    ⟨by simp only [State.gaugeFieldFails]; decide, fun j hj => ?_⟩, .inr (by decide), .inl (by decide), .inl (by decide), by decide⟩
  interval_cases j <;> simp only [State.gaugeFieldFails] <;> decide

/-- TABLE_WRITE_GATE (R165): INVALID at field 22 before anything else, GENERATION with detail 0 before RUNNING, and IN_USE for the
left of two hoists in use (log 29). -/
theorem test_tableWriteGate_refused :
    let wrote (s : State) (p : List Byte) : List (Result × Byte) :=
      (after (exec .tableWriteGate (asked s 0x21#8 p))).replies.map fun x => (x.result, x.detail)
    wrote moving ([0, 4, 1, 0, 1] ++ (unranked.take 4 ++ [13] ++ unranked.drop 5)) = [(.invalid, 22)] ∧
    wrote moving ([0, 4, 1, 0, 1] ++ shifted) = [(.generation, 0)] ∧
    wrote (barrage .idle) (writing 0 4 taken) = [(.inUse, 2)] := by decide

/-- TABLE_WRITE_CURVE_FIRST_PART (R36): the head of breakpoint 2 stands at index 4. -/
theorem test_tableWriteCurve_refused :
    (after (exec .tableWriteCurveFirstPart (asked moving 0x21#8 (writing 1 1 falling)))).replies.map
      (fun x => (x.result, x.detail)) = [(.invalid, 4)] := by decide

/-- TABLE_WRITE_GATE (R11, R165): RUNNING with the index of the motion-fixed field. -/
theorem test_tableWriteGate_running :
    (after (exec .tableWriteGate (asked moving 0x21#8 (writing 0 4 shifted)))).replies =
      [{ kind := 0x21#8, result := .running, detail := 4, data := [0, 4, 0, 0] }] := by decide

/-- The record of gate 4 with its right hoist moved to address 20. -/
def moved : List Byte := gateRecord.take 2 ++ [20] ++ gateRecord.drop 3

/-- The record of gate 4 out of service. -/
def retired : List Byte := 0 :: gateRecord.drop 1

/-- The same with a sample_window of 100. -/
def hurried : List Byte := retired.take 28 ++ [0, 100] ++ retired.drop 30

/-- The record of gate 4 with a full_travel of 2500. -/
def shortened : List Byte := gateRecord.take 7 ++ [0x09, 0xC4] ++ gateRecord.drop 9

/-- A write of gate 4 that the checks accept in a state of the barrage. -/
def accepts (s : State) (record : List Byte) : Prop := s.judgeGate 4 ([0, byte (4 : GateId).val, 0, 0, 0] ++ record) = none

/-- Gate 4 in a motion state, its record out of service. -/
def outside (m : Motion) : State :=
  let s := barrage m
  s.setGate 4 { s.gate 4 with record := { gate4 with inService := false } }

/-- A state with the routes, addresses and gauges of the barrage has its Route Table in agreement, as that has. -/
theorem bound_like (s : State) (routes : s.routes = moving.routes) (own : s.ownAddress = moving.ownAddress)
    (hoists : ∀ g side, (s.record g).hoist side = (moving.record g).hoist side) (gauges : s.gauges = moving.gauges) :
    s.RoutesBound := by
  have route : ∀ a, s.route a = moving.route a := fun a => by unfold State.route; rw [routes]
  have gauge : ∀ n, s.gauge n = moving.gauge n := fun n => by unfold State.gauge; rw [gauges]
  constructor <;> simp only [route, gauge, own, hoists]
  · exact moving_routes.own
  · exact moving_routes.station
  · exact moving_routes.self
  · exact moving_routes.hoists
  · exact moving_routes.gauges
  · exact moving_routes.hoistRecords
  · exact moving_routes.gaugeRecords

theorem meets_AcceptedGateWritesTakeEffect_service :
    retired.length = 35 ∧ hurried.length = 35 ∧ shortened.length = 35 ∧
    (outside (.outOfService (some kept4))).RoutesBound ∧ (barrage (.pending req4)).RoutesBound ∧
    ((outside (.outOfService none)).record 4).inService = false ∧ (RawGate.parse gateRecord).record.inService = true ∧
    (RawGate.parse retired).record.inService = false ∧
    accepts (outside (.outOfService (some kept4))) gateRecord ∧
    accepts (outside (.stopping (.outOfService (some kept4)) leg4 9)) gateRecord ∧
    accepts (outside (holdFor .timeout)) gateRecord ∧
    accepts (barrage (.pending req4)) retired ∧ accepts (barrage (.starting req4 leg4 9)) retired ∧ accepts moving retired ∧
    accepts (barrage (.stopping (.requeue req4) leg4 9)) retired ∧ accepts heldTwice retired ∧
    (∀ side : Bool, ((barrage (.travelling req4 leg4) 2150 300).gate 4).stale (if side then .left else .right) = false) ∧
    accepts (barrage (.travelling req4 leg4) 2150 300) hurried ∧ (RawGate.parse hurried).record.sampleWindow = 100 ∧
    staleUnder 100 ((barrage (.travelling req4 leg4) 2150 300).gate 4).left = true ∧
    accepts (barrage (.pending req4)) shortened ∧ (RawGate.parse shortened).record.fullTravel = 2500 ∧
    gate4.arriveTol < distance (min 4000 2500) 2000 := by
  unfold accepts
  refine ⟨by decide, by decide, by decide, bound_like _ rfl rfl ?_ rfl, bound_like _ rfl rfl ?_ rfl, by decide⟩ <;>
    (intro g side; revert g; cases side <;> decide)

/-- TABLE_WRITE_GATE (R81, R80, R70): out of service a moving gate stops, or is held and out at once when the write makes it
stale (log 13), and a PENDING one keeps its request; back in service a stop goes on to its carried target. -/
theorem test_tableWriteGate_service :
    let wrote (s : State) (record : List Byte) : Gate :=
      (after (exec .tableWriteGate (asked s 0x21#8 (writing 0 4 record)))).gate 4
    (wrote moving retired).motion = .stopping (.outOfService (some { target := 4000, level := 4 })) leg4 2000 ∧
    (wrote (barrage (.travelling req4 leg4) 2150 300) hurried).motion = .outOfService (some { target := 4000, level := 4 }) ∧
    (wrote waiting4 retired).motion = .outOfService (some { target := 4000, level := 4 }) ∧
    (wrote (outside (.stopping (.outOfService (some kept4)) leg4 9)) gateRecord).motion =
      .stopping (.restartLeg { target := 3000, level := 4, origin := .station, clampReported := false, waitReason := .none }) leg4 9 ∧
    (wrote (outside (.outOfService (some kept4))) gateRecord).motion =
      .hold { primary := .stale, further := [] } (some kept4) := by decide

/-- TABLE_WRITE_GATE (R5): a full_travel of 2500 lowers a request for 4000. -/
theorem test_tableWriteGate_lowers :
    ((after (exec .tableWriteGate (asked { waiting4 with slotsInUse := 1 } 0x21#8 (writing 0 4 shortened)))).gate 4).motion =
      .pending { req4 with target := 2500 } := by decide

theorem meets_AcceptedGateWritesTakeEffect :
    moved.length = 35 ∧ (asked (barrage .idle) 0x21#8 ([0, byte (4 : GateId).val, 0, 0, 0] ++ moved)).HasRequest 0x21#8
      ([0, byte (4 : GateId).val, 0, 0, 0] ++ moved) [] ∧
    (barrage .idle).judgeGate 4 ([0, byte (4 : GateId).val, 0, 0, 0] ++ moved) = none ∧
    moving.RoutesBound ∧ moving.judgeGate 4 ([0, byte (4 : GateId).val, 0, 0, 0] ++ gateRecord) = none ∧
    ((barrage .idle).record 4).hoist .right ≠ (RawGate.parse moved).record.hoist .right ∧
    ((barrage .idle).gate 4).motion = .idle ∧ (RawGate.parse (0 :: gateRecord.drop 1)).record.inService = false :=
  ⟨by decide, requested _ _ _ (by decide), by decide, moving_routes, by decide, by decide, by decide, by decide⟩

/-- TABLE_WRITE_GATE (R4, R166): the old right address is UNUSED, the new one bound, the right sample gone. -/
theorem test_tableWriteGate :
    let t := after (exec .tableWriteGate (asked (barrage .idle) 0x21#8 (writing 0 4 moved)))
    (t.route 10).role = .unused ∧ (t.route 20).binding = some (.hoist 4 .right) ∧ (t.gate 4).right = none ∧
    (t.gate 4).opening = none ∧ t.replies.map Reply.data = [[0, 4, 0, 1]] := by decide

theorem meets_AcceptedCurveWritesTakeEffect :
    (firstPart 8).length = 33 ∧ (asked moving 0x21#8 ([1, byte (1 : Fin 4).val, 0, 0, 0] ++ firstPart 8)).HasRequest 0x21#8
      ([1, byte (1 : Fin 4).val, 0, 0, 0] ++ firstPart 8) [] ∧
    moving.judgeFirstPart 1 ([1, byte (1 : Fin 4).val, 0, 0, 0] ++ firstPart 8) = none ∧ byteAt (firstPart 8) 0 ≤ 8 ∧
    moving.judgeFirstPart 1 ([1, byte (1 : Fin 4).val, 0, 0, 0] ++ firstPart 9) = none ∧ 8 < byteAt (firstPart 9) 0 ∧
    halfWritten.staging = some staged9 ∧ staged9.curve = 1 ∧ secondPart.length = 32 ∧
    (asked { halfWritten with replies := [] } 0x21#8 ([2, byte (1 : Fin 4).val, 0, 0, 0] ++ secondPart)).HasRequest 0x21#8
      ([2, byte (1 : Fin 4).val, 0, 0, 0] ++ secondPart) [] ∧
    halfWritten.judgeSecondPart 1 staged9 ([2, byte (1 : Fin 4).val, 0, 0, 0] ++ secondPart) = none :=
  ⟨by decide, requested _ _ _ (by decide), by decide, by decide, by decide, by decide, by decide, by decide, by decide,
   halfWritten_request _, by decide⟩

/-- TABLE_WRITE_CURVE_FIRST_PART and _SECOND_PART (R168, R169): nine breakpoints are DEFERRED and then ACCEPTED, generation 1. -/
theorem test_tableWriteCurve :
    halfWritten.replies = [{ kind := 0x21#8, result := .deferred, detail := 0, data := [1, 1, 0, 0] }] ∧
    (halfWritten.curve 1).points = [] ∧
    let t := after (exec .tableWriteCurveSecondPart (asked halfWritten 0x21#8 (writing 2 1 secondPart)))
    (t.curve 1).points.length = 9 ∧ (t.curve 1).points.getLast? = some { head := 800, ceiling := 900 } ∧ t.staging = none ∧
    (t.curve 1).generation = 1 := by decide

/-- The record of gauge 0 with another window (R21), 3000. -/
def slower : List Byte := gaugeRecord.take 9 ++ [0x0B, 0xB8]

theorem meets_AcceptedGaugeWritesTakeEffect :
    slower.length = 11 ∧ (asked moving 0x21#8 ([3, byte (0 : GaugeId).val, 0, 0, 0] ++ slower)).HasRequest 0x21#8
      ([3, byte (0 : GaugeId).val, 0, 0, 0] ++ slower) [] ∧
    moving.judgeGauge 0 ([3, byte (0 : GaugeId).val, 0, 0, 0] ++ slower) = none ∧
    moving.judgeGauge 0 ([3, byte (0 : GaugeId).val, 0, 0, 0] ++ (gaugeRecord.take 2 ++ [44] ++ gaugeRecord.drop 3)) = none :=
  ⟨by decide, requested _ _ _ (by decide), by decide⟩

/-- TABLE_WRITE_GAUGE (R21): a new window keeps the good value; a new address loses it and, with it, the head. -/
theorem test_tableWriteGauge :
    ((after (exec .tableWriteGauge (asked moving 0x21#8 (writing 3 0 slower)))).gauge 0).value = some 1900 ∧
    let t := after (exec .tableWriteGauge (asked (barrage .idle) 0x21#8
      (writing 3 0 (gaugeRecord.take 2 ++ [44] ++ gaugeRecord.drop 3))))
    (t.gauge 0).value = none ∧ (t.gauge 0).age = 0 ∧ (t.route 40).role = .unused ∧ (t.route 44).binding = some (.gauge 0) ∧ t.head = none ∧
    t.mode = .noHead := by decide

/-- TABLE_WRITE_ROUTE (R149): the hoist's entry keeps role and binding; address 30 becomes OTHER. -/
theorem test_tableWriteRoute :
    (after (exec .tableWriteRoute (asked moving 0x21#8 (writing 4 9 [3, 0, 1])))).route 9 =
      { role := .hoist, binding := some (.hoist 4 .left), passDown := .forward, passUp := .consume, generation := 1 } ∧
    ((after (exec .tableWriteRoute (asked moving 0x21#8 (writing 4 30 [5, 0, 0])))).route 30).role = .other := by decide

/-- The settings record with K 1 and a silence window of 500. -/
def silenced : List Byte := settingsRecord.take 2 ++ [0x01, 0xF4] ++ settingsRecord.drop 4

theorem meets_RouteAndSettingsWritesTakeEffect :
    (asked moving 0x21#8 [4, byte (9 : LinkAddr).val, 1, 0, 0, 3, 0, 1]).HasRequest 0x21#8
      [4, byte (9 : LinkAddr).val, 1, 0, 0, 3, 0, 1] [] ∧
    (asked moving 0x21#8 ([5, 0, 0, 0, 0] ++ silenced)).HasRequest 0x21#8 ([5, 0, 0, 0, 0] ++ silenced) [] ∧
    (asked twoMoving 0x21#8 ([5, 0, 1, 0, 0] ++ silenced)).HasRequest 0x21#8 ([5, 0, 1, 0, 0] ++ silenced) [] ∧
    (3#8).toNat = Role.hoist.code ∧ (0#8).toNat ≤ 1 ∧ (1#8).toNat ≤ 1 ∧ (0#8) ++ (0#8) = (moving.route 9).generation ∧
    Role.hoist = (moving.route 9).role ∧ (moving.route 30).role = .unused ∧ (5#8).toNat = Role.other.code ∧
    silenced.length = 11 ∧ firstFailing (settingsChecks silenced) = none ∧
    moving.slotsInUse ≤ (parseSettings silenced).slots ∧ (0#8) ++ (0#8) = twoMoving.settingsGen ∧
    (parseSettings silenced).slots < twoMoving.slotsInUse :=
  ⟨requested _ _ _ (by decide), requested _ _ _ (by decide), requested _ _ _ (by decide), by decide⟩

/-- TABLE_WRITE_SETTINGS (R102, R163, R84): the silence timer starts; K 1 under two slots is BUSY. -/
theorem test_tableWriteSettings :
    (after (exec .tableWriteSettings (asked moving 0x21#8 (writing 5 0 silenced)))).silence = .running 500 ∧
    (after (exec .tableWriteSettings (asked twoMoving 0x21#8 (writing 5 0 silenced)))).replies =
      [{ kind := 0x21#8, result := .busy, detail := 1, data := [5, 0, 0, 0] }] := by decide

theorem meets_RestartSetsEveryGateAtOnce :
    (asked moving 0x26#8 []).HasRequest 0x26#8 [] [] ∧ moving.evalDue = false ∧
    (∀ g, (moving.record g).inService = true → (moving.record g).trackCeiling = false ∨ moving.stopAsserted = true) ∧
    (moving.gate 4).motion.holdsSlot = true ∧ (moving.record 4).hoist .left = some 9 ∧
    modeAfter moving.settings moving.mode moving.head = moving.mode :=
  ⟨requested _ _ _ (by decide), by decide⟩

/-- RESTART (R83, R174): a gate that moved is IDLE with fresh hoists, whose HALTs wait; with samples older than 4000 it is held. -/
theorem test_restart :
    let t := after (exec .restart (asked moving 0x26#8 []))
    (t.gate 4).motion = .idle ∧ (t.gate 4).opening = some 2150 ∧ t.haltQueue = [9, 10] ∧ t.slotsInUse = 0 ∧
    ((after (exec .restart (asked (barrage .idle 2000 4001) 0x26#8 []))).gate 4).motion =
      .hold { primary := .stale, further := [] } none := by decide

/-! ### Transmitters and expiries -/

/-- Something waits in every queue. -/
def crowded : State :=
  { moving with
    replies := [{ kind := 0x11#8, result := .accepted, detail := 0, data := [] }]
    notices := [{ notice := .arrived 4 2300, stamp := 9 }]
    overflow := true
    upQueue := [stopFrame]
    haltQueue := [9]
    orderQueue := [.run 9 2288 300]
    downQueue := [stopFrame] }

theorem meets_TransmittersServeInOrder :
    (∃ r rest, crowded.replies = r :: rest) ∧ { crowded with replies := [] }.notices = { notice := .arrived 4 2300, stamp := 9 } :: [] ∧
    { crowded with replies := [], notices := [] }.upQueue = stopFrame :: [] ∧ crowded.haltQueue = 9 :: [] ∧
    { crowded with haltQueue := [] }.orderQueue = .run 9 2288 300 :: [] ∧
    { moving with orderQueue := [.pause 9] }.orderQueue = .pause 9 :: [] ∧
    { moving with orderQueue := [.resume 9] }.orderQueue = .resume 9 :: [] ∧
    { crowded with haltQueue := [], orderQueue := [] }.downQueue = stopFrame :: [] ∧
    moving.replies = [] ∧ moving.notices = [] ∧ moving.upQueue = [] ∧ moving.haltQueue = [] ∧ moving.orderQueue = [] ∧
    moving.downQueue = [] := ⟨⟨_, _, rfl⟩, by decide⟩

/-- SP_TRANSMIT (R141, R181, R182): the reply first; then ARRIVED with overflow 1, its stamp, gate 4 and opening 2300. -/
theorem test_spTransmit :
    let t := after (exec .spTransmit crowded)
    t.replies = [] ∧ t.notices = crowded.notices ∧
    (after (exec .spTransmit t)).overflow = false ∧
    (after (exec .spTransmit t)).spTx.map (List.take 14) =
      some [0xA5, 9, 0, 63, 0x31, 1, 1, 0, 0, 0, 9, 4, 0x08, 0xFC] := by decide

/-- SP_TRANSMIT (R182): HELD for STALE with an opening and no skew, 14 bytes of payload; GAUGE_DISAGREE of DOWNSTREAM. -/
theorem test_spTransmit_notices :
    let sent (n : Notice) : Option (List Byte) :=
      (after (exec .spTransmit { moving with notices := [{ notice := n, stamp := 0x01020304 }] })).spTx.map fun b => (b.drop 1).dropLast.dropLast
    sent (.held 4 .stale (some 2150) none) =
      some [14, 0, 63, 0x31, 3, 0, 1, 2, 3, 4, 4, 2, 1, 0x08, 0x66, 0, 0, 0] ∧
    sent (.gaugeDisagree .downstream (-2) 300) =
      some [11, 0, 63, 0x31, 11, 0, 1, 2, 3, 4, 1, 0xFF, 0xFE, 0x01, 0x2C] := by decide

/-- FP_TRANSMIT (R107, R138): the HALT to 9 first, then its RUN with raw target 2288 and speed 300. -/
theorem test_fpTransmit :
    let t := after (exec .fpTransmit crowded)
    t.haltQueue = [] ∧ t.orderQueue = crowded.orderQueue ∧ t.fpTx.map (List.take 5) = some [0xA5, 0, 9, 63, 0x43] ∧
    (after (exec .fpTransmit t)).fpTx.map (List.take 9) = some [0xA5, 4, 9, 63, 0x40, 0x08, 0xF0, 0x01, 0x2C] := by decide

/-- Gate 4 as its windows run out. -/
def expired (m : Motion) : State := barrage m 2150 501

theorem meets_ExpiriesHoldTheGate :
    ((expired (.starting req4 leg4 0)).gate 4).motion = .starting req4 leg4 0 ∧
    ((expired (.travelling req4 { leg4 with deadline := 0 })).gate 4).motion = .travelling req4 { leg4 with deadline := 0 } ∧
    ((expired (.starting req4 { leg4 with deadline := 0 } 5)).gate 4).motion = .starting req4 { leg4 with deadline := 0 } 5 ∧
    ((expired (.stopping .idle leg4 0)).gate 4).motion = .stopping .idle leg4 0 ∧
    ((expired (.travelling req4 leg4)).gate 4).stale .left = true ∧
    ((expired (.travelling req4 leg4)).gate 4).motion.isHold = false ∧
    ((heldStale 4001).gate 4).stale .right = true ∧ ((heldStale 4001).gate 4).motion = holdFor .stale ∧
    (heldStale 4001).evalDue = false ∧ ((heldStale 4000).gate 4).stale .right = false := by decide

/-- ACK_WINDOW_EXPIRY (R114) and DEADLINE_EXPIRY (R122): NO_ACK and TIMEOUT, the request kept as deferred target. -/
theorem test_ackWindow_deadline :
    ((after (exec (.ackWindowExpiry 4) (expired (.starting req4 leg4 0)))).gate 4).motion =
      .hold { primary := .noAck, further := [] } (some { target := 4000, level := 4 }) ∧
    ((after (exec (.deadlineExpiry 4) (expired (.travelling req4 { leg4 with deadline := 0 })))).gate 4).motion =
      .hold { primary := .timeout, further := [] } (some { target := 4000, level := 4 }) := by decide

/-- HALT_WINDOW_EXPIRY (R123) and HOIST_STALE (R116): NO_STOP and STALE, the slot given back. -/
theorem test_haltWindow_hoistStale :
    ((after (exec (.haltWindowExpiry 4) (expired (.stopping .idle leg4 0)))).gate 4).motion =
      .hold { primary := .noStop, further := [] } none ∧
    (after (exec (.haltWindowExpiry 4) (expired (.stopping .idle leg4 0)))).slotsInUse = 0 ∧
    ((after (exec (.hoistStale 4 .left) (expired (.travelling req4 leg4)))).gate 4).motion =
      .hold { primary := .stale, further := [] } (some { target := 4000, level := 4 }) ∧
    (after (exec (.hoistStale 4 .left) (expired (.travelling req4 leg4)))).notices =
      [{ notice := .held 4 .stale (some 2150) (some 0), stamp := 0 }] := by decide

/-- The silence timer has run out over a moving gate. -/
def silent : State := { moving with silence := .running 0 }

theorem meets_SilenceStopsAllMotion :
    silent.silence = .running 0 ∧ silent.notices.length < 16 ∧ (silent.gate 4).motion = .travelling req4 leg4 ∧
    ((barrage (.stopping (.requeue req4) leg4 9)).gate 4).motion = .stopping (.requeue req4) leg4 9 ∧
    NextStep.request (.requeue req4) ≠ none ∧ NextStep.request .idle = none ∧
    (waiting4.gate 4).motion = .pending req4 ∧ (waiting4.record 4).trackCeiling = false ∧ moving.silence ≠ .running 0 := by
  decide

/-- SILENCE_EXPIRY (R103): one request discarded, both hoists of gate 4 told to HALT. -/
theorem test_silenceExpiry :
    let t := after (exec .silenceExpiry silent)
    t.silence = .waiting ∧ t.notices = [{ notice := .silenceStop 1, stamp := 0 }] ∧
    (t.gate 4).motion = .stopping .idle leg4 2000 ∧ t.haltQueue = [9, 10] := by decide

/-- The tide turns as in 05, 5.9: at level 0 gates 3 and 4 follow their ceilings of 0 while gate 5 holds the one slot on a station
request at level 4; it is stopped for gate 3, the first in the list. -/
theorem test_level_preempts :
    let follow (r : GateRecord) : GateRecord := { r with trackCeiling := true }
    let s := ((moving.setGate 3 (standing (follow (served 7 8)) .idle 1500 0)).setGate 4
      (standing (follow { gate4 with spread := 0 }) .idle 2000 0)).setMotion 5 (.travelling req4 { leg4 with direction := .lower })
    let t := after (exec .level (heard s 40 0 0x58#8 [0x02, 0xBC, 0]))
    (t.gate 3).motion.request.map Request.level = some 0 ∧ t.waiting = [3, 4] ∧
    { notice := .preempted 5 3, stamp := 0 } ∈ t.notices ∧ t.slotsInUse = 1 ∧
    (∃ r l w, (t.gate 5).motion = .stopping (.requeue r) l w) := by
  refine ⟨by decide, by decide, by decide, by decide,
    { req4 with clampReported := true }, { leg4 with target := 0, direction := .lower, deadline := 630000 }, 2000, by decide⟩

end Sys2Proof.Tests
end

/-! ## What each command leaves as it was

The parts of the state that chapters 1 to 3, 8 and 9 hold, named one by one (`Part`), and for every operation and
every command the parts that it can touch. The Sequencer and the Arbiter touch none of them (`State.Reach.leaves`). -/

namespace Sys2Proof.Machine

/-- The parts of the state whose change the manual gives to certain commands alone. -/
inductive Part where
  | address
  | gateRecords
  | samples
  | ceilings
  | curves
  | gaugeRecords
  | readings
  | routes
  | settings
  | staging
  | levels
  | count (port : Port) (name : CounterName)

/-- A part is the same in two states. -/
def Part.same (s t : State) : Part → Prop
  | .address => t.ownAddress = s.ownAddress
  | .gateRecords => ∀ g, t.record g = s.record g ∧ (t.gate g).generation = (s.gate g).generation
  | .samples => ∀ g, (t.gate g).left = (s.gate g).left ∧ (t.gate g).right = (s.gate g).right
  | .ceilings => ∀ g, (t.gate g).ceiling = (s.gate g).ceiling
  | .curves => t.curves = s.curves
  | .gaugeRecords => ∀ n, (t.gauge n).record = (s.gauge n).record ∧ (t.gauge n).generation = (s.gauge n).generation
  | .readings => ∀ n, (t.gauge n).value = (s.gauge n).value ∧ (t.gauge n).age = (s.gauge n).age
  | .routes => t.routes = s.routes
  | .settings => t.settings = s.settings ∧ t.settingsGen = s.settingsGen
  | .staging => t.staging = s.staging
  | .levels => t.upstream = s.upstream ∧ t.downstream = s.downstream ∧ t.head = s.head ∧ t.mode = s.mode
  | .count port name => (t.counters port).read name = (s.counters port).read name

/-- From `s` to `t` nothing outside `touched` has changed. -/
def State.Leaves (s : State) (touched : Set Part) (t : State) : Prop := ∀ p, p ∉ touched → p.same s t

/-! ### Chains of changes -/

theorem Part.same_rfl (s : State) (p : Part) : p.same s s := by
  cases p <;> simp [Part.same]

theorem Part.same_trans {s t u : State} {p : Part} (h : p.same s t) (k : p.same t u) : p.same s u := by
  cases p with
  | gateRecords | samples | gaugeRecords | readings =>
    exact fun g => ⟨(k g).1.trans (h g).1, (k g).2.trans (h g).2⟩
  | ceilings => exact fun g => (k g).trans (h g)
  | settings => exact ⟨k.1.trans h.1, k.2.trans h.2⟩
  | levels =>
    obtain ⟨h1, h2, h3, h4⟩ := h
    obtain ⟨k1, k2, k3, k4⟩ := k
    exact ⟨k1.trans h1, k2.trans h2, k3.trans h3, k4.trans h4⟩
  | address | curves | routes | staging | count => exact Eq.trans k h

theorem State.Leaves.refl (s : State) (P : Set Part) : s.Leaves P s := fun p _ => p.same_rfl s

theorem State.Leaves.trans {s t u : State} {P : Set Part} (h : s.Leaves P t) (k : t.Leaves P u) : s.Leaves P u :=
  fun p hp => Part.same_trans (h p hp) (k p hp)

theorem State.Leaves.mono {s t : State} {P Q : Set Part} (h : s.Leaves P t) (sub : P ⊆ Q) : s.Leaves Q t :=
  fun p hp => h p fun hq => hp (sub hq)

/-- `t` with every part as `s` has it. -/
def State.partsOf (t s : State) : State :=
  { t with
    ownAddress := s.ownAddress, gates := s.gates, curves := s.curves, gauges := s.gauges, routes := s.routes
    settings := s.settings, settingsGen := s.settingsGen, staging := s.staging, upstream := s.upstream
    downstream := s.downstream, head := s.head, mode := s.mode, spCounters := s.spCounters
    fpCounters := s.fpCounters }

/-- A change of other fields touches no part. -/
theorem State.leaves_of_partsOf {s t : State} (P : Set Part) (h : t = t.partsOf s) : s.Leaves P t := by
  intro p _
  rw [h]
  cases p with
  | count port name => cases port <;> rfl
  | _ => simp [Part.same, State.partsOf, State.record, State.gate, State.gauge]

/-- What the Sequencer and the Arbiter do touches no part. -/
theorem State.Reach.leaves {s t : State} (h : s.Reach t) (P : Set Part) : s.Leaves P t := by
  intro p _
  cases p with
  | gateRecords => exact fun g => ⟨h.record g, by rw [h.gate g]⟩
  | samples => exact fun g => by rw [h.gate g]; exact ⟨rfl, rfl⟩
  | ceilings => exact fun g => by rw [h.gate g]
  | count port name => rw [h.frame]; cases port <;> rfl
  | _ => rw [h.frame]; simp [Part.same, State.gauge]

theorem State.leaves_sweep (s : State) (gs : List GateId) (act : State → GateId → State) (P : Set Part)
    (h : ∀ (t : State) g, t.Leaves P (act t g)) : s.Leaves P (s.sweep gs act) := by
  unfold State.sweep
  induction gs generalizing s with
  | nil => exact .refl _ _
  | cons g gs ih => exact (h s g).trans (ih _)

/-! ### Counters, replies and notices -/

theorem State.leaves_post (s : State) (n : Notice) (P : Set Part) : s.Leaves P (s.post n) :=
  State.Reach.leaves (.post n .refl) P

theorem State.leaves_postAll (s : State) (ns : List Notice) (P : Set Part) : s.Leaves P (s.postAll ns) := by
  unfold State.postAll
  induction ns generalizing s with
  | nil => exact .refl _ _
  | cons n ns ih => exact (s.leaves_post n P).trans (ih _)

theorem State.leaves_reply (s : State) (k : Byte) (r : Result) (d : Nat) (l : List Byte) (P : Set Part) :
    s.Leaves P (s.reply k r d l) := State.leaves_of_partsOf P rfl

theorem State.leaves_writeReply (s : State) (p : List Byte) (r : Result) (d : Nat) (gen : CountWord) (P : Set Part) :
    s.Leaves P (s.writeReply p r d gen) := State.leaves_of_partsOf P rfl

theorem State.leaves_writeNoRecord (s : State) (p : List Byte) (P : Set Part) : s.Leaves P (s.writeNoRecord p) :=
  State.leaves_of_partsOf P rfl

theorem Counters.count_read_ne (c : Counters) (mode : CounterMode) {m n : CounterName} (h : n ≠ m) :
    (c.count mode m).read n = c.read n := by
  cases m <;> cases n <;> simp_all [Counters.count, Counters.read]

theorem State.count_counters_ne (s : State) {port : Port} (m : CounterName) {q : Port} (h : q ≠ port) :
    (s.count port m).counters q = s.counters q := by
  cases port <;> cases q <;> simp_all [State.count, State.counters]

/-- A count touches its own counter alone (R185). -/
theorem State.leaves_count (s : State) (port : Port) (m : CounterName) {P : Set Part} (h : .count port m ∈ P) :
    s.Leaves P (s.count port m) := by
  intro p hp
  cases p with
  | count q n =>
    by_cases e : q = port
    · subst e
      have ne : n ≠ m := fun e => hp (e ▸ h)
      cases q <;> exact Counters.count_read_ne _ _ ne
    · exact congrArg (Counters.read · n) (s.count_counters_ne m e)
  | _ => simp [Part.same]

/-- The counters of a frame that goes on or finds its queue full (R142, R143). -/
@[simp] def Part.relayCounts (port : Port) : Set Part := {.count port .forwarded, .count port .queueDrops}

/-- The counters of what the Frame Sorter does with a frame (R185). -/
@[simp] def Part.sortCounts (port : Port) : Set Part :=
  Part.relayCounts port ∪ {.count port .routeDrops, .count port .misroutes}

/-- The counters of what a receiver does (R185). -/
@[simp] def Part.receiveCounts (port : Port) : Set Part :=
  {.count port .good, .count port .crcErrors, .count port .overruns}

theorem State.leaves_joinDown (s : State) (f : Frame) {P : Set Part} (h : Part.relayCounts .sp ⊆ P) :
    s.Leaves P (s.joinDown f) := by
  unfold State.joinDown
  split
  · exact (State.leaves_of_partsOf P rfl).trans
      (State.leaves_count { s with downQueue := s.downQueue ++ [f] } .sp .forwarded (h (by simp [Part.relayCounts])))
  · exact s.leaves_count _ _ (h (by simp [Part.relayCounts]))

theorem State.leaves_joinUp (s : State) (f : Frame) {P : Set Part} (h : Part.relayCounts .fp ⊆ P) :
    s.Leaves P (s.joinUp f) := by
  unfold State.joinUp
  split
  · exact (State.leaves_of_partsOf P rfl).trans
      (State.leaves_count { s with upQueue := s.upQueue ++ [f] } .fp .forwarded (h (by simp [Part.relayCounts])))
  · exact s.leaves_count _ _ (h (by simp [Part.relayCounts]))

theorem State.leaves_misroute (s : State) (port : Port) (f : RxFrame) {P : Set Part} (h : .count port .misroutes ∈ P) :
    s.Leaves P (s.misroute port f) := by
  have counted := s.leaves_count port .misroutes h
  unfold State.misroute
  simp only
  split
  · exact counted
  · refine counted.trans (.trans (State.leaves_of_partsOf P ?_) (State.leaves_post _ _ _))
    rfl

/-! ### The Level Unit -/

theorem State.leaves_setCeiling (s : State) (g : GateId) (c : Option Nat) {P : Set Part} (h : .ceilings ∈ P) :
    s.Leaves P (s.setCeiling g c) := by
  intro p hp
  cases p with
  | ceilings => exact absurd h hp
  | gateRecords | samples =>
    intro k
    by_cases e : k = g <;> simp [State.setCeiling_gate, e]
  | count port name => cases port <;> rfl
  | _ => simp [Part.same]

theorem State.leaves_recomputeCeilings (s : State) {P : Set Part} (h : .ceilings ∈ P) :
    s.Leaves P s.recomputeCeilings.1 := s.leaves_sweep _ _ P fun t g => t.leaves_setCeiling g _ h

theorem State.leaves_ceilingPath (s : State) {P : Set Part} (h : .ceilings ∈ P) : s.Leaves P s.ceilingPath := by
  have checked := (s.leaves_recomputeCeilings h).trans
    ((State.reach_sweep s.recomputeCeilings.1 s.recomputeCeilings.2 _ State.reach_ceilingCheck).leaves P)
  unfold State.ceilingPath
  simp only
  split
  · exact checked
  · exact checked.trans ((State.reach_evaluateNow _).leaves P)

theorem State.leaves_setBank (s : State) (b : Bank) (x : BankState) {P : Set Part} (h : .levels ∈ P) :
    s.Leaves P (s.setBank b x) := by
  intro p hp
  cases p with
  | levels => exact absurd h hp
  | count port name => cases b <;> cases port <;> rfl
  | _ => simp [Part.same]

theorem State.leaves_recomputeBank (s : State) (b : Bank) {P : Set Part} (h : .levels ∈ P) :
    s.Leaves P (s.recomputeBank b) := by
  unfold State.recomputeBank
  simp only
  split
  · exact s.leaves_setBank _ _ h
  · split
    · exact s.leaves_setBank _ _ h
    · exact (s.leaves_setBank _ _ h).trans (State.leaves_post _ _ _)

/-- What a new head pair can touch: itself, the mode, and the ceilings (R29 to R31). -/
@[simp] def Part.ofHead : Set Part := {.levels, .ceilings}

theorem State.leaves_newHead (s : State) (head : Option Head) {P : Set Part} (h : Part.ofHead ⊆ P) :
    s.Leaves P (s.newHead head) := by
  have levels : .levels ∈ P := h (by simp [Part.ofHead])
  have ceilings : .ceilings ∈ P := h (by simp [Part.ofHead])
  have store (t : State) (m : Mode) : t.Leaves P { t with head := head, mode := m } := by
    intro p hp
    cases p with
    | levels => exact absurd levels hp
    | count port name => cases port <;> rfl
    | _ => simp [Part.same, State.record, State.gate, State.gauge]
  unfold State.newHead
  simp only
  have stored := (s.leaves_postAll (modeNotices s.mode (modeAfter s.settings s.mode head) s.head head) P).trans
    (store _ (modeAfter s.settings s.mode head))
  have checked (c : Prop) [Decidable c] (t : State) : t.Leaves P (if c then t else t.ceilingPath) := by
    split
    · exact .refl _ _
    · exact t.leaves_ceilingPath ceilings
  split
  · exact stored.trans (checked _ _)
  · exact (stored.trans (checked _ _)).trans ((State.reach_evaluateNow _).leaves P)

theorem State.leaves_relevel (s : State) (banks : List Bank) {P : Set Part} (h : Part.ofHead ⊆ P) :
    s.Leaves P (s.relevel banks) := by
  have levels : .levels ∈ P := h (by simp [Part.ofHead])
  have banked : s.Leaves P (banks.foldl State.recomputeBank s) := by
    induction banks generalizing s with
    | nil => exact .refl _ _
    | cons b banks ih => exact (s.leaves_recomputeBank b levels).trans (ih _)
  exact banked.trans (State.leaves_newHead _ _ h)

theorem State.leaves_setGauge (s : State) (n : GaugeId) (x : Gauge) {P : Set Part} (values : .readings ∈ P)
    (records : .gaugeRecords ∈ P ∨ x.record = (s.gauge n).record ∧ x.generation = (s.gauge n).generation) :
    s.Leaves P (s.setGauge n x) := by
  intro p hp
  cases p with
  | readings => exact absurd values hp
  | gaugeRecords =>
    obtain ⟨e1, e2⟩ := records.resolve_left hp
    intro m
    by_cases e : m = n <;> simp [State.setGauge_gauge, e, e1, e2]
  | count port name => cases port <;> rfl
  | _ => simp [Part.same]

/-- What a LEVEL report can touch (R22). -/
@[simp] def Part.ofLevel : Set Part := {.readings} ∪ Part.ofHead

theorem State.leaves_takeLevel (s : State) (n : GaugeId) (p : List Byte) : s.Leaves Part.ofLevel (s.takeLevel n p) := by
  have stored (v : Int) : s.Leaves Part.ofLevel (s.setGauge n { s.gauge n with value := some v, age := 0 }) :=
    s.leaves_setGauge n _ (by simp [Part.ofLevel]) (.inr ⟨rfl, rfl⟩)
  unfold State.takeLevel
  split
  · split
    · exact (stored _).trans (State.leaves_relevel _ _ Set.subset_union_right)
    · exact .refl _ _
  · exact .refl _ _

theorem State.leaves_gaugeGoesStale (s : State) (n : GaugeId) : s.Leaves Part.ofHead (s.gaugeGoesStale n) := by
  unfold State.gaugeGoesStale
  split
  · exact s.leaves_relevel _ subset_rfl
  · exact .refl _ _

/-! ### The hoist exchange and the motion requests -/

theorem State.leaves_storeSample (s : State) (g : GateId) (side : Side) (x : Report) (stamp : ClockWord) :
    s.Leaves {.samples} (s.storeSample g side x stamp) := by
  intro p hp
  cases p with
  | samples => exact absurd rfl hp
  | gateRecords | ceilings =>
    intro k
    by_cases e : k = g <;> cases side <;>
      simp [State.storeSample, State.record, State.setGate_gate, Gate.withSample, e]
  | count port name => cases port <;> rfl
  | _ => simp [Part.same, State.storeSample]

theorem State.leaves_takePosition (s : State) (g : GateId) (side : Side) (p : List Byte) (stamp : ClockWord) :
    s.Leaves {.samples} (s.takePosition g side p stamp) := by
  unfold State.takePosition
  split
  · exact .refl _ _
  · rename_i x _
    have stored := s.leaves_storeSample g side x stamp
    have checked := stored.trans ((State.reach_sampleChecks _ g side x.state).leaves _)
    simp only
    split
    · exact stored
    · split
      · exact checked
      · exact checked.trans ((State.reach_openingChanged _ g).leaves _)

/-- A command that passes the replacement rule is a chain of motion changes (R57, R58). -/
theorem State.reach_command (s : State) (g : GateId) (target level : Nat) (o : Origin) (free : s.stopAsserted = false) :
    s.Reach (s.command g target level o) := by
  unfold State.command
  simp only
  split
  · exact (State.Reach.post _ .refl).trans (State.reach_applyTarget _ _ _ _ _ (by simpa using free))
  · exact s.reach_applyTarget _ _ _ _ free

theorem State.leaves_takeMove (s : State) (p : List Byte) (P : Set Part) : s.Leaves P (s.takeMove p) := by
  unfold State.takeMove
  split
  · exact s.leaves_reply _ _ _ _ _
  · unfold State.moveGate
    simp only
    split
    · exact s.leaves_reply _ _ _ _ _
    · split
      · exact s.leaves_reply _ _ _ _ _
      · rename_i free _ _
        exact (((s.reach_command _ _ _ _ (by simpa using free)).trans (State.reach_settle _)).leaves P).trans
          (State.leaves_reply _ _ _ _ _ _)

theorem State.leaves_takeStop (s : State) (p : List Byte) (P : Set Part) : s.Leaves P (s.takeStop p) := by
  unfold State.takeStop
  split
  · exact s.leaves_reply _ _ _ _ _
  · exact (((s.reach_stopGate _).trans (State.reach_settle _)).leaves P).trans (State.leaves_reply _ _ _ _ _ _)

theorem State.reach_groupSet (s : State) (target level : Nat) (gs : List GateId) (free : s.stopAsserted = false) :
    s.Reach (s.groupSet target level gs).1 := by
  induction gs generalizing s with
  | nil => exact .refl
  | cons g gs ih =>
    unfold State.groupSet
    split
    · exact ih s free
    · have commanded := s.reach_command g target level .group free
      exact commanded.trans (ih _ (commanded.free free))

theorem State.leaves_takeGroupSet (s : State) (p : List Byte) (P : Set Part) : s.Leaves P (s.takeGroupSet p) := by
  unfold State.takeGroupSet
  simp only
  split
  · exact s.leaves_reply _ _ _ _ _
  · rename_i free
    exact (((s.reach_groupSet _ _ _ (by simpa using free)).trans (State.reach_settle _)).leaves P).trans
      (State.leaves_reply _ _ _ _ _ _)

theorem State.leaves_takeGroupStop (s : State) (p : List Byte) (P : Set Part) : s.Leaves P (s.takeGroupStop p) :=
  ((s.reach_sweep _ _ fun t g => (t.reach_stopGate g).trans (State.reach_settle _)).leaves P).trans
    (State.leaves_reply _ _ _ _ _ _)

theorem State.leaves_takeClearHold (s : State) (p : List Byte) (P : Set Part) : s.Leaves P (s.takeClearHold p) := by
  unfold State.takeClearHold
  split
  · exact s.leaves_reply _ _ _ _ _
  · unfold State.clearHold
    split
    · split
      · exact s.leaves_reply _ _ _ _ _
      · exact (((s.reach_leaveHold _ _ _).trans (State.reach_settle _)).leaves P).trans
          (State.leaves_reply _ _ _ _ _ _)
    · exact s.leaves_reply _ _ _ _ _

theorem State.leaves_assertStop (s : State) (P : Set Part) : s.Leaves P s.assertStop := by
  unfold State.assertStop
  simp only
  split
  · exact State.leaves_of_partsOf P rfl
  · refine (State.leaves_of_partsOf P ?_).trans
      ((State.leaves_post _ _ P).trans ((State.reach_quell _).leaves P))
    rfl

theorem State.leaves_releaseStop (s : State) (P : Set Part) : s.Leaves P s.releaseStop := by
  unfold State.releaseStop
  simp only
  split
  · refine (State.leaves_of_partsOf P ?_).trans
      ((State.leaves_post _ _ P).trans ((State.reach_evaluateNow _).leaves P))
    rfl
  · exact State.leaves_of_partsOf P rfl

theorem State.leaves_silenceEnds (s : State) (P : Set Part) : s.Leaves P s.silenceEnds := by
  unfold State.silenceEnds
  split
  · refine (State.leaves_of_partsOf P ?_).trans
      ((State.leaves_post _ _ P).trans ((State.reach_quell _).leaves P))
    rfl
  · exact .refl _ _

end Sys2Proof.Machine

namespace Sys2Proof.Machine

/-! ### The Management Unit -/

theorem State.leaves_setRoute (s : State) (a : LinkAddr) (x : RouteEntry) {P : Set Part} (h : .routes ∈ P) :
    s.Leaves P (s.setRoute a x) := by
  intro p hp
  cases p with
  | routes => exact absurd h hp
  | count port name => cases port <;> rfl
  | _ => simp [Part.same]

theorem State.leaves_rebind (s : State) (old new : Option LinkAddr) (role : Role) (b : Binding) {P : Set Part}
    (h : .routes ∈ P) : s.Leaves P (s.rebind old new role b) := by
  unfold State.rebind
  split
  · exact .refl _ _
  · cases old <;> cases new
    · exact .refl _ _
    · exact s.leaves_setRoute _ _ h
    · exact s.leaves_setRoute _ _ h
    · exact (s.leaves_setRoute _ _ h).trans (State.leaves_setRoute _ _ _ h)

theorem State.leaves_setGate (s : State) (g : GateId) (x : Gate) {P : Set Part}
    (records : .gateRecords ∈ P ∨ x.record = (s.gate g).record ∧ x.generation = (s.gate g).generation)
    (samples : .samples ∈ P ∨ x.left = (s.gate g).left ∧ x.right = (s.gate g).right)
    (ceiling : .ceilings ∈ P ∨ x.ceiling = (s.gate g).ceiling) : s.Leaves P (s.setGate g x) := by
  intro p hp
  cases p with
  | gateRecords =>
    obtain ⟨e1, e2⟩ := records.resolve_left hp
    intro k
    by_cases e : k = g <;> simp [State.record, State.setGate_gate, e, e1, e2]
  | samples =>
    obtain ⟨e1, e2⟩ := samples.resolve_left hp
    intro k
    by_cases e : k = g <;> simp [State.setGate_gate, e, e1, e2]
  | ceilings =>
    intro k
    by_cases e : k = g <;> simp [State.setGate_gate, e, ceiling.resolve_left hp]
  | count port name => cases port <;> rfl
  | _ => simp [Part.same]

theorem State.leaves_rebindHoist (s : State) (g : GateId) (side : Side) (old new : Option LinkAddr) {P : Set Part}
    (routes : .routes ∈ P) (samples : .samples ∈ P) : s.Leaves P (s.rebindHoist g side old new) := by
  unfold State.rebindHoist
  split
  · exact .refl _ _
  · exact (s.leaves_rebind _ _ _ _ routes).trans
      (State.leaves_setGate _ _ _ (.inr (by cases side <;> exact ⟨rfl, rfl⟩)) (.inl samples)
        (.inr (by cases side <;> rfl)))

theorem State.leaves_retravel (s : State) (g : GateId) (old new : GateRecord) {P : Set Part} (samples : .samples ∈ P) :
    s.Leaves P (s.retravel g old new) := by
  have corrected : s.Leaves P (if old.travelChanged new then s.setGate g (s.gate g).recorrected else s) := by
    split
    · exact s.leaves_setGate _ _ (.inr ⟨rfl, rfl⟩) (.inl samples) (.inr rfl)
    · exact .refl _ _
  unfold State.retravel
  simp only
  split
  · exact corrected.trans (State.leaves_setGate _ _ _ (.inr ⟨rfl, rfl⟩) (.inr ⟨rfl, rfl⟩) (.inr rfl))
  · exact corrected

theorem State.reach_newlyStale (s : State) (g : GateId) (before : Gate) : s.Reach (s.newlyStale g before) := by
  have one (side : Side) (t : State) :
      t.Reach (if !before.stale side && (t.gate g).stale side then t.fault g .stale else t) := by
    split
    · exact t.reach_fault _ _
    · exact .refl
  exact (one .left s).trans (one .right _)

theorem State.reach_serviceIn (s : State) (g : GateId) : s.Reach (s.serviceIn g) := by
  unfold State.serviceIn
  split
  · exact s.reach_makeHold _ _ _
  · rename_i c l w e
    split
    · rename_i t h
      refine s.reach_setMotion _ _ (fun _ => by trivial) fun a => ?_
      simp [a] at h
    · exact s.reach_setMotion _ _ (fun _ => by trivial) fun _ _ => rfl
  · exact .refl

theorem State.reach_serviceOut (s : State) (g : GateId) : s.Reach (s.serviceOut g) := by
  unfold State.serviceOut
  split
  · exact s.reach_enterOutOfService _ _
  · exact (s.reach_leaveList _ _ (fun _ => by trivial) fun _ _ => rfl).trans (State.reach_enterOutOfService _ _ _)
  · exact s.reach_enterStopping _ _ _ fun _ _ => rfl
  · exact s.reach_enterStopping _ _ _ fun _ _ => rfl
  · exact s.reach_setMotion _ _ (fun _ => by trivial) fun _ _ => rfl
  · exact s.reach_setMotion _ _ (fun _ => by trivial) fun _ _ => rfl
  · exact s.reach_setMotion _ _ (fun _ => by trivial) fun _ _ => rfl
  · exact s.reach_enterOutOfService _ _
  · exact .refl

theorem State.reach_serviceChange (s : State) (g : GateId) (old new : Bool) : s.Reach (s.serviceChange g old new) := by
  unfold State.serviceChange
  split
  · exact s.reach_serviceIn g
  · exact s.reach_serviceOut g
  · exact .refl

/-! #### The stages of an accepted gate record write (R167) -/

/-- Record and generation of a gate replaced. -/
def State.withRecord (s : State) (g : GateId) (new : GateRecord) : State :=
  s.setGate g { s.gate g with record := new, generation := (s.gate g).generation + 1 }

/-- The first stage: record, generation, and what the addresses bring (R4). -/
def State.recorded (s : State) (g : GateId) (new : GateRecord) : State :=
  ((s.withRecord g new).rebindHoist g .left (s.record g).leftHoist new.leftHoist).rebindHoist g .right
    (s.record g).rightHoist new.rightHoist

/-- The second stage: positions and targets under the new record (R5). -/
def State.remeasured (s : State) (g : GateId) (new : GateRecord) : State :=
  (s.recorded g new).retravel g (s.record g) new

/-- The third stage: a side made stale, and the change of service (R12, R80, R81). -/
def State.reserved (s : State) (g : GateId) (new : GateRecord) : State :=
  ((s.remeasured g new).newlyStale g (s.gate g)).serviceChange g (s.record g).inService new.inService

/-- The fourth stage: the gate's ceiling (R40). -/
def State.receilinged (s : State) (g : GateId) (new : GateRecord) : State :=
  (s.reserved g new).setCeiling g ((s.reserved g new).computeCeiling ((s.reserved g new).gate g))

/-- The event of a gate record write, or none (R12, R15). -/
def State.toldOf (s : State) (g : GateId) (tell : Bool) : State := if tell then s.tellNeighbours g else s

/-- A gate record write is its four stages, the gate's own check, the event, and one evaluation (R12, R167). -/
theorem State.writeGate_eq (s : State) (g : GateId) (new : GateRecord) : ∃ tell : Bool,
    s.writeGate g new = (((s.receilinged g new).ceilingCheck g).toldOf g tell).evaluateNow := ⟨_, rfl⟩

theorem State.reach_reserved (s : State) (g : GateId) (new : GateRecord) :
    (s.remeasured g new).Reach (s.reserved g new) :=
  (State.reach_newlyStale _ _ _).trans (State.reach_serviceChange _ _ _ _)

/-- What follows the stages is a chain of motion changes. -/
theorem State.reach_writeGate (s : State) (g : GateId) (new : GateRecord) :
    (s.receilinged g new).Reach (s.writeGate g new) := by
  obtain ⟨tell, e⟩ := s.writeGate_eq g new
  have told (t : State) : t.Reach (t.toldOf g tell) := by
    unfold State.toldOf
    split
    · exact t.reach_tellNeighbours g
    · exact .refl
  rw [e]
  exact ((State.reach_ceilingCheck _ g).trans (told _)).trans (State.reach_evaluateNow _)

/-- What a gate record write can touch (R4, R5, R40). -/
@[simp] def Part.ofGate : Set Part := {.gateRecords, .samples, .ceilings, .routes}

theorem State.leaves_withRecord (s : State) (g : GateId) (new : GateRecord) :
    s.Leaves {.gateRecords} (s.withRecord g new) := s.leaves_setGate _ _ (.inl rfl) (.inr ⟨rfl, rfl⟩) (.inr rfl)

/-- Once the record is in place, a gate record write leaves every record as it stands. -/
theorem State.leaves_receilinged (s : State) (g : GateId) (new : GateRecord) :
    (s.withRecord g new).Leaves {.samples, .ceilings, .routes} (s.receilinged g new) := by
  have bind (t : State) (side : Side) (old new : Option LinkAddr) :
      t.Leaves {.samples, .ceilings, .routes} (t.rebindHoist g side old new) :=
    t.leaves_rebindHoist g side old new (by simp) (by simp)
  exact ((((bind _ _ _ _).trans (bind _ _ _ _)).trans (State.leaves_retravel _ _ _ _ (by simp))).trans
    ((s.reach_reserved g new).leaves _)).trans (State.leaves_setCeiling _ _ _ (by simp))

theorem State.leaves_writeGate (s : State) (g : GateId) (new : GateRecord) :
    (s.withRecord g new).Leaves {.samples, .ceilings, .routes} (s.writeGate g new) :=
  (s.leaves_receilinged g new).trans ((s.reach_writeGate g new).leaves _)

theorem State.leaves_takeWriteGate (s : State) (p : List Byte) : s.Leaves Part.ofGate (s.takeWriteGate p) := by
  unfold State.takeWriteGate
  split
  · exact s.leaves_writeNoRecord _ _
  · split
    · exact s.leaves_writeReply _ _ _ _ _
    · exact (((s.leaves_withRecord _ _).mono (by simp)).trans ((s.leaves_writeGate _ _).mono (by simp))).trans
        (State.leaves_writeReply _ _ _ _ _ _)

/-- What a whole curve write can touch (R37). -/
@[simp] def Part.ofCurve : Set Part := {.curves, .ceilings, .staging}

theorem State.leaves_staging (s : State) (x : Option Staging) {P : Set Part} (h : .staging ∈ P) :
    s.Leaves P { s with staging := x } := by
  intro p hp
  cases p with
  | staging => exact absurd h hp
  | count port name => cases port <;> rfl
  | _ => simp [Part.same, State.record, State.gate, State.gauge]

/-- Breakpoints and generation of a curve replaced. -/
def State.withCurve (s : State) (c : Fin 4) (points : List Breakpoint) : State :=
  { s with curves := s.curves.set c { points := points, generation := (s.curve c).generation + 1 } }

theorem State.leaves_withCurve (s : State) (c : Fin 4) (points : List Breakpoint) :
    s.Leaves {.curves} (s.withCurve c points) := by
  intro p hp
  cases p with
  | curves => exact absurd rfl hp
  | count port name => cases port <;> rfl
  | _ => simp [Part.same, State.withCurve, State.record, State.gate, State.gauge]

theorem State.leaves_writeCurve (s : State) (c : Fin 4) (points : List Breakpoint) :
    (s.withCurve c points).Leaves {.ceilings} (s.writeCurve c points) := State.leaves_ceilingPath _ rfl

theorem State.leaves_wholeCurve (s : State) (c : Fin 4) (points : List Breakpoint) :
    s.Leaves Part.ofCurve (s.writeCurve c points) :=
  ((s.leaves_withCurve c points).mono (by simp)).trans ((s.leaves_writeCurve c points).mono (by simp))

theorem State.leaves_takeWriteFirstPart (s : State) (p : List Byte) :
    s.Leaves Part.ofCurve (s.takeWriteFirstPart p) := by
  unfold State.takeWriteFirstPart
  split
  · exact s.leaves_writeNoRecord _ _
  · split
    · exact s.leaves_writeReply _ _ _ _ _
    · split
      · exact (s.leaves_wholeCurve _ _).trans (State.leaves_writeReply _ _ _ _ _ _)
      · exact (s.leaves_staging _ (by simp [Part.ofCurve])).trans (State.leaves_writeReply _ _ _ _ _ _)

theorem State.leaves_takeWriteSecondPart (s : State) (p : List Byte) :
    s.Leaves Part.ofCurve (s.takeWriteSecondPart p) := by
  have emptied := s.leaves_staging none (P := Part.ofCurve) (by simp [Part.ofCurve])
  unfold State.takeWriteSecondPart
  split
  · exact s.leaves_writeNoRecord _ _
  · split
    · exact s.leaves_writeReply _ _ _ _ _
    · split
      · exact emptied.trans (State.leaves_writeReply _ _ _ _ _ _)
      · exact (emptied.trans (State.leaves_wholeCurve _ _ _)).trans (State.leaves_writeReply _ _ _ _ _ _)

/-- What a gauge record write can touch (R21). -/
@[simp] def Part.ofGauge : Set Part := {.gaugeRecords, .readings, .routes} ∪ Part.ofHead

theorem State.leaves_takeWriteGauge (s : State) (p : List Byte) : s.Leaves Part.ofGauge (s.takeWriteGauge p) := by
  have written (n : GaugeId) (new : GaugeRecord) : s.Leaves Part.ofGauge (s.writeGauge n new) :=
    ((s.leaves_rebind _ _ _ _ (by simp [Part.ofGauge])).trans
      (State.leaves_setGauge _ n _ (by simp [Part.ofGauge]) (.inl (by simp [Part.ofGauge])))).trans
      (State.leaves_relevel _ _ Set.subset_union_right)
  unfold State.takeWriteGauge
  split
  · exact s.leaves_writeNoRecord _ _
  · split
    · exact s.leaves_writeReply _ _ _ _ _
    · exact (written _ _).trans (State.leaves_writeReply _ _ _ _ _ _)

theorem State.leaves_takeWriteRoute (s : State) (p : List Byte) : s.Leaves {.routes} (s.takeWriteRoute p) := by
  unfold State.takeWriteRoute
  split
  · exact s.leaves_writeNoRecord _ _
  · split
    · exact s.leaves_writeReply _ _ _ _ _
    · exact (s.leaves_setRoute _ _ (Set.mem_singleton _)).trans (State.leaves_writeReply _ _ _ _ _ _)

/-- What a settings write can touch (R32, R163). -/
@[simp] def Part.ofSettings : Set Part := {.settings} ∪ Part.ofHead

theorem State.leaves_relevelFor (s : State) (old new : Settings) : s.Leaves Part.ofHead (s.relevelFor old new) := by
  unfold State.relevelFor
  split
  · exact s.leaves_relevel _ subset_rfl
  · split
    · exact s.leaves_newHead _ subset_rfl
    · exact .refl _ _

theorem State.leaves_writeSettings (s : State) (new : Settings) : s.Leaves Part.ofSettings (s.writeSettings new) := by
  have store (silence : Silence) : s.Leaves Part.ofSettings
      { s with settings := new, settingsGen := s.settingsGen + 1, silence := silence } := by
    intro p hp
    cases p with
    | settings => exact absurd (by simp [Part.ofSettings]) hp
    | count port name => cases port <;> rfl
    | _ => simp [Part.same, State.record, State.gate, State.gauge]
  have levelled := (store (if s.settings.silenceWindow = new.silenceWindow then s.silence
    else silenceFor new.silenceWindow)).trans ((State.leaves_relevelFor _ s.settings new).mono Set.subset_union_right)
  unfold State.writeSettings
  simp only
  split
  · exact levelled
  · exact levelled.trans ((State.reach_evaluateNow _).leaves _)

theorem State.leaves_takeWriteSettings (s : State) (p : List Byte) :
    s.Leaves Part.ofSettings (s.takeWriteSettings p) := by
  unfold State.takeWriteSettings
  split
  · split
    · exact s.leaves_writeReply _ _ _ _ _
    · exact (s.leaves_writeSettings _).trans (State.leaves_writeReply _ _ _ _ _ _)
  · exact s.leaves_writeNoRecord _ _

theorem State.leaves_takeRead (s : State) (p : List Byte) (P : Set Part) : s.Leaves P (s.takeRead p) := by
  unfold State.takeRead
  split <;> exact s.leaves_reply _ _ _ _ _

theorem State.leaves_takeStatus (s : State) (p : List Byte) (P : Set Part) : s.Leaves P (s.takeStatus p) := by
  unfold State.takeStatus
  split
  · split <;> exact s.leaves_reply _ _ _ _ _
  · exact s.leaves_reply _ _ _ _ _

/-- Every counter (R171). -/
@[simp] def Part.allCounts : Set Part := {p | ∃ port name, p = .count port name}

theorem State.leaves_takeSnapshot (s : State) (p : List Byte) : s.Leaves Part.allCounts (s.takeSnapshot p) := by
  have cleared : s.Leaves Part.allCounts
      (if byteAt p 0 = 0 then s else { s with spCounters := .zero, fpCounters := .zero }) := by
    split
    · exact .refl _ _
    · intro p hp
      cases p with
      | count port name => exact absurd ⟨port, name, rfl⟩ hp
      | _ => simp [Part.same, State.record, State.gate, State.gauge]
  exact cleared.trans (State.leaves_reply _ _ _ _ _ _)

/-! ### The Frame Sorter and the receivers -/

theorem State.leaves_takeStation (s : State) (row : StationRow) (handle : State → RxFrame → State) {P : Set Part}
    (h : ∀ (t : State) f, t.Leaves P (handle t f)) : s.Leaves P (s.takeStation row handle) := by
  unfold State.takeStation
  split
  · exact .refl _ _
  · rename_i f rest _
    split
    · refine State.Leaves.trans (t := { s with spRx := rest }) (State.leaves_of_partsOf P ?_) (h _ f)
      rfl
    · exact .refl _ _

theorem State.leaves_refuseDirect (s : State) (f : Frame) (r : Result) (g : GateId) (side : Side) {P : Set Part}
    (h : .count .sp .routeDrops ∈ P) : s.Leaves P (s.refuseDirect f r g side) :=
  (s.leaves_count _ _ h).trans (State.leaves_reply _ _ _ _ _ _)

theorem State.leaves_sortStation (s : State) (f : RxFrame) : s.Leaves (Part.sortCounts .sp) (s.sortStation f) := by
  have relay : Part.relayCounts .sp ⊆ Part.sortCounts .sp := Set.subset_union_left
  have drop : .count .sp .routeDrops ∈ Part.sortCounts .sp := by simp [Part.sortCounts]
  have astray : .count .sp .misroutes ∈ Part.sortCounts .sp := by simp [Part.sortCounts]
  have direct (g : GateId) (side : Side) : s.Leaves (Part.sortCounts .sp) (s.sortDirect f.frame g side) := by
    unfold State.sortDirect
    split
    · exact s.leaves_joinDown _ relay
    · split
      · split
        · exact s.leaves_refuseDirect _ _ _ _ drop
        · exact s.leaves_joinDown _ relay
      · exact s.leaves_refuseDirect _ _ _ _ drop
  have unfit : s.Leaves (Part.sortCounts .sp) (s.sortUnfit f.frame) := by
    unfold State.sortUnfit
    split <;> exact s.leaves_reply _ _ _ _ _
  unfold State.sortStation
  simp only
  split
  · exact s.leaves_misroute _ _ astray
  · split
    · exact unfit
    · exact direct _ _
    · exact s.leaves_joinDown _ relay
    · split
      · exact s.leaves_joinDown _ relay
      · exact s.leaves_count _ _ drop
    · exact s.leaves_misroute _ _ astray

theorem State.leaves_passReport (s : State) (e : RouteEntry) (f : Frame) {P : Set Part}
    (h : Part.relayCounts .fp ⊆ P) : s.Leaves P (s.passReport e f) := by
  unfold State.passReport
  split
  · split
    · exact s.leaves_joinUp _ h
    · exact .refl _ _
  · exact .refl _ _

theorem State.leaves_takeReport (s : State) (owner : FieldRow → Option (State → RxFrame → State)) {P : Set Part}
    (relay : Part.relayCounts .fp ⊆ P)
    (h : ∀ row act, owner row = some act → ∀ (t : State) f, t.Leaves P (act t f)) :
    s.Leaves P (s.takeReport owner) := by
  unfold State.takeReport
  split
  · exact .refl _ _
  · rename_i f rest _
    split
    · rename_i act e
      refine State.Leaves.trans (t := { s with fpRx := rest }) (State.leaves_of_partsOf P ?_)
        ((h _ _ e _ f).trans (State.leaves_passReport _ _ _ relay))
      rfl
    · exact .refl _ _

theorem State.leaves_sortField (s : State) (f : RxFrame) : s.Leaves (Part.sortCounts .fp) (s.sortField f) := by
  have drop : s.Leaves (Part.sortCounts .fp) (s.count .fp .routeDrops) :=
    s.leaves_count _ _ (by simp [Part.sortCounts])
  have astray : s.Leaves (Part.sortCounts .fp) (s.misroute .fp f) := s.leaves_misroute _ _ (by simp [Part.sortCounts])
  have unowned (e : RouteEntry) : s.Leaves (Part.sortCounts .fp) (s.passUnowned e f.frame) := by
    unfold State.passUnowned
    split
    · exact s.leaves_joinUp _ Set.subset_union_left
    · exact drop
  have owned (e : RouteEntry) : s.Leaves (Part.sortCounts .fp)
      (if f.frame.dest = 0 then s.passUnowned e f.frame
        else if f.frame.dest = s.ownAddress then s.count .fp .routeDrops else s.misroute .fp f) := by
    split
    · exact unowned e
    · split
      · exact drop
      · exact astray
  unfold State.sortField
  simp only
  split
  · exact owned _
  · exact owned _
  · split
    · exact unowned _
    · exact astray
  · exact astray

theorem State.leaves_takeUnowned (s : State) : s.Leaves (Part.sortCounts .fp) s.takeUnowned := by
  unfold State.takeUnowned
  split
  · exact .refl _ _
  · rename_i f rest _
    split
    · refine State.Leaves.trans (t := { s with fpRx := rest }) (State.leaves_of_partsOf _ ?_) (State.leaves_sortField _ f)
      rfl
    · exact .refl _ _

theorem State.leaves_hear (s : State) (port : Port) (h : Heard) : s.Leaves (Part.receiveCounts port) (s.hear port h) := by
  unfold State.hear
  split
  · rename_i f
    have counted := s.leaves_count port .good (P := Part.receiveCounts port) (by simp [Part.receiveCounts])
    have heard : (s.count port .good).Leaves (Part.receiveCounts port) ((s.count port .good).hearStation port) := by
      cases port <;> exact State.leaves_of_partsOf _ rfl
    refine (counted.trans heard).trans ?_
    unfold State.offer
    split
    · cases port <;> exact State.leaves_of_partsOf _ rfl
    · exact State.leaves_count _ _ _ (by simp [Part.receiveCounts])
  · exact s.leaves_count _ _ (by simp [Part.receiveCounts])

theorem State.leaves_rescan (s : State) (port : Port) (cs : List RxChar) :
    s.Leaves (Part.receiveCounts port) (s.rescan port cs) := by
  have all (t : State) (hs : List Heard) :
      t.Leaves (Part.receiveCounts port) (hs.foldl (fun s h => s.hear port h) t) := by
    induction hs generalizing t with
    | nil => exact .refl _ _
    | cons h hs ih => exact (t.leaves_hear port h).trans (ih _)
  have held (cs : List RxChar) : s.Leaves (Part.receiveCounts port) (s.setReceiver port cs) := by
    cases port <;> exact State.leaves_of_partsOf _ rfl
  exact (held _).trans (all _ _)

theorem State.leaves_receive (s : State) (port : Port) (chars : List Byte) :
    s.Leaves (Part.receiveCounts port) (s.receive port chars) := s.leaves_rescan _ _

theorem State.leaves_abandon (s : State) (port : Port) : s.Leaves (Part.receiveCounts port) (s.abandon port) := by
  unfold State.abandon
  split
  · exact .refl _ _
  · exact (s.leaves_hear port .bad).trans (State.leaves_rescan _ _ _)

/-! ### Warm restart and transmitters -/

/-- What a RESTART can touch (R34, R42, R174). -/
@[simp] def Part.ofRestart : Set Part := {.staging} ∪ Part.ofHead

theorem State.reach_restartGate (s : State) (g : GateId) : s.Reach (s.restartGate g) := by
  have cleared : s.Reach (s.setExcursion g false) := .setExcursion g false .refl
  unfold State.restartGate
  simp only
  split
  · split
    · exact cleared.trans (State.reach_toIdle _ g)
    · exact cleared.trans (State.reach_makeHold _ _ _ _)
  · exact cleared.trans (State.reach_setMotion _ _ _ (fun _ => by trivial) fun _ _ => rfl)

theorem State.leaves_emptied (s : State) : s.Leaves Part.ofRestart s.emptied := by
  refine (s.leaves_staging none (by simp [Part.ofRestart])).trans (State.leaves_of_partsOf _ ?_)
  rfl

theorem State.leaves_restartLevel (s : State) : s.Leaves Part.ofHead s.restartLevel := by
  refine State.Leaves.trans ?_ (State.leaves_newHead _ _ subset_rfl)
  intro p hp
  cases p with
  | levels => exact absurd (by simp) hp
  | count port name => cases port <;> rfl
  | _ => simp [Part.same, State.record, State.gate, State.gauge]

/-- Once the queues and counts are empty, a warm restart touches head, mode and ceilings alone. -/
theorem State.leaves_emptied_warmRestart (s : State) : s.emptied.Leaves Part.ofHead s.warmRestart := by
  have gates (t : State) (gs : List GateId) : t.Reach ((t.sweep gs State.haltGate).sweep allGates State.restartGate) :=
    (t.reach_sweep _ _ State.reach_haltGate).trans (State.reach_sweep _ _ _ State.reach_restartGate)
  exact ((((gates _ _).leaves _).trans (State.leaves_restartLevel _)).trans
    (State.leaves_recomputeCeilings _ (by simp))).trans
    ((State.reach_sweep _ _ _ State.reach_checkExcursionOf).leaves _)

theorem State.leaves_warmRestart (s : State) : s.Leaves Part.ofRestart s.warmRestart :=
  s.leaves_emptied.trans (s.leaves_emptied_warmRestart.mono Set.subset_union_right)

theorem State.leaves_transmitStation (s : State) (P : Set Part) : s.Leaves P s.transmitStation := by
  unfold State.transmitStation
  split <;> exact State.leaves_of_partsOf P rfl

theorem State.leaves_transmitField (s : State) (P : Set Part) : s.Leaves P s.transmitField := by
  unfold State.transmitField
  split <;> exact State.leaves_of_partsOf P rfl

/-! ### Every command -/

/-- The parts that a command can touch. -/
@[simp] def touches : Instr → Set Part
  | .coldReset _ _ _ => Set.univ
  | .frameCheck port _ => Part.receiveCounts port
  | .receiveGapAbandon port => Part.receiveCounts port
  | .candidateSync port => Part.receiveCounts port
  | .lengthOver48 port _ => Part.receiveCounts port
  | .stationFrameSort => Part.sortCounts .sp
  | .fieldFrameSort => Part.sortCounts .fp
  | .position => {.samples} ∪ Part.relayCounts .fp
  | .ack => Part.relayCounts .fp
  | .level => Part.ofLevel ∪ Part.relayCounts .fp
  | .tableWriteGate => Part.ofGate
  | .tableWriteCurveFirstPart => Part.ofCurve
  | .tableWriteCurveSecondPart => Part.ofCurve
  | .tableWriteGauge => Part.ofGauge
  | .tableWriteRoute => {.routes}
  | .tableWriteSettings => Part.ofSettings
  | .counterSnapshot => Part.allCounts
  | .restart => Part.ofRestart
  | .gaugeStale _ => Part.ofHead
  | _ => ∅

theorem State.leaves_position (s : State) : s.Leaves (touches .position) (s.takeReport positionOwner) := by
  refine s.leaves_takeReport _ Set.subset_union_right fun row act h t f => ?_
  cases row <;> simp only [positionOwner, reduceCtorEq, Option.some.injEq] at h
  subst h
  exact (t.leaves_takePosition _ _ _ _).mono Set.subset_union_left

theorem State.leaves_ack (s : State) : s.Leaves (touches .ack) (s.takeReport ackOwner) := by
  refine s.leaves_takeReport _ subset_rfl fun row act h t f => ?_
  cases row <;> simp only [ackOwner, reduceCtorEq, Option.some.injEq] at h
  subst h
  exact (t.reach_takeAck _ _ _).leaves _

theorem State.leaves_level (s : State) : s.Leaves (touches .level) (s.takeReport levelOwner) := by
  refine s.leaves_takeReport _ Set.subset_union_right fun row act h t f => ?_
  cases row <;> simp only [levelOwner, reduceCtorEq, Option.some.injEq] at h
  subst h
  exact (t.leaves_takeLevel _ _).mono Set.subset_union_left

/-- Every command leaves the parts that it does not touch. -/
theorem exec_leaves (c : Instr) (s t : State) (h : exec c s = .next t) : s.Leaves (touches c) t := by
  cases c with
  | coldReset => exact fun p hp => absurd (Set.mem_univ p) hp
  | stopNAssertion => cases h; exact s.leaves_assertStop _
  | stopNRelease => cases h; exact s.leaves_releaseStop _
  | frameCheck port chars => cases h; exact s.leaves_receive _ _
  | receiveGapAbandon port => cases h; exact s.leaves_abandon _
  | stationFrameSort => cases h; exact s.leaves_takeStation _ _ State.leaves_sortStation
  | fieldFrameSort => cases h; exact s.leaves_takeUnowned
  | position => cases h; exact s.leaves_position
  | ack => cases h; exact s.leaves_ack
  | level => cases h; exact s.leaves_level
  | move => cases h; exact s.leaves_takeStation _ _ fun t f => t.leaves_takeMove _ _
  | stop => cases h; exact s.leaves_takeStation _ _ fun t f => t.leaves_takeStop _ _
  | groupSet => cases h; exact s.leaves_takeStation _ _ fun t f => t.leaves_takeGroupSet _ _
  | groupStop => cases h; exact s.leaves_takeStation _ _ fun t f => t.leaves_takeGroupStop _ _
  | groupInvalidAction => cases h; exact s.leaves_takeStation _ _ fun t f => t.leaves_reply _ _ _ _ _
  | clearHold => cases h; exact s.leaves_takeStation _ _ fun t f => t.leaves_takeClearHold _ _
  | tableRead => cases h; exact s.leaves_takeStation _ _ fun t f => t.leaves_takeRead _ _
  | tableWriteGate => cases h; exact s.leaves_takeStation _ _ fun t f => t.leaves_takeWriteGate _
  | tableWriteCurveFirstPart => cases h; exact s.leaves_takeStation _ _ fun t f => t.leaves_takeWriteFirstPart _
  | tableWriteCurveSecondPart => cases h; exact s.leaves_takeStation _ _ fun t f => t.leaves_takeWriteSecondPart _
  | tableWriteGauge => cases h; exact s.leaves_takeStation _ _ fun t f => t.leaves_takeWriteGauge _
  | tableWriteRoute => cases h; exact s.leaves_takeStation _ _ fun t f => t.leaves_takeWriteRoute _
  | tableWriteSettings => cases h; exact s.leaves_takeStation _ _ fun t f => t.leaves_takeWriteSettings _
  | statusRead => cases h; exact s.leaves_takeStation _ _ fun t f => t.leaves_takeStatus _ _
  | counterSnapshot => cases h; exact s.leaves_takeStation _ _ fun t f => t.leaves_takeSnapshot _
  | misrouteRead => cases h; exact s.leaves_takeStation _ _ fun t f => State.leaves_of_partsOf _ rfl
  | timeSet => cases h; exact s.leaves_takeStation _ _ fun t f => State.leaves_of_partsOf _ rfl
  | restart =>
    cases h
    exact s.leaves_takeStation _ _ fun t f => t.leaves_warmRestart.trans (State.leaves_reply _ _ _ _ _ _)
  | spTransmit => cases h; exact s.leaves_transmitStation _
  | fpTransmit => cases h; exact s.leaves_transmitField _
  | hoistStale g side => cases h; exact (s.reach_hoistGoesStale _ _).leaves _
  | gaugeStale n => cases h; exact s.leaves_gaugeGoesStale _
  | ackWindowExpiry g => cases h; exact (s.reach_ackWindowEnds _).leaves _
  | deadlineExpiry g => cases h; exact (s.reach_deadlineEnds _).leaves _
  | haltWindowExpiry g => cases h; exact (s.reach_haltWindowEnds _).leaves _
  | silenceExpiry => cases h; exact s.leaves_silenceEnds _
  | candidateSync port => cases h; exact s.leaves_receive _ _
  | lengthOver48 port len => cases h; exact s.leaves_receive _ _

/-- What a counter needs to be touched is an event that the command can bring (R185). -/
theorem mayCount_of_touches {c : Instr} {port : Port} {name : CounterName} (h : .count port name ∈ touches c) :
    mayCount c port name := by
  cases c <;> cases port <;> simp_all [mayCount] <;> tauto

/-- Settles O4: each part is touched by the commands that the statement names alone (`exec_leaves`). -/
theorem recordsChangeByTheirOwnCommands : Obligations.RecordsChangeByTheirOwnCommands := by
  intro c s t h notReset
  have leaves := exec_leaves c s t h
  refine ⟨fun _ => leaves .gateRecords ?_, fun _ _ => leaves .curves ?_, fun _ => leaves .gaugeRecords ?_,
    fun _ _ _ => leaves .routes ?_, fun _ => leaves .settings ?_, fun _ _ => leaves .samples ?_,
    fun _ _ => leaves .readings ?_, fun _ _ _ _ _ => ?levels,
    fun port name no => leaves (.count port name) fun touched => no (mayCount_of_touches touched)⟩
  case levels =>
    obtain ⟨up, down, head, mode⟩ := leaves .levels (by cases c <;> simp_all)
    exact ⟨up, down, head, mode, fun _ _ _ => leaves .ceilings (by cases c <;> simp_all)⟩
  all_goals cases c <;> simp_all

end Sys2Proof.Machine

/-! ## Cold reset -/

namespace Sys2Proof.Machine

/-! ### The parts of the cold state -/

section
variable (strap : BitVec 6) (rateHigh stopLow : Bool)

@[simp] theorem State.cold_gate (g : GateId) : (State.cold strap rateHigh stopLow).gate g = .cold := by
  simp [State.gate, State.cold]

@[simp] theorem State.cold_record (g : GateId) : (State.cold strap rateHigh stopLow).record g = .cold := by
  simp [State.record, Gate.cold]

@[simp] theorem State.cold_curve (c : Fin 4) : (State.cold strap rateHigh stopLow).curve c = .cold := by
  simp [State.curve, State.cold]

@[simp] theorem State.cold_gauge (n : GaugeId) : (State.cold strap rateHigh stopLow).gauge n = .cold := by
  simp [State.gauge, State.cold]

@[simp] theorem State.cold_route (a : LinkAddr) :
    (State.cold strap rateHigh stopLow).route a = RouteEntry.cold (addressOfStrap strap) a := by
  simp [State.route, State.cold]

end

theorem addressOfStrap_val (strap : BitVec 6) : (addressOfStrap strap).val = if strap = 0 then 63 else strap.toNat := by
  unfold addressOfStrap
  split <;> rfl

theorem addressOfStrap_ne_zero (strap : BitVec 6) : addressOfStrap strap ≠ 0 := by
  intro h
  have val := addressOfStrap_val strap
  rw [h] at val
  split at val
  · simp at val
  · rename_i ne
    exact ne (BitVec.eq_of_toNat_eq val.symm)

/-- Settles O22: the state after a cold reset is `State.cold` with the command queue kept. -/
theorem coldResetClearsThePart : Obligations.ColdResetClearsThePart := by
  intro s strap rateHigh stopLow
  refine ⟨s.coldReset strap rateHigh stopLow, rfl, fun g => ?gate, fun c => ?curve, rfl, rfl, rfl, rfl, rfl, rfl, rfl,
    rfl, rfl, rfl, fun n => ?gauge, rfl, rfl, rfl, rfl, addressOfStrap_val strap, rfl, rfl, rfl, fun a => ?route, rfl, rfl, rfl,
    rfl, rfl, rfl, rfl, rfl, rfl, rfl, rfl, rfl, rfl, rfl, rfl, rfl, rfl⟩
  case gate =>
    have cold : (s.coldReset strap rateHigh stopLow).gate g = .cold := State.cold_gate strap rateHigh stopLow g
    rw [State.record, cold]
    exact ⟨rfl, rfl, rfl, rfl, rfl, rfl, rfl⟩
  case curve => exact State.cold_curve strap rateHigh stopLow c
  case gauge => exact State.cold_gauge strap rateHigh stopLow n
  case route => exact State.cold_route strap rateHigh stopLow a

/-! ### The cold state meets every invariant -/

theorem GateRecord.cold_legal (own : LinkAddr) : GateRecord.cold.Legal own := by
  constructor <;> simp [GateRecord.cold]

theorem GaugeRecord.cold_legal (own : LinkAddr) : GaugeRecord.cold.Legal own := by
  constructor <;> simp [GaugeRecord.cold]

theorem State.cold_recordsLegal (strap : BitVec 6) (rateHigh stopLow : Bool) :
    (State.cold strap rateHigh stopLow).RecordsLegal where
  gates g := by simpa using GateRecord.cold_legal _
  curves c := by simp [Curve.Legal, Curve.cold, pointsLegal]
  inUse g := by simp [GateRecord.cold]
  gauges n := by rw [State.cold_gauge]; exact GaugeRecord.cold_legal _
  settings := by constructor <;> simp [State.cold, Settings.cold]
  staging t h := by simp [State.cold] at h

theorem State.cold_travelKept (strap : BitVec 6) (rateHigh stopLow : Bool) :
    (State.cold strap rateHigh stopLow).TravelKept where
  samples g side x := by cases side <;> simp [Gate.cold, Gate.sample]
  targets g := by simp [Motion.within, Gate.cold, Motion.request, Motion.storedTarget, Motion.leg]
  ceilings g c := by simp [Gate.cold]
  gaugeAges n := by simp [Gauge.cold]

theorem State.cold_queuesBounded (strap : BitVec 6) (rateHigh stopLow : Bool) :
    (State.cold strap rateHigh stopLow).QueuesBounded := by
  constructor <;> simp [State.cold]

theorem State.cold_slotsCounted (strap : BitVec 6) (rateHigh stopLow : Bool) :
    (State.cold strap rateHigh stopLow).SlotsCounted where
  once := List.nodup_nil
  pendingGates g := by rw [State.cold_gate]; simp [State.cold, Gate.cold, Motion.isPending]
  count := by simp only [State.cold_gate]; rfl
  withinK := by simp [State.cold]
  quiet h := by simp [State.cold] at h

theorem State.cold_routesBound (strap : BitVec 6) (rateHigh stopLow : Bool) :
    (State.cold strap rateHigh stopLow).RoutesBound := by
  have own : (State.cold strap rateHigh stopLow).ownAddress = addressOfStrap strap := rfl
  have ne := addressOfStrap_ne_zero strap
  refine ⟨ne, fun a => ?_, fun a => ?_, fun a => ?_, fun a => ?_, fun a g side => ?_, fun a n => ?_⟩
  · simp only [State.cold_route, RouteEntry.cold, Role.cold]
    split_ifs <;> simp_all
  · simp only [State.cold_route, RouteEntry.cold, Role.cold, own]
    split_ifs <;> simp_all [eq_comm]
  · simp only [State.cold_route, RouteEntry.cold, Role.cold]
    split_ifs <;> simp
  · simp only [State.cold_route, RouteEntry.cold, Role.cold]
    split_ifs <;> simp
  · cases side <;> simp [RouteEntry.cold, GateRecord.cold, GateRecord.hoist]
  · simp [RouteEntry.cold, Gauge.cold, GaugeRecord.cold]

theorem State.cold_levelsSettled (strap : BitVec 6) (rateHigh stopLow : Bool) :
    (State.cold strap rateHigh stopLow).LevelsSettled where
  head := rfl
  mode := rfl
  ceilings g := by simp [Gate.cold, State.computeCeiling, GateRecord.cold]

theorem State.cold_faultShown (strap : BitVec 6) (rateHigh stopLow : Bool) :
    (State.cold strap rateHigh stopLow).FaultShown := by
  simp only [State.FaultShown, State.cold_gate]
  simp [State.cold, Gate.cold, Motion.isHold]

theorem State.cold_holdsSound (strap : BitVec 6) (rateHigh stopLow : Bool) :
    (State.cold strap rateHigh stopLow).HoldsSound := by
  intro g h d e
  simp [Gate.cold] at e

/-- Settles O13: the state after reset is a cold state, and every cold state meets every invariant. -/
theorem resetMeetsEveryInvariant : Obligations.ResetMeetsEveryInvariant :=
  ⟨State.cold_queuesBounded _ _ _, State.cold_faultShown _ _ _, State.cold_slotsCounted _ _ _,
    State.cold_routesBound _ _ _, State.cold_recordsLegal _ _ _, State.cold_travelKept _ _ _,
    State.cold_levelsSettled _ _ _, State.cold_holdsSound _ _ _, rfl⟩

end Sys2Proof.Machine

/-! ## One millisecond -/

namespace Sys2Proof.Machine

theorem mem_allGates (g : GateId) : g ∈ allGates := by revert g; decide

theorem mem_allGauges (n : GaugeId) : n ∈ allGauges := by revert n; decide

/-! ### What a tick counts -/

@[simp] theorem State.tick_gate (s : State) (g : GateId) : s.tick.gate g = (s.gate g).later := by
  simp [State.tick, State.gate]

@[simp] theorem State.tick_gauge (s : State) (n : GaugeId) : s.tick.gauge n = (s.gauge n).later := by
  simp [State.tick, State.gauge]

@[simp] theorem State.elapse_gate (s : State) (g : GateId) : s.elapse.gate g = (s.gate g).later := s.tick_gate g

@[simp] theorem State.elapse_gauge (s : State) (n : GaugeId) : s.elapse.gauge n = (s.gauge n).later := s.tick_gauge n

theorem step_idle {s : State} (h : s.pending = []) : step s = .next s.elapse := by simp [step, h]

theorem Gauge.later_eq (x : Gauge) : x.later = { x with
    age := if x.value ≠ none ∧ x.age < 100000 then x.age + 1 else x.age } := by
  unfold Gauge.later older
  cases x.value <;> simp

/-- A millisecond touches the ages of samples and gauges alone. -/
theorem State.leaves_elapse (s : State) : s.Leaves {.samples, .readings} s.elapse := by
  intro p hp
  cases p with
  | samples | readings => simp at hp
  | gateRecords => intro g; simp [State.record, Gate.later]
  | ceilings => intro g; simp [Gate.later]
  | gaugeRecords => intro n; simp [Gauge.later]
  | count port name => cases port <;> rfl
  | _ => simp [Part.same, State.elapse, State.tick]

/-! ### Which expiries fall due -/

@[simp] theorem mem_whenever (b : Bool) (i j : Instr) : i ∈ whenever b j ↔ b = true ∧ i = j := by
  cases b <;> simp [whenever]

/-- The expiries of the hoist sides, windows and deadline of a gate are of that gate alone. -/
theorem mem_gateDue (i : Instr) (g : GateId) (x y : Gate) : i ∈ gateDue g x y ↔
    (i = .ackWindowExpiry g ∧ ∃ r l, y.motion = .starting r l 0) ∨
    (i = .deadlineExpiry g ∧ ∃ r l, l.deadline = 0 ∧
      ((∃ w, y.motion = .starting r l w) ∨ y.motion = .travelling r l)) ∨
    (i = .haltWindowExpiry g ∧ ∃ n l, y.motion = .stopping n l 0) ∨
    ∃ side, i = .hoistStale g side ∧ x.stale side = false ∧ y.stale side = true := by
  have sides (p : Side → Prop) : (∃ side, p side) ↔ p .left ∨ p .right :=
    ⟨fun ⟨side, h⟩ => by cases side <;> simp [h], fun h => h.elim (⟨_, ·⟩) (⟨_, ·⟩)⟩
  simp only [gateDue, List.mem_append, mem_whenever, sides, or_assoc]
  refine or_congr ?ack (or_congr ?deadline (or_congr ?halt (or_congr ?staleLeft ?staleRight)))
  case ack =>
    cases y.motion with
    | starting r l w => cases w <;> simp
    | _ => simp
  case deadline => cases y.motion <;> simp [Motion.countingLeg, and_comm]
  case halt =>
    cases y.motion with
    | stopping n l w => cases w <;> simp
    | _ => simp
  case staleLeft => simp [and_comm]
  case staleRight => simp [and_comm]

theorem mem_gaugeDue (i : Instr) (n : GaugeId) (x y : Gauge) :
    i ∈ gaugeDue n x y ↔ i = .gaugeStale n ∧ x.overdue = false ∧ y.overdue = true := by
  simp only [gaugeDue, mem_whenever, Bool.and_eq_true, Bool.not_eq_true']
  tauto

theorem mem_stopDue (i : Instr) (s : State) : i ∈ s.stopDue ↔
    20 ≤ s.stopFilter ∧ (i = .stopNAssertion ∧ s.stopPinLow = true ∧ s.stopAsserted = false ∨
      i = .stopNRelease ∧ s.stopPinLow = false ∧ s.stopAsserted = true) := by
  unfold State.stopDue
  cases s.stopPinLow <;> cases s.stopAsserted <;> simp

/-- Every expiry that is queued is of one of these five kinds, and each falls due as its rule says. -/
theorem State.mem_due (i : Instr) (s t : State) : i ∈ s.due t ↔
    i ∈ t.stopDue ∨ (i = .silenceExpiry ∧ t.silence = .running 0) ∨
    (∃ g, i ∈ gateDue g (s.gate g) (t.gate g)) ∨ ∃ n, i ∈ gaugeDue n (s.gauge n) (t.gauge n) := by
  simp [State.due, mem_allGates, mem_allGauges, and_comm]

theorem State.mem_elapse_pending {s : State} (h : s.pending = []) (i : Instr) :
    i ∈ s.elapse.pending ↔ i ∈ s.due s.elapse := by
  simp [State.elapse, h]
  rfl

/-- Settles O2: an idle step is `State.elapse`, and what it queues is `State.due`, which `State.mem_due` takes apart. -/
theorem idleStepIsOneMillisecond : Obligations.IdleStepIsOneMillisecond := by
  refine ⟨fun s idle => ⟨s.elapse, step_idle idle, rfl, rfl, ?silence, fun g => ?gate, fun n => ?gauge⟩,
    fun s t idle stepped => ?_⟩
  case silence => show s.silence.later = _; cases s.silence <;> rfl
  case gate => 
    rw [State.elapse_gate]
    generalize s.gate g = x
    obtain ⟨_, _, m, _, _, _, _⟩ := x
    cases m <;> rfl
  case gauge => rw [State.elapse_gauge, Gauge.later_eq]
  rw [step_idle idle] at stepped
  obtain rfl : s.elapse = t := by injection stepped
  simp only [State.mem_elapse_pending idle, State.mem_due, mem_stopDue, mem_gateDue, mem_gaugeDue]
  have pin : s.elapse.stopPinLow = s.stopPinLow := rfl
  have input : s.elapse.stopAsserted = s.stopAsserted := rfl
  exact ⟨by simp, by simp, by simp, by simp, by simp, by simp, by simp [pin, input]; tauto, by simp [pin, input]; tauto⟩

end Sys2Proof.Machine

/-! ## Every step keeps every record legal -/

namespace Sys2Proof.Machine

/-! ### A command that takes a frame -/

/-- A station frame command changes nothing, or hands its handler the oldest frame (R133). -/
theorem State.takeStation_cases (s : State) (row : StationRow) (handle : State → RxFrame → State) :
    s.takeStation row handle = s ∨ ∃ f rest, s.takeStation row handle = handle { s with spRx := rest } f := by
  unfold State.takeStation
  split
  · exact .inl rfl
  · split
    · exact .inr ⟨_, _, rfl⟩
    · exact .inl rfl

/-! ### What passes the checks -/

theorem firstFailing_eq_none (l : List Bool) : firstFailing l = none ↔ ∀ b ∈ l, b = true := by
  induction l with
  | nil => simp [firstFailing]
  | cons b l ih => cases b <;> simp [firstFailing, ih]

theorem fieldCheck_eq_none (l : List Bool) : fieldCheck l = none ↔ ∀ b ∈ l, b = true := by
  simp [fieldCheck, firstFailing_eq_none]

/-- An address byte that passes its check names a legal address. -/
theorem addressLegal_of_addressOk {own a : LinkAddr} {n : Nat} (ok : addressOk own n = true) (h : optAddr n = some a) :
    addressLegal own a := by
  unfold optAddr at h
  split at h
  · cases h
  · rename_i nz
    obtain rfl := Option.some.inj h
    simp only [addressOk, within, nz, decide_false, Bool.false_or, Bool.and_eq_true, decide_eq_true_eq] at ok
    obtain ⟨⟨low, high⟩, ne⟩ := ok
    have small : n % 64 = n := by omega
    exact ⟨by simp [small, low], by simp [small, high], fun e => ne (by simp [← e, small])⟩

theorem optAddr_eq_none (n : Nat) : optAddr n = none ↔ n = 0 := by
  simp [optAddr]

theorem optAddr_inj {m n : Nat} {own a : LinkAddr} (okm : addressOk own m = true) (okn : addressOk own n = true)
    (hm : optAddr m = some a) (hn : optAddr n = some a) : m = n := by
  simp only [optAddr, Option.ite_none_left_eq_some, Option.some.injEq] at hm hn
  simp [addressOk, within] at okm okn
  obtain ⟨nm, em⟩ := hm
  obtain ⟨nn, en⟩ := hn
  have : m % 64 = n % 64 := by rw [← en] at em; simpa using em
  omega

theorem RawGate.record_legal (s : State) (x : RawGate) (ok : ∀ b ∈ x.checks s, b = true) :
    x.record.Legal s.ownAddress := by
  simp only [RawGate.checks, List.forall_mem_cons, within, withinInt, yesNo, Bool.and_eq_true, Bool.or_eq_true,
    decide_eq_true_eq] at ok
  obtain ⟨served, left, ⟨right, apart⟩, leftOffset, rightOffset, travel, -, spread, -, -, normal, creep, head, start, arrive,
    trim, trip, sample, -, ack, -, priority, -⟩ := ok
  constructor <;> simp only [RawGate.record]
  case served =>
    intro on
    obtain ⟨-, off | ⟨⟨⟨l, r⟩, -⟩, -⟩⟩ := served
    · simp [off] at on
    · exact ⟨fun e => l ((optAddr_eq_none _).mp e), fun e => r ((optAddr_eq_none _).mp e)⟩
  case left => exact fun a => addressLegal_of_addressOk left
  case right => exact fun a => addressLegal_of_addressOk right
  case apart =>
    intro a hl hr
    have same := optAddr_inj left right hl hr
    obtain zero | ne := apart
    · rw [(optAddr_eq_none _).mpr zero] at hr; cases hr
    · exact ne same.symm
  all_goals omega

theorem RawGate.curve_ready (s : State) (x : RawGate) (ok : ∀ b ∈ x.checks s, b = true)
    (on : x.record.inService = true) : 2 ≤ (s.curve x.record.curve).points.length := by
  simp only [RawGate.checks, List.forall_mem_cons, within, Bool.and_eq_true, Bool.or_eq_true, decide_eq_true_eq] at ok
  obtain ⟨⟨-, served⟩, -, -, -, -, -, ⟨-, curve⟩, -⟩ := ok
  simp only [RawGate.record, decide_eq_true_eq] at on ⊢
  obtain off | ⟨-, ready⟩ := served
  · omega
  · have lt : x.curve < 4 := by omega
    simpa [State.curveReady, lt, Nat.mod_eq_of_lt lt] using ready

theorem RawGauge.record_legal (own : LinkAddr) (x : RawGauge) (ok : ∀ b ∈ x.checks own, b = true) :
    x.record.Legal own := by
  simp only [RawGauge.checks, List.forall_mem_cons, within, withinInt, yesNo, Bool.and_eq_true, Bool.or_eq_true,
    decide_eq_true_eq] at ok
  obtain ⟨served, -, address, offset, low, high, sample, -⟩ := ok
  constructor <;> simp only [RawGauge.record]
  case served =>
    intro on e
    have := (optAddr_eq_none _).mp e
    simp at on
    omega
  case address => exact fun a => addressLegal_of_addressOk address
  all_goals omega

theorem parseSettings_legal (r : List Byte) (ok : ∀ b ∈ settingsChecks r, b = true) : (parseSettings r).Legal := by
  simp only [settingsChecks, List.forall_mem_cons, within, Bool.and_eq_true, Bool.or_eq_true, decide_eq_true_eq] at ok
  obtain ⟨slots, mask, silence, limit, hyst, agree, -⟩ := ok
  constructor <;> simp only [parseSettings] <;> omega

/-- Breakpoints that pass their checks are legal, and follow the head before them (R36). -/
theorem pointsLegal_of_pointChecks (before : Option Int) (ps : List (Int × Nat))
    (ok : ∀ b ∈ pointChecks before ps, b = true) :
    pointsLegal (toPoints ps) ∧ ∀ h, before = some h → ∀ b ∈ toPoints ps, h < b.head := by
  induction ps generalizing before with
  | nil => simp [toPoints, pointsLegal]
  | cons p ps ih =>
    obtain ⟨h, c⟩ := p
    simp only [pointChecks, List.forall_mem_cons, within, withinInt, Bool.and_eq_true, decide_eq_true_eq] at ok
    obtain ⟨⟨head, after⟩, ceiling, later⟩ := ok
    obtain ⟨⟨range, rising⟩, above⟩ := ih (some h) later
    refine ⟨⟨?_, ?_⟩, ?_⟩
    · simp only [toPoints, List.map_cons, List.forall_mem_cons]
      exact ⟨⟨head.1, head.2, ceiling.2⟩, range⟩
    · exact List.pairwise_cons.mpr ⟨above h rfl, rising⟩
    · rintro q rfl
      have first : q < h := by simpa using after
      simp only [toPoints, List.map_cons, List.forall_mem_cons]
      exact ⟨first, fun b hb => first.trans (above h rfl b hb)⟩

@[simp] theorem toPoints_length (ps : List (Int × Nat)) : (toPoints ps).length = ps.length := by simp [toPoints]

/-- The second part of a curve goes on where the staged first part ends (R169). -/
theorem pointsLegal_append {ps qs : List Breakpoint} (hp : pointsLegal ps) (hq : pointsLegal qs)
    (above : ∀ h, ps.getLast?.map Breakpoint.head = some h → ∀ b ∈ qs, h < b.head) : pointsLegal (ps ++ qs) := by
  obtain ⟨rangeP, risingP⟩ := hp
  obtain ⟨rangeQ, risingQ⟩ := hq
  refine ⟨fun b hb => (List.mem_append.mp hb).elim (rangeP b) (rangeQ b),
    List.pairwise_append.mpr ⟨risingP, risingQ, fun a ha b hb => ?_⟩⟩
  obtain rfl | ⟨front, last, rfl⟩ := List.eq_nil_or_concat ps
  · cases ha
  · rw [List.concat_eq_append] at risingP ha above
    have next := above last.head (by simp) b hb
    obtain ha | rfl : a ∈ front ∨ a = last := by simpa using ha
    · obtain ⟨-, -, rising⟩ := List.pairwise_append.mp risingP
      exact (rising a ha last (by simp)).trans next
    · exact next

/-! ### Steps that touch no record -/

/-- The parts that the legality of the records speaks of. -/
def Part.ofRecords : Set Part := {.address, .gateRecords, .curves, .gaugeRecords, .settings}

/-- Legality is kept where no record changes, and a staging record that appears is legal. -/
theorem State.RecordsLegal.of_leaves {s t : State} {P : Set Part} (h : s.RecordsLegal) (k : s.Leaves P t)
    (apart : ∀ p ∈ Part.ofRecords, p ∉ P) (staging : ∀ x, t.staging = some x → x.Legal) : t.RecordsLegal := by
  have own : t.ownAddress = s.ownAddress := k .address (apart _ (by simp [Part.ofRecords]))
  have records := k .gateRecords (apart _ (by simp [Part.ofRecords]))
  have curves (c : Fin 4) : t.curve c = s.curve c :=
    congrArg (·[c]) (k .curves (apart _ (by simp [Part.ofRecords])) : t.curves = s.curves)
  have gauges := k .gaugeRecords (apart _ (by simp [Part.ofRecords]))
  obtain ⟨settings, -⟩ := k .settings (apart _ (by simp [Part.ofRecords]))
  refine ⟨fun g => ?_, fun c => ?_, fun g on => ?_, fun n => ?_, ?_, staging⟩
  · rw [(records g).1, own]; exact h.gates g
  · rw [curves]; exact h.curves c
  · rw [(records g).1] at on ⊢; rw [curves]; exact h.inUse g on
  · rw [(gauges n).1, own]; exact h.gauges n
  · rw [settings]; exact h.settings

theorem State.RecordsLegal.kept {s t : State} {P : Set Part} (h : s.RecordsLegal) (k : s.Leaves P t)
    (apart : ∀ p ∈ Part.ofRecords, p ∉ P) (staging : .staging ∉ P) : t.RecordsLegal :=
  h.of_leaves k apart ((k .staging staging : t.staging = s.staging) ▸ h.staging)

theorem State.RecordsLegal.writeReply {s : State} (h : s.RecordsLegal) (p : List Byte) (r : Result) (d : Nat)
    (gen : CountWord) : (s.writeReply p r d gen).RecordsLegal :=
  h.kept (s.leaves_writeReply p r d gen ∅) (by simp) (by simp)

theorem State.RecordsLegal.writeNoRecord {s : State} (h : s.RecordsLegal) (p : List Byte) :
    (s.writeNoRecord p).RecordsLegal := h.kept (s.leaves_writeNoRecord p ∅) (by simp) (by simp)

/-! ### The writes -/

theorem State.judgeGate_eq_none {s : State} {g : GateId} {p : List Byte} (h : s.judgeGate g p = none) :
    (∀ b ∈ (RawGate.parse (recordBytes p)).checks s, b = true) ∧
      generationCheck (isConditional p) (expectedGen p) (s.gate g).generation = none ∧
      (s.gate g).runningCheck (RawGate.parse (recordBytes p)).record = none ∧
      s.hoistsInUse g (RawGate.parse (recordBytes p)).record = none := by
  simpa only [State.judgeGate, Option.or_eq_none_iff, fieldCheck_eq_none] using h

@[simp] theorem State.withRecord_record (s : State) (g h : GateId) (new : GateRecord) :
    (s.withRecord g new).record h = if h = g then new else s.record h := by
  by_cases e : h = g <;> simp [State.withRecord, State.record, State.setGate_gate, e]

theorem State.RecordsLegal.writeGate {s : State} (h : s.RecordsLegal) (g : GateId) (new : GateRecord)
    (legal : new.Legal s.ownAddress) (ready : new.inService = true → 2 ≤ (s.curve new.curve).points.length) :
    (s.writeGate g new).RecordsLegal := by
  have stored : (s.withRecord g new).RecordsLegal := by
    refine ⟨fun k => ?_, h.curves, fun k on => ?_, h.gauges, h.settings, h.staging⟩
    · rw [State.withRecord_record]
      split
      · exact legal
      · exact h.gates k
    · rw [State.withRecord_record] at on ⊢
      split at on <;> rename_i e
      · simpa [e, State.withRecord] using ready on
      · simpa [e, State.withRecord] using h.inUse k on
  exact stored.kept (s.leaves_writeGate g new) (by simp [Part.ofRecords]) (by simp)

theorem State.RecordsLegal.takeWriteGate {s : State} (h : s.RecordsLegal) (p : List Byte) :
    (s.takeWriteGate p).RecordsLegal := by
  unfold State.takeWriteGate
  split
  · exact h.writeNoRecord p
  · split
    · exact h.writeReply _ _ _ _
    · rename_i e
      obtain ⟨ok, -⟩ := State.judgeGate_eq_none e
      exact (h.writeGate _ _ (RawGate.record_legal s _ ok) (RawGate.curve_ready s _ ok)).writeReply _ _ _ _

theorem State.withCurve_curve (s : State) (c d : Fin 4) (points : List Breakpoint) :
    (s.withCurve c points).curve d =
      if d = c then { points := points, generation := (s.curve c).generation + 1 } else s.curve d := by
  by_cases e : d = c
  · subst e; simp [State.curve, State.withCurve]
  · have ne : (c : Nat) ≠ d := fun k => e (Fin.ext k.symm)
    simp [State.curve, State.withCurve, e, ne]

theorem State.RecordsLegal.writeCurve {s : State} (h : s.RecordsLegal) (c : Fin 4) (points : List Breakpoint)
    (legal : Curve.Legal { points := points, generation := (s.curve c).generation + 1 })
    (ready : 2 ≤ points.length ∨ s.curveInUse c = false) : (s.writeCurve c points).RecordsLegal := by
  have stored : (s.withCurve c points).RecordsLegal := by
    refine ⟨h.gates, fun d => ?_, fun g on => ?_, h.gauges, h.settings, h.staging⟩
    · rw [State.withCurve_curve]
      split
      · exact legal
      · exact h.curves d
    · show 2 ≤ ((s.withCurve c points).curve (s.record g).curve).points.length
      rw [State.withCurve_curve]
      split
      · rename_i e
        obtain ok | free := ready
        · exact ok
        · have no := List.any_eq_false.mp free g (mem_allGates g)
          simp only [e, decide_true, Bool.and_true] at no
          exact absurd on no
      · exact h.inUse g on
  exact stored.kept (s.leaves_writeCurve c points) (by simp [Part.ofRecords]) (by simp)

theorem State.judgeFirstPart_eq_none {s : State} {c : Fin 4} {p : List Byte} (h : s.judgeFirstPart c p = none) :
    (curveCount p = 0 ∨ 2 ≤ curveCount p ∧ curveCount p ≤ 16) ∧ pointsLegal (toPoints (firstPoints p)) ∧
      (curveCount p = 0 → s.curveInUse c = false) := by
  simp only [State.judgeFirstPart, Option.or_eq_none_iff, fieldCheck_eq_none, List.forall_mem_cons] at h
  obtain ⟨⟨count, points⟩, -, free⟩ := h
  refine ⟨by simpa [countOk, within] using count, (pointsLegal_of_pointChecks none _ points).1, fun zero => ?_⟩
  simpa [zero] using free

theorem State.RecordsLegal.staged {s : State} (h : s.RecordsLegal) (x : Option Staging) (legal : ∀ y, x = some y → y.Legal) :
    { s with staging := x }.RecordsLegal :=
  h.of_leaves (s.leaves_staging x (P := {.staging}) rfl) (by simp [Part.ofRecords]) legal

theorem State.RecordsLegal.takeWriteFirstPart {s : State} (h : s.RecordsLegal) (p : List Byte) :
    (s.takeWriteFirstPart p).RecordsLegal := by
  unfold State.takeWriteFirstPart
  split
  · exact h.writeNoRecord p
  · split
    · exact h.writeReply _ _ _ _
    · rename_i c _ _ e
      obtain ⟨count, points, free⟩ := State.judgeFirstPart_eq_none e
      have length : (toPoints (firstPoints p)).length = min (curveCount p) 8 := by simp [firstPoints]
      split
      · rename_i small
        refine State.RecordsLegal.writeReply (h.writeCurve c (toPoints (firstPoints p)) ⟨?_, points⟩ ?_) _ _ _ _
        · rw [← List.length_eq_zero_iff, length]; omega
        · rw [length]
          obtain zero | ok := count
          · exact .inr (free zero)
          · left; omega
      · rename_i big
        refine State.RecordsLegal.writeReply (h.staged _ fun y e => ?_) _ _ _ _
        cases e
        exact ⟨by show 9 ≤ curveCount p; omega, by show curveCount p ≤ 16; omega,
          by show (toPoints (firstPoints p)).length = 8; omega, points⟩

theorem State.judgeSecondPart_eq_none {s : State} {c : Fin 4} {t : Staging} {p : List Byte}
    (h : s.judgeSecondPart c t p = none) :
    ∀ b ∈ pointChecks (t.points.getLast?.map Breakpoint.head) (secondPoints t p), b = true := by
  simp only [State.judgeSecondPart, Option.or_eq_none_iff, fieldCheck_eq_none, secondChecks, List.forall_mem_append] at h
  exact h.1.2

theorem State.stagedFor_eq_some {s : State} {c : Fin 4} {t : Staging} (h : s.stagedFor c = some t) :
    s.staging = some t ∧ t.curve = c := by
  unfold State.stagedFor at h
  split at h
  · split at h
    · cases h; exact ⟨‹_›, ‹_›⟩
    · cases h
  · cases h

theorem State.RecordsLegal.takeWriteSecondPart {s : State} (h : s.RecordsLegal) (p : List Byte) :
    (s.takeWriteSecondPart p).RecordsLegal := by
  have emptied : { s with staging := none }.RecordsLegal := h.staged none fun _ e => by cases e
  unfold State.takeWriteSecondPart
  split
  · exact h.writeNoRecord p
  · split
    · exact h.writeReply _ _ _ _
    · rename_i t e
      obtain ⟨stored, -⟩ := State.stagedFor_eq_some e
      obtain ⟨low, high, length, points⟩ := h.staging t stored
      split
      · exact emptied.writeReply _ _ _ _
      · rename_i ok
        obtain ⟨second, above⟩ := pointsLegal_of_pointChecks _ _ (State.judgeSecondPart_eq_none ok)
        have total : (t.points ++ toPoints (secondPoints t p)).length = t.count := by
          simp [secondPoints, length]; omega
        refine State.RecordsLegal.writeReply (emptied.writeCurve _ _ ⟨.inr ?_, pointsLegal_append points second above⟩
          (.inl ?_)) _ _ _ _
        · show 2 ≤ (t.points ++ toPoints (secondPoints t p)).length ∧ (t.points ++ toPoints (secondPoints t p)).length ≤ 16
          omega
        · omega

theorem State.RecordsLegal.writeGauge {s : State} (h : s.RecordsLegal) (n : GaugeId) (new : GaugeRecord)
    (legal : new.Legal s.ownAddress) : (s.writeGauge n new).RecordsLegal := by
  have bound : (s.rebind (s.gauge n).record.address new.address .gauge (.gauge n)).RecordsLegal :=
    h.kept (s.leaves_rebind _ _ _ _ (P := {.routes}) rfl) (by simp [Part.ofRecords]) (by simp)
  have own : (s.rebind (s.gauge n).record.address new.address .gauge (.gauge n)).ownAddress = s.ownAddress :=
    (s.leaves_rebind _ _ _ _ (P := {.routes}) rfl) .address (by simp)
  have stored (x : Gauge) (hx : x.record = new) :
      ((s.rebind (s.gauge n).record.address new.address .gauge (.gauge n)).setGauge n x).RecordsLegal := by
    refine ⟨bound.gates, bound.curves, bound.inUse, fun m => ?_, bound.settings, bound.staging⟩
    rw [State.setGauge_gauge]
    split
    · rw [hx]; exact own ▸ legal
    · exact bound.gauges m
  have levelled (t : State) (k : t.RecordsLegal) (bs : List Bank) : (t.relevel bs).RecordsLegal :=
    k.kept (t.leaves_relevel bs (P := Part.ofHead) subset_rfl) (by simp [Part.ofRecords]) (by simp)
  exact levelled _ (stored _ rfl) _

theorem State.judgeGauge_eq_none {s : State} {n : GaugeId} {p : List Byte} (h : s.judgeGauge n p = none) :
    ∀ b ∈ (RawGauge.parse (recordBytes p)).checks s.ownAddress, b = true := by
  simp only [State.judgeGauge, Option.or_eq_none_iff, fieldCheck_eq_none] at h
  exact h.1

theorem State.RecordsLegal.takeWriteGauge {s : State} (h : s.RecordsLegal) (p : List Byte) :
    (s.takeWriteGauge p).RecordsLegal := by
  unfold State.takeWriteGauge
  split
  · exact h.writeNoRecord p
  · split
    · exact h.writeReply _ _ _ _
    · rename_i e
      exact (h.writeGauge _ _ (RawGauge.record_legal _ _ (State.judgeGauge_eq_none e))).writeReply _ _ _ _

theorem State.RecordsLegal.writeSettings {s : State} (h : s.RecordsLegal) (new : Settings) (legal : new.Legal) :
    (s.writeSettings new).RecordsLegal := by
  have stored (silence : Silence) :
      { s with settings := new, settingsGen := s.settingsGen + 1, silence := silence }.RecordsLegal :=
    ⟨h.gates, h.curves, h.inUse, h.gauges, legal, h.staging⟩
  have levelled (t : State) (k : t.RecordsLegal) : (t.relevelFor s.settings new).RecordsLegal :=
    k.kept (t.leaves_relevelFor s.settings new) (by simp [Part.ofRecords]) (by simp)
  have ready := levelled _ (stored (if s.settings.silenceWindow = new.silenceWindow then s.silence
    else silenceFor new.silenceWindow))
  unfold State.writeSettings
  simp only
  split
  · exact ready
  · exact ready.kept ((State.reach_evaluateNow _).leaves ∅) (by simp) (by simp)

theorem State.RecordsLegal.takeWriteSettings {s : State} (h : s.RecordsLegal) (p : List Byte) :
    (s.takeWriteSettings p).RecordsLegal := by
  unfold State.takeWriteSettings
  split
  · split
    · exact h.writeReply _ _ _ _
    · rename_i e
      simp only [State.judgeSettings, Option.or_eq_none_iff, fieldCheck_eq_none] at e
      obtain ⟨ok, -⟩ := e
      exact (h.writeSettings _ (parseSettings_legal _ ok)).writeReply _ _ _ _
  · exact h.writeNoRecord p

/-! ### Every step -/

theorem State.RecordsLegal.takeStation {s : State} (h : s.RecordsLegal) (row : StationRow)
    (handle : State → RxFrame → State) (keeps : ∀ (t : State) f, t.RecordsLegal → (handle t f).RecordsLegal) :
    (s.takeStation row handle).RecordsLegal := by
  obtain e | ⟨f, rest, e⟩ := s.takeStation_cases row handle <;> rw [e]
  · exact h
  · exact keeps _ f ⟨h.gates, h.curves, h.inUse, h.gauges, h.settings, h.staging⟩

/-- The commands that write a record or stage one. -/
def writesRecord : Instr → Bool
  | .coldReset _ _ _ => true
  | .tableWriteGate => true
  | .tableWriteCurveFirstPart => true
  | .tableWriteCurveSecondPart => true
  | .tableWriteGauge => true
  | .tableWriteSettings => true
  | .restart => true
  | _ => false

theorem State.RecordsLegal.warmRestart {s : State} (h : s.RecordsLegal) : s.warmRestart.RecordsLegal := by
  have emptied : s.emptied.RecordsLegal :=
    ⟨h.gates, h.curves, h.inUse, h.gauges, h.settings, fun _ e => by cases e⟩
  exact emptied.kept s.leaves_emptied_warmRestart (by simp [Part.ofRecords]) (by simp)

theorem exec_recordsLegal (c : Instr) (s t : State) (h : s.RecordsLegal) (e : exec c s = .next t) : t.RecordsLegal := by
  by_cases writes : writesRecord c = false
  · have leaves := exec_leaves c s t e
    exact h.kept leaves (by cases c <;> simp_all [writesRecord, Part.ofRecords]) (by cases c <;> simp_all [writesRecord])
  · cases c <;> simp only [writesRecord, not_true_eq_false] at writes
    case coldReset a b d =>
      cases e
      have cold := State.cold_recordsLegal a b d
      exact ⟨cold.gates, cold.curves, cold.inUse, cold.gauges, cold.settings, cold.staging⟩
    case tableWriteGate => cases e; exact h.takeStation _ _ fun t f k => k.takeWriteGate _
    case tableWriteCurveFirstPart => cases e; exact h.takeStation _ _ fun t f k => k.takeWriteFirstPart _
    case tableWriteCurveSecondPart => cases e; exact h.takeStation _ _ fun t f k => k.takeWriteSecondPart _
    case tableWriteGauge => cases e; exact h.takeStation _ _ fun t f k => k.takeWriteGauge _
    case tableWriteSettings => cases e; exact h.takeStation _ _ fun t f k => k.takeWriteSettings _
    case restart =>
      cases e
      exact h.takeStation _ _ fun t f k => k.warmRestart.kept (State.leaves_reply _ _ _ _ _ ∅) (by simp) (by simp)

/-- Settles O9: a millisecond touches no record, and a command keeps every record legal (`exec_recordsLegal`). -/
theorem recordsStayLegal : Obligations.RecordsStayLegal := by
  intro s t h e
  unfold step at e
  split at e
  · cases e
    exact h.kept s.leaves_elapse (by simp [Part.ofRecords]) (by simp)
  · rename_i c rest _
    exact exec_recordsLegal c { s with pending := rest } t
      ⟨h.gates, h.curves, h.inUse, h.gauges, h.settings, h.staging⟩ e

end Sys2Proof.Machine

/-! ## Every step keeps targets within travel

A target enters a gate by a request, by a decision, or by a record write; each is bounded by the gate's full_travel, and
every other transition hands on a target that the gate has already. -/

namespace Sys2Proof.Machine

/-! ### Targets of a motion state -/

section
variable (T : Nat)

@[simp] theorem Motion.within_outOfService (d : Option Target) :
    (Motion.outOfService d).within T ↔ ∀ t, d = some t → t.target ≤ T := by
  simp [Motion.within, Motion.request, Motion.storedTarget, Motion.leg]

@[simp] theorem Motion.within_idle : Motion.idle.within T := by
  simp [Motion.within, Motion.request, Motion.storedTarget, Motion.leg]

@[simp] theorem Motion.within_pending (r : Request) : (Motion.pending r).within T ↔ r.target ≤ T := by
  simp [Motion.within, Motion.request, Motion.storedTarget, Motion.leg]

@[simp] theorem Motion.within_starting (r : Request) (l : Leg) (w : Nat) :
    (Motion.starting r l w).within T ↔ r.target ≤ T ∧ l.target ≤ T := by
  simp [Motion.within, Motion.request, Motion.storedTarget, Motion.leg]

@[simp] theorem Motion.within_travelling (r : Request) (l : Leg) :
    (Motion.travelling r l).within T ↔ r.target ≤ T ∧ l.target ≤ T := by
  simp [Motion.within, Motion.request, Motion.storedTarget, Motion.leg]

@[simp] theorem Motion.within_stopping_idle (l : Leg) (w : Nat) :
    (Motion.stopping .idle l w).within T ↔ l.target ≤ T := by
  simp [Motion.within, Motion.request, NextStep.request, Motion.storedTarget, Motion.leg]

@[simp] theorem Motion.within_stopping_restartLeg (r : Request) (l : Leg) (w : Nat) :
    (Motion.stopping (.restartLeg r) l w).within T ↔ r.target ≤ T ∧ l.target ≤ T := by
  simp [Motion.within, Motion.request, NextStep.request, Motion.storedTarget, Motion.leg]

@[simp] theorem Motion.within_stopping_requeue (r : Request) (l : Leg) (w : Nat) :
    (Motion.stopping (.requeue r) l w).within T ↔ r.target ≤ T ∧ l.target ≤ T := by
  simp [Motion.within, Motion.request, NextStep.request, Motion.storedTarget, Motion.leg]

@[simp] theorem Motion.within_stopping_outOfService (c : Option Target) (l : Leg) (w : Nat) :
    (Motion.stopping (.outOfService c) l w).within T ↔ (∀ t, c = some t → t.target ≤ T) ∧ l.target ≤ T := by
  simp [Motion.within, Motion.request, NextStep.request, Motion.storedTarget, Motion.leg]

@[simp] theorem Motion.within_hold (h : Hold) (d : Option Target) :
    (Motion.hold h d).within T ↔ ∀ t, d = some t → t.target ≤ T := by
  simp [Motion.within, Motion.request, Motion.storedTarget, Motion.leg]

end

/-- What a stop keeps for its hold, and its leg, are targets that it has. -/
theorem Motion.kept_within {n : NextStep} {l : Leg} {w T : Nat} (h : (Motion.stopping n l w).within T) :
    (∀ t, n.kept = some t → t.target ≤ T) ∧ l.target ≤ T := by
  cases n <;> simp_all [NextStep.kept, Request.toTarget]

/-- The parts of a stop's legs that change with evidence or time hold no target. -/
theorem Motion.stopping_within_congr {n : NextStep} {l : Leg} {w T : Nat} (h : (Motion.stopping n l w).within T)
    (m : Leg) (v : Nat) (e : m.target = l.target) : (Motion.stopping n m v).within T := by
  cases n <;> simp_all

theorem Motion.restamped_within {m : Motion} {T : Nat} (k : m.within T) (f : Nat → Nat) : (m.restamped f).within T := by
  cases m with
  | stopping n l w => exact Motion.stopping_within_congr k _ _ rfl
  | outOfService | idle | pending | hold => exact k
  | starting | travelling => simpa [Motion.restamped] using k

/-! ### Chains of transitions -/

/-- Every target of a gate lies within the gate's full travel. -/
def State.TargetsKept (s : State) : Prop := ∀ g, (s.gate g).motion.within (s.record g).fullTravel

theorem State.TargetsKept.setMotion {s : State} (h : s.TargetsKept) (g : GateId) {m : Motion}
    (k : m.within (s.record g).fullTravel) : (s.setMotion g m).TargetsKept := by
  intro j
  rw [State.setMotion_record, State.setMotion_gate]
  split
  · rename_i e; exact e ▸ k
  · exact h j

theorem State.TargetsKept.of_gates {s t : State} (h : s.TargetsKept) (e : ∀ g, t.gate g = s.gate g) : t.TargetsKept := by
  intro g
  rw [State.record, e g]
  exact h g

theorem State.TravelKept.targetsKept {s : State} (h : s.TravelKept) : s.TargetsKept := h.targets

/-- The Sequencer and the Arbiter change neither samples nor ceilings nor records, so the targets are all there is to
check after a chain of theirs. -/
theorem State.TravelKept.of_reach {s t : State} (h : s.TravelKept) (k : s.Reach t) (targets : t.TargetsKept) :
    t.TravelKept := by
  have gauges (n : GaugeId) : t.gauge n = s.gauge n := by rw [k.frame]; rfl
  refine ⟨fun g side x hx => ?_, targets, fun g c hc => ?_, fun n => ?_⟩
  · rw [k.record]
    refine h.samples g side x ?_
    rw [k.gate] at hx
    cases side <;> exact hx
  · rw [k.record]
    exact h.ceilings g c (by rw [k.gate] at hc; exact hc)
  · rw [gauges]; exact h.gaugeAges n

theorem State.TravelKept.of_gates {s t : State} (h : s.TravelKept) (k : s.Reach t) (e : ∀ g, t.gate g = s.gate g) :
    t.TravelKept := h.of_reach k (h.targetsKept.of_gates e)

section
variable {s : State} (h : s.TravelKept)
include h

theorem State.TravelKept.post (n : Notice) : (s.post n).TravelKept := h.of_gates (.post n .refl) (by simp)

theorem State.TravelKept.owe : s.owe.TravelKept := h.of_gates s.reach_owe fun _ => rfl

theorem State.TravelKept.releaseSlot : s.releaseSlot.TravelKept := h.of_gates s.reach_releaseSlot fun _ => rfl

theorem State.TravelKept.counts (slots grants : Nat) (waiting : List GateId) (due : Bool) :
    { s with slotsInUse := slots, grantCounter := grants, waiting := waiting, evalDue := due }.TravelKept :=
  h.of_gates (.counts slots grants waiting due .refl) fun _ => rfl

theorem State.TravelKept.haltGate (g : GateId) : (s.haltGate g).TravelKept :=
  h.of_gates (s.reach_haltGate g) (by simp)

theorem State.TravelKept.runGate (g : GateId) (x v : Nat) : (s.runGate g x v).TravelKept :=
  h.of_gates (s.reach_runGate g x v) (by simp)

theorem State.TravelKept.pauseHoist (g : GateId) (side : Side) : (s.pauseHoist g side).TravelKept :=
  h.of_gates (s.reach_pauseHoist g side) (by simp)

theorem State.TravelKept.resumeHoist (g : GateId) (side : Side) : (s.resumeHoist g side).TravelKept :=
  h.of_gates (s.reach_resumeHoist g side) (by simp)

theorem State.TravelKept.resumePaused (g : GateId) (l : Leg) : (s.resumePaused g l).TravelKept :=
  h.of_gates (s.reach_resumePaused g l) (by simp)

theorem State.TravelKept.postHeld (g : GateId) (r : HoldReason) : (s.postHeld g r).TravelKept :=
  h.of_gates (s.reach_postHeld g r) (by simp)

theorem State.TravelKept.postArrived (g : GateId) : (s.postArrived g).TravelKept :=
  h.of_gates (s.reach_postArrived g) (by simp)

theorem State.TravelKept.weighed (g : GateId) (r : Request) : (s.weigh g r).2.2.TravelKept :=
  h.of_gates (s.reach_weigh g r) (by simp)

/-- A motion state whose targets are within travel may replace the one before. -/
theorem State.TravelKept.setMotion (g : GateId) {m : Motion} (k : m.within (s.record g).fullTravel) :
    (s.setMotion g m).TravelKept := by
  have same (j : GateId) : ((s.setMotion g m).gate j).sample = (s.gate j).sample ∧
      ((s.setMotion g m).gate j).ceiling = (s.gate j).ceiling := by
    by_cases e : j = g
    · subst e; simp; rfl
    · simp [State.setMotion_gate_ne _ _ e]
  refine ⟨fun j side x hx => ?_, h.targetsKept.setMotion g k, fun j c hc => ?_, h.gaugeAges⟩
  · rw [State.setMotion_record]
    exact h.samples j side x (by rw [← (same j).1]; exact hx)
  · rw [State.setMotion_record]
    exact h.ceilings j c (by rw [← (same j).2]; exact hc)

theorem State.TravelKept.setExcursion (g : GateId) (b : Bool) : (s.setExcursion g b).TravelKept := by
  refine h.of_reach (.setExcursion g b .refl) fun j => ?_
  rw [State.setExcursion_record, State.setExcursion_gate]
  split
  · rename_i e; exact e ▸ h.targets j
  · exact h.targets j

theorem State.TravelKept.joinTail (g : GateId) {r : Request} (k : r.target ≤ (s.record g).fullTravel) :
    (s.joinTail g r).TravelKept :=
  (h.setMotion g (m := .pending r) (by simpa using k)).counts s.slotsInUse s.grantCounter (s.waiting ++ [g]) true

theorem State.TravelKept.joinHead (g : GateId) {r : Request} (k : r.target ≤ (s.record g).fullTravel) :
    (s.joinHead g r).TravelKept :=
  (h.setMotion g (m := .pending r) (by simpa using k)).counts s.slotsInUse s.grantCounter (g :: s.waiting) true

theorem State.TravelKept.leaveList (g : GateId) {m : Motion} (k : m.within (s.record g).fullTravel) :
    (s.leaveList g m).TravelKept :=
  (h.setMotion g k).counts s.slotsInUse s.grantCounter (s.waiting.filter fun h => h ≠ g) s.evalDue

theorem State.TravelKept.sweep (gs : List GateId) (act : State → GateId → State)
    (keeps : ∀ (t : State) g, t.TravelKept → (act t g).TravelKept) : (s.sweep gs act).TravelKept := by
  unfold State.sweep
  induction gs generalizing s with
  | nil => exact h
  | cons g gs ih => exact ih (keeps s g h)

/-! ### Decisions -/

/-- An opening is the average of two corrected positions, which are clamped to full_travel (R13, R14). -/
theorem State.TravelKept.opening_le (g : GateId) {o : Nat} (e : (s.gate g).opening = some o) :
    o ≤ (s.record g).fullTravel := by
  have corrected (side : Side) (x : Sample) (hx : (s.gate g).sample side = some x) :
      x.corrected ≤ (s.record g).fullTravel := by
    obtain ⟨-, e, -⟩ := h.samples g side x hx
    rw [e]
    exact min_le_right _ _
  unfold Gate.opening at e
  split at e
  · rename_i l r hl hr
    have := corrected .left l hl
    have := corrected .right r hr
    cases e
    omega
  · cases e

end

theorem goalStage_le (target opening : Nat) (ceiling : Option Nat) : (goalStage target opening ceiling).1 ≤ target := by
  unfold goalStage
  split <;> split <;> simp <;> omega

theorem allowedInterval_low (spread opening n : Nat) : (allowedInterval spread opening n).1 ≤ opening := by
  simp only [allowedInterval, distance]
  split <;> omega

/-- The band reaches down to the opening at least: a neighbour that stands apart allows its distance (R46). -/
theorem neighbourBand_low {spread opening : Nat} {ns : List Nat} {i : Int × Int}
    (e : neighbourBand spread opening ns = some i) : i.1 ≤ opening := by
  have meets (ms : List Nat) (j : Int × Int) (hj : j.1 ≤ opening) :
      (ms.foldl (fun i m => meet i (allowedInterval spread opening m)) j).1 ≤ opening := by
    induction ms generalizing j with
    | nil => exact hj
    | cons m ms ih => exact ih _ (max_le hj (allowedInterval_low spread opening m))
  cases ns with
  | nil => cases e
  | cons n ns => cases e; exact meets ns _ (allowedInterval_low spread opening n)

theorem bandStage_low {spread opening : Nat} {ns : List Nat} {ceiling : Option Nat} {i : Int × Int}
    (e : bandStage spread opening ns ceiling = some i) : i.1 ≤ opening := by
  unfold bandStage at e
  split at e
  · cases e
  · rename_i hb; cases e; exact (min_le_left _ _).trans (neighbourBand_low hb)
  · rename_i hb; cases e; exact neighbourBand_low hb

theorem legStage_le {goal T : Nat} {band : Option (Int × Int)} (hg : goal ≤ T)
    (low : ∀ i, band = some i → i.1 ≤ T) : (legStage goal band).1 ≤ T := by
  unfold legStage
  split
  · exact hg
  · rename_i lo hi
    have := low (lo, hi) rfl
    split
    · simp; omega
    · split
      · simp; omega
      · exact hg

/-- A leg target lies within travel where its request's target does (R44, R46, R47). -/
theorem State.TravelKept.plan_le {s : State} (h : s.TravelKept) {g : GateId} {target : Nat} {p : Plan}
    (ht : target ≤ (s.record g).fullTravel) (e : (s.decideFor g target).decision = .legNeeded p) :
    p.target ≤ (s.record g).fullTravel := by
  unfold State.decideFor at e
  split at e
  · cases e
  · rename_i o ho
    have opening := h.opening_le g ho
    unfold State.decideAt at e
    simp only at e
    split at e
    · cases e
    · split at e
      · cases e
      · cases e
        exact legStage_le ((goalStage_le _ _ _).trans ht) fun i hi => by
          have := bandStage_low hi
          omega

theorem State.weigh_decision (s : State) (g : GateId) (r : Request) :
    (s.weigh g r).1 = (s.decideFor g r.target).decision := by
  unfold State.weigh
  simp only
  split
  · split <;> rfl
  · rfl

/-- A decision leaves a request its target and level (R50, R51). -/
theorem State.weigh_toTarget (s : State) (g : GateId) (r : Request) : (s.weigh g r).2.1.toTarget = r.toTarget := by
  unfold State.weigh
  simp only
  split
  · split <;> rfl
  · rfl

theorem State.weigh_target (s : State) (g : GateId) (r : Request) : (s.weigh g r).2.1.target = r.target :=
  congrArg Target.target (s.weigh_toTarget g r)

/-- What a weighing needs to know of travel: its request, its plan and its state. -/
theorem State.TravelKept.weigh {s : State} (h : s.TravelKept) {g : GateId} {r : Request}
    (k : r.target ≤ (s.record g).fullTravel) :
    (s.weigh g r).2.2.TravelKept ∧ (s.weigh g r).2.1.target ≤ ((s.weigh g r).2.2.record g).fullTravel ∧
      ∀ p, (s.weigh g r).1 = .legNeeded p → p.target ≤ ((s.weigh g r).2.2.record g).fullTravel := by
  have record := (s.reach_weigh g r).record g
  refine ⟨h.weighed g r, ?_, fun p e => ?_⟩
  · rw [record, State.weigh_target]; exact k
  · rw [record]; exact h.plan_le k (by rw [← State.weigh_decision]; exact e)

/-! ### The Gate Sequencer -/

theorem State.haltGate_record (s : State) (g j : GateId) : (s.haltGate g).record j = s.record j :=
  (s.reach_haltGate g).record j

theorem State.TargetsKept.haltGate {s : State} (h : s.TargetsKept) (g : GateId) : (s.haltGate g).TargetsKept :=
  h.of_gates (s.haltGate_gate g)

theorem State.TargetsKept.makeHold {s : State} (h : s.TargetsKept) (g : GateId) (r : HoldReason) {d : Option Target}
    (k : ∀ t, d = some t → t.target ≤ (s.record g).fullTravel) : (s.makeHold g r d).TargetsKept :=
  (h.setMotion g (m := .hold _ d) (by simpa using k)).of_gates (State.postHeld_gate _ g · r)

theorem State.TargetsKept.leaveList {s : State} (h : s.TargetsKept) (g : GateId) {m : Motion}
    (k : m.within (s.record g).fullTravel) : (s.leaveList g m).TargetsKept :=
  (h.setMotion g k).of_gates fun _ => rfl

theorem State.TargetsKept.setExcursion {s : State} (h : s.TargetsKept) (g : GateId) (b : Bool) :
    (s.setExcursion g b).TargetsKept := by
  intro j
  rw [State.setExcursion_record, State.setExcursion_gate]
  split
  · rename_i e; exact e ▸ h j
  · exact h j

theorem State.TargetsKept.enterOutOfService {s : State} (h : s.TargetsKept) (g : GateId) {d : Option Target}
    (k : ∀ t, d = some t → t.target ≤ (s.record g).fullTravel) : (s.enterOutOfService g d).TargetsKept :=
  (h.setMotion g (m := .outOfService d) (by simpa using k)).setExcursion g false

theorem State.TargetsKept.enterStopping {s : State} (h : s.TargetsKept) (g : GateId) {n : NextStep} {l : Leg}
    (k : (Motion.stopping n l 0).within (s.record g).fullTravel) : (s.enterStopping g n l).TargetsKept :=
  (h.haltGate g).setMotion g (by rw [State.haltGate_record]; exact Motion.stopping_within_congr k _ _ rfl)

/-- A fault hands the gate's target on to its hold (R74, R75). -/
theorem State.TargetsKept.fault {s : State} (h : s.TargetsKept) (g : GateId) (r : HoldReason) :
    (s.fault g r).TargetsKept := by
  have hg := h g
  have halted {d : Option Target} (k : ∀ t, d = some t → t.target ≤ (s.record g).fullTravel) :
      (((s.haltGate g).makeHold g r d).releaseSlot).TargetsKept :=
    ((h.haltGate g).makeHold g r (by rw [State.haltGate_record]; exact k)).of_gates fun _ => rfl
  unfold State.fault
  split <;> rename_i e <;> rw [e] at hg
  · exact h
  · exact h.makeHold g r (by simp)
  · exact (h.leaveList g (m := .hold _ _) (by simpa [Request.toTarget] using hg)).of_gates (State.postHeld_gate _ g · r)
  · exact halted (by simp_all [Request.toTarget])
  · exact halted (by simp_all [Request.toTarget])
  · exact halted (Motion.kept_within hg).1
  · exact h.setMotion g (by simpa using hg)

section
variable {s : State} (h : s.TravelKept)
include h

theorem State.TravelKept.fault (g : GateId) (r : HoldReason) : (s.fault g r).TravelKept :=
  h.of_reach (s.reach_fault g r) (h.targetsKept.fault g r)

theorem State.TravelKept.makeHold (g : GateId) (r : HoldReason) {d : Option Target}
    (k : ∀ t, d = some t → t.target ≤ (s.record g).fullTravel) : (s.makeHold g r d).TravelKept :=
  h.of_reach (s.reach_makeHold g r d) (h.targetsKept.makeHold g r k)

theorem State.TravelKept.enterOutOfService (g : GateId) {d : Option Target}
    (k : ∀ t, d = some t → t.target ≤ (s.record g).fullTravel) : (s.enterOutOfService g d).TravelKept :=
  h.of_reach (s.reach_enterOutOfService g d) (h.targetsKept.enterOutOfService g k)

theorem State.TravelKept.enterStopping (g : GateId) {n : NextStep} {l : Leg}
    (k : (Motion.stopping n l 0).within (s.record g).fullTravel) : (s.enterStopping g n l).TravelKept :=
  (h.haltGate g).setMotion g (by rw [State.haltGate_record]; exact Motion.stopping_within_congr k _ _ rfl)

theorem State.TravelKept.actOnExcursion (g : GateId) {o c : Nat} (k : c ≤ (s.record g).fullTravel) :
    (s.actOnExcursion g o c).TravelKept := by
  unfold State.actOnExcursion
  split
  · exact h.joinTail g k
  · split
    · exact h
    · exact (h.post _).setExcursion g true

theorem State.TravelKept.excursionCheck (g : GateId) : (s.excursionCheck g).TravelKept := by
  unfold State.excursionCheck
  split
  · split
    · exact h.setExcursion g false
    · rename_i o c e
      refine h.actOnExcursion g (h.ceilings g c ?_)
      unfold Gate.excursion at e
      split at e
      · split at e
        · cases e; assumption
        · cases e
      · cases e
  · exact h

theorem State.TravelKept.faultIfStale (g : GateId) : (s.faultIfStale g).TravelKept := by
  have one (side : Side) (t : State) (k : t.TravelKept) :
      (if (t.gate g).stale side then t.fault g .stale else t).TravelKept := by
    split
    · exact k.fault g _
    · exact k
  exact one .right _ (one .left s h)

theorem State.TravelKept.startLeg (g : GateId) {r : Request} {p : Plan} (stamp : Nat)
    (kr : r.target ≤ (s.record g).fullTravel) (kp : p.target ≤ (s.record g).fullTravel) :
    (s.startLeg g r p stamp).TravelKept :=
  (h.runGate g p.target p.speed).setMotion g (by
    rw [(s.reach_runGate g _ _).record]; exact (Motion.within_starting ..).mpr ⟨kr, kp⟩)

theorem State.TravelKept.goOn (g : GateId) {r : Request} (l : Leg) (w : Option Nat) {p : Plan}
    (kr : r.target ≤ (s.record g).fullTravel) (kp : p.target ≤ (s.record g).fullTravel) :
    (s.goOn g r l w p).TravelKept := by
  have run := (h.resumePaused g l).runGate g p.target p.speed
  have record : (((s.resumePaused g l).runGate g p.target p.speed).record g).fullTravel = (s.record g).fullTravel := by
    rw [((s.reach_resumePaused g l).trans (State.reach_runGate _ g _ _)).record]
  unfold State.goOn
  simp only
  split <;> exact run.setMotion g (by rw [record]; simpa [Leg.retargeted] using ⟨kr, kp⟩)

theorem State.TravelKept.retargetMoving (g : GateId) {r : Request} {l : Leg} (w : Option Nat)
    (kr : r.target ≤ (s.record g).fullTravel) (kl : l.target ≤ (s.record g).fullTravel) :
    (s.retargetMoving g r l w).TravelKept := by
  obtain ⟨kept, request, plan⟩ := h.weigh kr
  have leg : l.target ≤ ((s.weigh g r).2.2.record g).fullTravel := by rw [(s.reach_weigh g r).record]; exact kl
  have stays : ((s.weigh g r).2.2.setMotion g (movingWith (s.weigh g r).2.1 l w)).TravelKept :=
    kept.setMotion g (by cases w <;> simpa [movingWith] using ⟨request, leg⟩)
  unfold State.retargetMoving
  simp only
  split
  · exact kept.enterStopping g (by simpa using ⟨request, leg⟩)
  · exact kept.enterStopping g (by simpa using ⟨request, leg⟩)
  · exact stays
  · rename_i p e
    split
    · split
      · exact stays
      · exact kept.goOn g l w request (plan p e)
    · exact kept.enterStopping g (by simpa using ⟨request, leg⟩)

theorem State.TravelKept.retarget (g : GateId) : (s.retarget g).TravelKept := by
  have hg := h.targets g
  unfold State.retarget
  split <;> try rename_i e; rw [e] at hg
  · obtain ⟨kr, kl⟩ := (Motion.within_starting ..).mp hg
    exact h.retargetMoving g _ kr kl
  · obtain ⟨kr, kl⟩ := (Motion.within_travelling ..).mp hg
    exact h.retargetMoving g _ kr kl
  · exact h

theorem State.TravelKept.ceilingCheck (g : GateId) : (s.ceilingCheck g).TravelKept := by
  unfold State.ceilingCheck
  split
  · exact h.excursionCheck g
  · exact h.retarget g
  · exact h.retarget g
  · exact h

theorem State.TravelKept.toIdle (g : GateId) : (s.setMotion g .idle).TravelKept := h.setMotion g (Motion.within_idle _)

theorem State.TravelKept.enterIdle (g : GateId) : (s.enterIdle g).TravelKept := (h.toIdle g).excursionCheck g

theorem State.TravelKept.arrive (g : GateId) : (s.arrive g).TravelKept := ((h.toIdle g).postArrived g).excursionCheck g

theorem State.TravelKept.legComplete (g : GateId) {r : Request} (kr : r.target ≤ (s.record g).fullTravel) :
    (s.legComplete g r).TravelKept := by
  obtain ⟨kept, request, -⟩ := h.releaseSlot.weigh (g := g) (r := r) kr
  unfold State.legComplete
  simp only
  split
  · exact kept.arrive g
  · exact kept.joinTail g request

theorem State.TravelKept.stoppingEnd (g : GateId) {n : NextStep} {l : Leg} {w : Nat}
    (k : (Motion.stopping n l w).within (s.record g).fullTravel) : (s.stoppingEnd g n l).TravelKept := by
  unfold State.stoppingEnd
  split
  · exact h.releaseSlot.enterIdle g
  · rename_i r
    obtain ⟨kept, request, plan⟩ := h.weigh ((Motion.within_stopping_restartLeg ..).mp k).1
    simp only
    split
    · rename_i p e
      exact (kept.startLeg g _ request (plan p e)).owe
    · exact kept.releaseSlot.arrive g
    · exact kept.releaseSlot.joinHead g request
  · rename_i r
    exact h.releaseSlot.joinHead g ((Motion.within_stopping_requeue ..).mp k).1
  · exact h.releaseSlot.enterOutOfService g ((Motion.within_stopping_outOfService ..).mp k).1

theorem State.TravelKept.takeIntoIdle (g : GateId) {target : Nat} (level : Nat) (o : Origin)
    (k : target ≤ (s.record g).fullTravel) : (s.takeIntoIdle g target level o).TravelKept := by
  unfold State.takeIntoIdle
  split
  · split
    · exact h.post _
    · exact h.joinTail g k
  · exact h.joinTail g k

theorem State.TravelKept.applyTarget (g : GateId) {target : Nat} (level : Nat) (o : Origin)
    (k : target ≤ (s.record g).fullTravel) : (s.applyTarget g target level o).TravelKept := by
  have hg := h.targets g
  unfold State.applyTarget
  simp only
  split <;> rename_i e <;> rw [e] at hg
  · exact h.setMotion g (by simpa using k)
  · exact h.takeIntoIdle g level o k
  · exact (h.setMotion g (by simpa [Request.replaced] using k)).owe
  · exact h.retargetMoving g _ k ((Motion.within_starting ..).mp hg).2
  · exact h.retargetMoving g _ k ((Motion.within_travelling ..).mp hg).2
  · exact h.setMotion g (by simp_all [Request.fresh])
  · exact h.setMotion g (by simp_all [Request.replaced])
  · exact h.setMotion g (by simp_all [Request.replaced])
  · exact h.setMotion g (by simp_all)
  · exact h.setMotion g (by simpa using k)

theorem State.TravelKept.stopGate (g : GateId) : (s.stopGate g).TravelKept := by
  have hg := h.targets g
  unfold State.stopGate
  split <;> rename_i e <;> rw [e] at hg
  · exact h.setMotion g (by simp)
  · exact h
  · exact (h.leaveList g (Motion.within_idle _)).excursionCheck g
  · exact h.enterStopping g (by simp_all)
  · exact h.enterStopping g (by simp_all)
  · exact h.setMotion g (by simp_all)
  · exact h.setMotion g (by simpa using (Motion.kept_within hg).2)
  · exact h.setMotion g (by simp)

theorem State.TravelKept.quellGate (g : GateId) : (s.quellGate g).TravelKept := by
  have hg := h.targets g
  unfold State.quellGate
  split <;> try rename_i e; rw [e] at hg
  · exact h.leaveList g (Motion.within_idle _)
  · exact h.enterStopping g (by simp_all)
  · exact h.enterStopping g (by simp_all)
  · exact h.setMotion g (by simp_all)
  · exact h.setMotion g (by simp_all)
  · exact h

theorem State.TravelKept.useDeferred (g : GateId) {d : Option Target}
    (k : ∀ t, d = some t → t.target ≤ (s.record g).fullTravel) : (s.useDeferred g d).TravelKept := by
  unfold State.useDeferred
  split
  · exact h
  · split
    · exact h
    · exact h.takeIntoIdle g _ _ (k _ rfl)

theorem State.TravelKept.leaveHold (g : GateId) {d : Option Target} (by_ : ClearedBy)
    (k : ∀ t, d = some t → t.target ≤ (s.record g).fullTravel) : (s.leaveHold g d by_).TravelKept := by
  have posted := h.post (.holdCleared g by_)
  unfold State.leaveHold
  simp only
  split
  · exact ((posted.toIdle g).useDeferred g (by simpa using k)).excursionCheck g
  · exact posted.enterOutOfService g (by simpa using k)

theorem State.TravelKept.staleClearing (g : GateId) : (s.staleClearing g).TravelKept := by
  have hg := h.targets g
  unfold State.staleClearing
  split
  · rename_i e
    rw [e, Motion.within_hold] at hg
    split
    · simp only
      split
      · split
        · exact (h.setMotion g (by simpa using hg)).postHeld g _
        · exact h.leaveHold g _ hg
      · exact h.setMotion g (by simpa using hg)
    · exact h
  · exact h

/-! ### The Motion Arbiter -/

theorem State.TravelKept.markOne (g : GateId) : (s.markOne g).TravelKept := by
  have hg := h.targets g
  unfold State.markOne
  split
  · rename_i r e
    rw [e] at hg
    refine h.setMotion g ?_
    unfold Settings.mark
    split_ifs <;> simpa using hg
  · exact h

theorem State.TravelKept.readyCounter : s.readyCounter.TravelKept := by
  unfold State.readyCounter
  split
  · exact h
  · exact (h.sweep allGates _ fun t g k => k.setMotion g (Motion.restamped_within (k.targets g) _)).counts _ _ _ _

theorem State.TravelKept.grant (g : GateId) {r : Request} {p : Plan} (kr : r.target ≤ (s.record g).fullTravel)
    (kp : p.target ≤ (s.record g).fullTravel) : (s.grant g r p).TravelKept := by
  have counted := h.readyCounter.counts (s.readyCounter.slotsInUse + 1) (s.readyCounter.grantCounter + 1)
    (s.readyCounter.waiting.filter fun h => h ≠ g) s.readyCounter.evalDue
  have record := s.reach_readyCounter.record g
  exact (counted.startLeg g (r := r) (p := p) _ (by show _ ≤ (s.readyCounter.record g).fullTravel; rw [record]; exact kr)
    (by show _ ≤ (s.readyCounter.record g).fullTravel; rw [record]; exact kp)).faultIfStale g

theorem State.TravelKept.completePending (g : GateId) : (s.completePending g).TravelKept :=
  ((h.leaveList g (Motion.within_idle _)).postArrived g).excursionCheck g

theorem State.TravelKept.weighInWalk (g : GateId) : (s.weighInWalk g).TravelKept := by
  have hg := h.targets g
  unfold State.weighInWalk
  split
  · rename_i r e
    rw [e, Motion.within_pending] at hg
    obtain ⟨kept, request, plan⟩ := h.weigh hg
    split <;> rename_i w <;> rw [w] at kept request plan
    · exact kept.grant g request (plan _ rfl)
    · exact kept.completePending g
    · exact kept.setMotion g (by simpa using request)
  · exact h

theorem State.TravelKept.walk (gs : List GateId) : (s.walk gs).1.TravelKept := by
  induction gs generalizing s with
  | nil => exact h
  | cons g gs ih =>
    unfold State.walk
    split
    · exact ih (h.weighInWalk g)
    · exact h

theorem State.TravelKept.weighForPreemption (g : GateId) : (s.weighForPreemption g).1.TravelKept := by
  have hg := h.targets g
  unfold State.weighForPreemption
  split
  · rename_i r e
    rw [e, Motion.within_pending] at hg
    obtain ⟨kept, request, -⟩ := h.weigh hg
    split <;> rename_i w <;> rw [w] at kept request
    · exact kept.setMotion g (by simpa using request)
    · exact kept.completePending g
    · exact kept.setMotion g (by simpa using request)
  · exact h

theorem State.TravelKept.movable (gs : List GateId) : (s.movable gs).1.TravelKept := by
  induction gs generalizing s with
  | nil => exact h
  | cons g gs ih => exact ih (h.weighForPreemption g)

theorem State.TravelKept.preempt (v b : GateId) : (s.preempt v b).TravelKept := by
  have hv := h.targets v
  unfold State.preempt
  simp only
  split <;> try rename_i e; rw [e] at hv
  · exact (h.enterStopping v (by simpa using hv)).post _
  · exact (h.enterStopping v (by simpa using hv)).post _
  · exact h.post _

theorem State.TravelKept.preemptFor (bs : List GateId) : (s.preemptFor bs).TravelKept := by
  induction bs generalizing s with
  | nil => exact h
  | cons b bs ih =>
    unfold State.preemptFor
    split
    · exact h
    · exact ih (h.preempt _ b)

theorem State.TravelKept.evaluate : s.evaluate.TravelKept := by
  have marked : { s with evalDue := false }.markMasked.TravelKept :=
    (h.counts s.slotsInUse s.grantCounter s.waiting false).sweep _ _ fun t g k => k.markOne g
  unfold State.evaluate
  simp only
  split
  · exact marked
  · split
    · exact marked.walk _
    · exact ((marked.walk _).movable _).preemptFor _

theorem State.TravelKept.evaluateDue (n : Nat) : (State.evaluateDue n s).TravelKept := by
  induction n generalizing s with
  | zero => exact h.counts s.slotsInUse s.grantCounter s.waiting false
  | succ n ih =>
    unfold State.evaluateDue
    split
    · exact ih h.evaluate
    · exact h

theorem State.TravelKept.settle : s.settle.TravelKept := h.evaluateDue _

theorem State.TravelKept.evaluateNow : s.evaluateNow.TravelKept := h.owe.settle

theorem State.TravelKept.checkExcursionOf (g : GateId) : (s.checkExcursionOf g).TravelKept :=
  (h.excursionCheck g).settle

theorem State.TravelKept.quell : s.quell.TravelKept :=
  (h.sweep _ _ fun _ g k => k.quellGate g).sweep _ _ fun _ g k => k.checkExcursionOf g

theorem State.TravelKept.tellNeighbours (g : GateId) : (s.tellNeighbours g).TravelKept :=
  h.sweep _ _ fun _ g k => k.retarget g

theorem State.TravelKept.openingChanged (g : GateId) : (s.openingChanged g).TravelKept := by
  have told := (h.excursionCheck g).tellNeighbours g
  unfold State.openingChanged
  simp only
  split
  · exact told.owe.settle
  · exact told.settle

end

/-! ### The hoist exchange -/

theorem Motion.evidence_within {m : Motion} {T : Nat} (k : m.within T) (h : Handshake) (side : Side) (st : HoistState) :
    (m.evidence h side st).within T := by
  cases m with
  | starting r l w => cases h <;> cases st <;> simpa [Motion.evidence] using k
  | travelling r l => cases h <;> simpa [Motion.evidence] using k
  | stopping n l w => cases h <;> exact Motion.stopping_within_congr k _ _ rfl
  | _ => exact k

theorem reportState_code (st code : Nat) (small : code ≤ 255) :
    ((reportState st code).2 ≠ none ↔ (reportState st code).1 = .fault) ∧
      ∀ c, (reportState st code).2 = some c → 1 ≤ c ∧ c ≤ 255 := by
  unfold reportState
  split
  · simp
  · simp
  · simp
  · refine ⟨by simp, fun c e => ?_⟩
    cases e
    split <;> omega
  · simp

theorem byteAt_le (p : List Byte) (i : Nat) : byteAt p i ≤ 255 := by
  have := (p[i]?.getD 0#8).isLt
  unfold byteAt
  omega

/-- A sample made of a report is sound (R109, R13, R17). -/
theorem GateRecord.sampleOf_sound (r : GateRecord) (side : Side) (p : List Byte) (x : Report) (stamp : ClockWord)
    (e : parseReport p = some x) : (r.sampleOf side x stamp).Sound r side := by
  unfold parseReport at e
  split at e
  · cases e
    obtain ⟨faults, codes⟩ := reportState_code (byteAt p 2) (byteAt p 3) (byteAt_le p 3)
    exact ⟨min_le_right _ _, rfl, Nat.zero_le _, faults, codes⟩
  · cases e

theorem Gate.withSample_sample (x : Gate) (side other : Side) (v : Option Sample) :
    (x.withSample side v).sample other = if other = side then v else x.sample other := by
  cases side <;> cases other <;> rfl

theorem State.setGate_record_of (s : State) (g j : GateId) (x : Gate) (e : x.record = s.record g) :
    (s.setGate g x).record j = s.record j := by
  by_cases k : j = g
  · subst k; simp [State.record, e]
  · simp [State.record, State.setGate_gate_ne _ _ k]

section
variable {s : State} (h : s.TravelKept)
include h

theorem State.TravelKept.takeEvidence (g : GateId) (side : Side) (st : HoistState) :
    (s.takeEvidence g side st).TravelKept := h.setMotion g (Motion.evidence_within (h.targets g) _ side st)

theorem State.TravelKept.faultCheck (g : GateId) (st : HoistState) : (s.faultCheck g st).TravelKept := by
  unfold State.faultCheck
  split
  · exact (h.fault g _).settle
  · exact h

theorem State.TravelKept.tripCheck (g : GateId) : (s.tripCheck g).TravelKept := by
  unfold State.tripCheck
  split
  · exact (h.fault g _).settle
  · exact h

theorem State.TravelKept.enterTravelling (g : GateId) {r : Request} {l : Leg}
    (k : r.target ≤ (s.record g).fullTravel ∧ l.target ≤ (s.record g).fullTravel) :
    (s.enterTravelling g r l).TravelKept := h.setMotion g ((Motion.within_travelling ..).mpr k)

theorem State.TravelKept.startCheck (g : GateId) : (s.startCheck g).TravelKept := by
  have hg := h.targets g
  unfold State.startCheck
  split
  · rename_i e
    rw [e, Motion.within_starting] at hg
    split
    · exact h.enterTravelling g hg
    · exact h
  · exact h

theorem State.TravelKept.restCheck (g : GateId) : (s.restCheck g).TravelKept := by
  have hg := h.targets g
  unfold State.restCheck
  split <;> try rename_i e; rw [e] at hg
  · split
    · refine State.TravelKept.settle ?_
      split
      · exact h.legComplete g ((Motion.within_travelling ..).mp hg).1
      · exact h.fault g _
    · exact h
  · split
    · exact (h.stoppingEnd g hg).settle
    · exact h
  · exact h

theorem State.TravelKept.trimCheck (g : GateId) : (s.trimCheck g).TravelKept := by
  have hg := h.targets g
  unfold State.trimCheck
  split
  · rename_i r l e
    rw [e, Motion.within_travelling] at hg
    have paused (side : Side) (x : Option Side) :
        ((s.pauseHoist g side).setMotion g (.travelling r { l with paused := x })).TravelKept :=
      (h.pauseHoist g side).setMotion g (by rw [(s.reach_pauseHoist g side).record]; simpa using hg)
    have resumed (side : Side) (x : Option Side) :
        ((s.resumeHoist g side).setMotion g (.travelling r { l with paused := x })).TravelKept :=
      (h.resumeHoist g side).setMotion g (by rw [(s.reach_resumeHoist g side).record]; simpa using hg)
    simp only
    split
    · split
      · split
        · exact paused _ _
        · exact h
      · exact h
    · split
      · exact resumed _ _
      · exact h
  · exact h

theorem State.TravelKept.sampleChecks (g : GateId) (side : Side) (st : HoistState) :
    (s.sampleChecks g side st).TravelKept :=
  (((((((h.takeEvidence g side st).faultCheck g st).tripCheck g).staleClearing g).settle).startCheck g).restCheck g).trimCheck g

theorem State.TravelKept.storeSample (g : GateId) (side : Side) {x : Report} (stamp : ClockWord)
    (sound : ((s.record g).sampleOf side x stamp).Sound (s.record g) side) : (s.storeSample g side x stamp).TravelKept := by
  have record (j : GateId) : (s.storeSample g side x stamp).record j = s.record j :=
    s.setGate_record_of g j _ (by cases side <;> rfl)
  have gate (j : GateId) : (s.storeSample g side x stamp).gate j = if j = g then
      (s.gate g).withSample side (some ((s.record g).sampleOf side x stamp)) else s.gate j := s.setGate_gate g j _
  refine ⟨fun j other y hy => ?_, fun j => ?_, fun j c hc => ?_, h.gaugeAges⟩ <;> rw [record]
  · rw [gate] at hy
    split at hy
    · rename_i e
      subst e
      rw [Gate.withSample_sample] at hy
      split at hy
      · rename_i e; subst e; cases hy; exact sound
      · exact h.samples j other y hy
    · exact h.samples j other y hy
  · rw [gate]
    split
    · rename_i e; subst e; cases side <;> exact h.targets j
    · exact h.targets j
  · rw [gate] at hc
    split at hc
    · rename_i e; subst e; cases side <;> exact h.ceilings j c hc
    · exact h.ceilings j c hc

theorem State.TravelKept.takePosition (g : GateId) (side : Side) (p : List Byte) (stamp : ClockWord) :
    (s.takePosition g side p stamp).TravelKept := by
  unfold State.takePosition
  split
  · exact h
  · rename_i x e
    have stored := h.storeSample g side stamp ((s.record g).sampleOf_sound side p x stamp e)
    have checked := stored.sampleChecks g side x.state
    simp only
    split
    · exact stored
    · split
      · exact checked
      · exact checked.openingChanged g

theorem State.TravelKept.takeAck (g : GateId) (side : Side) (p : List Byte) : (s.takeAck g side p).TravelKept := by
  have hg := h.targets g
  unfold State.takeAck
  split
  · unfold State.ackOfRun
    split
    · rename_i e
      rw [e, Motion.within_starting] at hg
      split
      · simp only
        split
        · exact h.enterTravelling g hg
        · exact h.setMotion g (by simpa using hg)
      · exact h
    · exact h
  · exact h

/-- The expiries that hold a gate (R114, R116, R122, R123). -/
theorem State.TravelKept.faultSettled (g : GateId) (r : HoldReason) : (s.fault g r).settle.TravelKept :=
  (h.fault g r).settle

theorem State.TravelKept.hoistGoesStale (g : GateId) (side : Side) : (s.hoistGoesStale g side).TravelKept := by
  unfold State.hoistGoesStale
  split
  · exact h.faultSettled g _
  · exact h

theorem State.TravelKept.ackWindowEnds (g : GateId) : (s.ackWindowEnds g).TravelKept := by
  unfold State.ackWindowEnds
  split
  · exact h.faultSettled g _
  · exact h

theorem State.TravelKept.deadlineEnds (g : GateId) : (s.deadlineEnds g).TravelKept := by
  unfold State.deadlineEnds
  split
  · split
    · exact h.faultSettled g _
    · exact h
  · exact h

theorem State.TravelKept.haltWindowEnds (g : GateId) : (s.haltWindowEnds g).TravelKept := by
  unfold State.haltWindowEnds
  split
  · exact h.faultSettled g _
  · exact h

end

end Sys2Proof.Machine

namespace Sys2Proof.Machine

/-! ### Ceilings and levels -/

/-- Targets, samples, ceilings and gauge ages are all in the gates and gauges. -/
theorem State.TravelKept.congr {s t : State} (h : s.TravelKept) (gates : t.gates = s.gates) (gauges : t.gauges = s.gauges) :
    t.TravelKept := by
  have gate (g : GateId) : t.gate g = s.gate g := by rw [State.gate, State.gate, gates]
  have gauge (n : GaugeId) : t.gauge n = s.gauge n := by rw [State.gauge, State.gauge, gauges]
  refine ⟨fun g => ?_, fun g => ?_, fun g => ?_, fun n => ?_⟩
  · rw [State.record, gate]; exact h.samples g
  · rw [State.record, gate]; exact h.targets g
  · rw [State.record, gate]; exact h.ceilings g
  · rw [gauge]; exact h.gaugeAges n

/-- The ceiling that R38 gives is within full travel. -/
theorem State.computeCeiling_le (s : State) (x : Gate) {c : Nat} (e : s.computeCeiling x = some c) :
    c ≤ x.record.fullTravel := by
  unfold State.computeCeiling at e
  split at e
  · split at e
    · cases e
    · cases e; exact Nat.zero_le _
    · obtain ⟨v, -, rfl⟩ := Option.map_eq_some_iff.mp e
      exact min_le_right _ _
    · cases e
  · cases e

section
variable {s : State} (h : s.TravelKept)
include h

theorem State.TravelKept.setCeiling (g : GateId) {c : Option Nat}
    (k : ∀ v, c = some v → v ≤ (s.record g).fullTravel) : (s.setCeiling g c).TravelKept := by
  refine ⟨fun j side x hx => ?_, fun j => ?_, fun j v hv => ?_, h.gaugeAges⟩ <;> rw [State.setCeiling_record]
  · refine h.samples j side x ?_
    rw [State.setCeiling_gate] at hx
    split at hx
    · rename_i e; subst e; cases side <;> exact hx
    · exact hx
  · rw [State.setCeiling_gate]
    split
    · rename_i e; subst e; exact h.targets j
    · exact h.targets j
  · rw [State.setCeiling_gate] at hv
    split at hv
    · rename_i e; subst e; exact k v hv
    · exact h.ceilings j v hv

theorem State.TravelKept.recomputeCeilings : s.recomputeCeilings.1.TravelKept :=
  h.sweep _ _ fun t g k => k.setCeiling g fun _ => t.computeCeiling_le (t.gate g)

theorem State.TravelKept.ceilingPath : s.ceilingPath.TravelKept := by
  have checked := h.recomputeCeilings.sweep s.recomputeCeilings.2 State.ceilingCheck fun _ g k => k.ceilingCheck g
  unfold State.ceilingPath
  simp only
  split
  · exact checked
  · exact checked.evaluateNow

theorem State.TravelKept.postAll (ns : List Notice) : (s.postAll ns).TravelKept := by
  unfold State.postAll
  induction ns generalizing s with
  | nil => exact h
  | cons n ns ih => exact ih (h.post n)

theorem State.TravelKept.newHead (head : Option Head) : (s.newHead head).TravelKept := by
  have stored (t : State) (k : t.TravelKept) (m : Mode) : { t with head := head, mode := m }.TravelKept := k.congr rfl rfl
  have checked (c : Prop) [Decidable c] (t : State) (k : t.TravelKept) : (if c then t else t.ceilingPath).TravelKept := by
    split
    · exact k
    · exact k.ceilingPath
  unfold State.newHead
  simp only
  split
  · exact checked _ _ (stored _ (h.postAll _) _)
  · exact (checked _ _ (stored _ (h.postAll _) _)).evaluateNow

theorem State.TravelKept.recomputeBank (b : Bank) : (s.recomputeBank b).TravelKept := by
  have banked (x : BankState) : (s.setBank b x).TravelKept := h.congr (by simp) (by simp)
  unfold State.recomputeBank
  simp only
  split
  · exact banked _
  · split
    · exact banked _
    · exact (banked _).post _

theorem State.TravelKept.relevel (banks : List Bank) : (s.relevel banks).TravelKept := by
  have banked : (banks.foldl State.recomputeBank s).TravelKept := by
    induction banks generalizing s with
    | nil => exact h
    | cons b banks ih => exact ih (h.recomputeBank b)
  exact banked.newHead _

theorem State.TravelKept.setGauge (n : GaugeId) {x : Gauge} (k : x.age ≤ 100000 ∧ (x.value = none → x.age = 0)) :
    (s.setGauge n x).TravelKept := by
  refine ⟨h.samples, h.targets, h.ceilings, fun m => ?_⟩
  rw [State.setGauge_gauge]
  split
  · exact k
  · exact h.gaugeAges m

theorem State.TravelKept.takeLevel (n : GaugeId) (p : List Byte) : (s.takeLevel n p).TravelKept := by
  unfold State.takeLevel
  split
  · split
    · exact (h.setGauge n (by simp)).relevel _
    · exact h
  · exact h

theorem State.TravelKept.gaugeGoesStale (n : GaugeId) : (s.gaugeGoesStale n).TravelKept := by
  unfold State.gaugeGoesStale
  split
  · exact h.relevel _
  · exact h

/-! ### The motion requests -/

theorem State.TravelKept.reply (k : Byte) (r : Result) (d : Nat) (l : List Byte) : (s.reply k r d l).TravelKept :=
  h.congr rfl rfl

/-- A command's target is lowered to full_travel before it acts (R57). -/
theorem State.TravelKept.command (g : GateId) (target level : Nat) (o : Origin) :
    (s.command g target level o).TravelKept := by
  have applied : s.appliedTarget g target ≤ (s.record g).fullTravel := min_le_right _ _
  unfold State.command
  simp only
  split
  · exact (h.post _).applyTarget g level o (by simpa using applied)
  · exact h.applyTarget g level o applied

theorem State.TravelKept.takeMove (p : List Byte) : (s.takeMove p).TravelKept := by
  unfold State.takeMove
  split
  · exact h.reply _ _ _ _
  · unfold State.moveGate
    simp only
    split
    · exact h.reply _ _ _ _
    · split
      · exact h.reply _ _ _ _
      · exact (h.command _ _ _ _).settle.reply _ _ _ _

theorem State.TravelKept.takeStop (p : List Byte) : (s.takeStop p).TravelKept := by
  unfold State.takeStop
  split
  · exact h.reply _ _ _ _
  · exact (h.stopGate _).settle.reply _ _ _ _

theorem State.TravelKept.groupSet (target level : Nat) (gs : List GateId) : (s.groupSet target level gs).1.TravelKept := by
  induction gs generalizing s with
  | nil => exact h
  | cons g gs ih =>
    unfold State.groupSet
    split
    · exact ih h
    · exact ih (h.command _ _ _ _)

theorem State.TravelKept.takeGroupSet (p : List Byte) : (s.takeGroupSet p).TravelKept := by
  unfold State.takeGroupSet
  simp only
  split
  · exact h.reply _ _ _ _
  · exact (h.groupSet _ _ _).settle.reply _ _ _ _

theorem State.TravelKept.takeGroupStop (p : List Byte) : (s.takeGroupStop p).TravelKept :=
  (h.sweep _ _ fun _ g k => (k.stopGate g).settle).reply _ _ _ _

theorem State.TravelKept.takeClearHold (p : List Byte) : (s.takeClearHold p).TravelKept := by
  unfold State.takeClearHold
  split
  · exact h.reply _ _ _ _
  · rename_i g _
    have hg := h.targets g
    unfold State.clearHold
    split
    · rename_i e
      rw [e, Motion.within_hold] at hg
      split
      · exact h.reply _ _ _ _
      · exact (h.leaveHold g _ hg).settle.reply _ _ _ _
    · exact h.reply _ _ _ _

theorem State.TravelKept.assertStop : s.assertStop.TravelKept := by
  have pin : { s with stopPinLow := true, stopFilter := 0 }.TravelKept := h.congr rfl rfl
  have input : { s with stopPinLow := true, stopFilter := 0, stopAsserted := true }.TravelKept := h.congr rfl rfl
  unfold State.assertStop
  simp only
  split
  · exact pin
  · exact (input.post _).quell

theorem State.TravelKept.releaseStop : s.releaseStop.TravelKept := by
  have pin : { s with stopPinLow := false, stopFilter := 0 }.TravelKept := h.congr rfl rfl
  have input : { s with stopPinLow := false, stopFilter := 0, stopAsserted := false }.TravelKept := h.congr rfl rfl
  unfold State.releaseStop
  simp only
  split
  · exact (input.post _).evaluateNow
  · exact pin

theorem State.TravelKept.silenceEnds : s.silenceEnds.TravelKept := by
  have waiting : { s with silence := .waiting }.TravelKept := h.congr rfl rfl
  unfold State.silenceEnds
  split
  · exact (waiting.post _).quell
  · exact h

/-! ### The Frame Sorter, the receivers and the transmitters -/

theorem State.TravelKept.count (port : Port) (n : CounterName) : (s.count port n).TravelKept :=
  h.congr (by simp) (by simp)

theorem State.TravelKept.joinDown (f : Frame) : (s.joinDown f).TravelKept := by
  have joined : { s with downQueue := s.downQueue ++ [f] }.TravelKept := h.congr rfl rfl
  unfold State.joinDown
  split
  · exact joined.count _ _
  · exact h.count _ _

theorem State.TravelKept.joinUp (f : Frame) : (s.joinUp f).TravelKept := by
  have joined : { s with upQueue := s.upQueue ++ [f] }.TravelKept := h.congr rfl rfl
  unfold State.joinUp
  split
  · exact joined.count _ _
  · exact h.count _ _

theorem State.TravelKept.misroute (port : Port) (f : RxFrame) : (s.misroute port f).TravelKept := by
  have counted := h.count port .misroutes
  unfold State.misroute
  simp only
  split
  · exact counted
  · exact State.TravelKept.post (counted.congr (by rfl) (by rfl)) _

theorem State.TravelKept.sortStation (f : RxFrame) : (s.sortStation f).TravelKept := by
  have refused (r : Result) (g : GateId) (side : Side) : (s.refuseDirect f.frame r g side).TravelKept :=
    (h.count _ _).reply _ _ _ _
  have direct (g : GateId) (side : Side) : (s.sortDirect f.frame g side).TravelKept := by
    unfold State.sortDirect
    split
    · exact h.joinDown _
    · split
      · split
        · exact refused _ _ _
        · exact h.joinDown _
      · exact refused _ _ _
  have unfit : (s.sortUnfit f.frame).TravelKept := by
    unfold State.sortUnfit
    split <;> exact h.reply _ _ _ _
  unfold State.sortStation
  simp only
  split
  · exact h.misroute _ _
  · split
    · exact unfit
    · exact direct _ _
    · exact h.joinDown _
    · split
      · exact h.joinDown _
      · exact h.count _ _
    · exact h.misroute _ _

theorem State.TravelKept.passReport (e : RouteEntry) (f : Frame) : (s.passReport e f).TravelKept := by
  unfold State.passReport
  split
  · split
    · exact h.joinUp f
    · exact h
  · exact h

theorem State.TravelKept.sortField (f : RxFrame) : (s.sortField f).TravelKept := by
  have unowned (e : RouteEntry) : (s.passUnowned e f.frame).TravelKept := by
    unfold State.passUnowned
    split
    · exact h.joinUp _
    · exact h.count _ _
  have owned (e : RouteEntry) : (if f.frame.dest = 0 then s.passUnowned e f.frame
      else if f.frame.dest = s.ownAddress then s.count .fp .routeDrops else s.misroute .fp f).TravelKept := by
    split
    · exact unowned e
    · split
      · exact h.count _ _
      · exact h.misroute _ _
  unfold State.sortField
  simp only
  split
  · exact owned _
  · exact owned _
  · split
    · exact unowned _
    · exact h.misroute _ _
  · exact h.misroute _ _

theorem State.TravelKept.takeUnowned : s.takeUnowned.TravelKept := by
  unfold State.takeUnowned
  split
  · exact h
  · split
    · exact State.TravelKept.sortField (h.congr (by rfl) (by rfl)) _
    · exact h

theorem State.TravelKept.hear (port : Port) (x : Heard) : (s.hear port x).TravelKept := by
  unfold State.hear
  split
  · have heard : ((s.count port .good).hearStation port).TravelKept := (h.count port .good).congr (by simp) (by simp)
    unfold State.offer
    split
    · exact heard.congr (by simp) (by simp)
    · exact heard.count _ _
  · exact h.count _ _

theorem State.TravelKept.rescan (port : Port) (cs : List RxChar) : (s.rescan port cs).TravelKept := by
  have all (t : State) (k : t.TravelKept) (xs : List Heard) : (xs.foldl (fun s x => s.hear port x) t).TravelKept := by
    induction xs generalizing t with
    | nil => exact k
    | cons x xs ih => exact ih _ (k.hear port x)
  exact all _ (h.congr (by simp) (by simp)) _

theorem State.TravelKept.abandon (port : Port) : (s.abandon port).TravelKept := by
  unfold State.abandon
  split
  · exact h
  · exact (h.hear port .bad).rescan port _

theorem State.TravelKept.takeStation (row : StationRow) (handle : State → RxFrame → State)
    (keeps : ∀ (t : State) f, t.TravelKept → (handle t f).TravelKept) : (s.takeStation row handle).TravelKept := by
  obtain e | ⟨f, rest, e⟩ := s.takeStation_cases row handle <;> rw [e]
  · exact h
  · exact keeps _ f (h.congr (by rfl) (by rfl))

theorem State.TravelKept.takeReport (owner : FieldRow → Option (State → RxFrame → State))
    (keeps : ∀ row act, owner row = some act → ∀ (t : State) f, t.TravelKept → (act t f).TravelKept) :
    (s.takeReport owner).TravelKept := by
  unfold State.takeReport
  split
  · exact h
  · split
    · rename_i act e
      exact (keeps _ _ e _ _ (h.congr (by rfl) (by rfl))).passReport _ _
    · exact h

theorem State.TravelKept.position : (s.takeReport positionOwner).TravelKept := by
  refine h.takeReport _ fun row act e t f k => ?_
  cases row <;> simp only [positionOwner, reduceCtorEq, Option.some.injEq] at e
  subst e
  exact k.takePosition _ _ _ _

theorem State.TravelKept.ack : (s.takeReport ackOwner).TravelKept := by
  refine h.takeReport _ fun row act e t f k => ?_
  cases row <;> simp only [ackOwner, reduceCtorEq, Option.some.injEq] at e
  subst e
  exact k.takeAck _ _ _

theorem State.TravelKept.level : (s.takeReport levelOwner).TravelKept := by
  refine h.takeReport _ fun row act e t f k => ?_
  cases row <;> simp only [levelOwner, reduceCtorEq, Option.some.injEq] at e
  subst e
  exact k.takeLevel _ _

theorem State.TravelKept.transmitStation : s.transmitStation.TravelKept := by
  unfold State.transmitStation
  split <;> exact h.congr rfl rfl

theorem State.TravelKept.transmitField : s.transmitField.TravelKept := by
  unfold State.transmitField
  split <;> exact h.congr rfl rfl

/-! ### Warm restart -/

theorem State.TravelKept.restartGate (g : GateId) : (s.restartGate g).TravelKept := by
  have cleared := h.setExcursion g false
  unfold State.restartGate
  simp only
  split
  · split
    · exact cleared.toIdle g
    · exact cleared.makeHold g _ (by simp)
  · exact cleared.setMotion g (by simp)

theorem State.TravelKept.warmRestart : s.warmRestart.TravelKept := by
  have level (t : State) (k : t.TravelKept) : t.restartLevel.TravelKept := State.TravelKept.newHead (k.congr (by rfl) (by rfl)) _
  have emptied : s.emptied.TravelKept := h.congr rfl rfl
  have gates := (emptied.sweep (allGates.filter fun g => (s.gate g).motion.holdsSlot) _ fun _ g k => k.haltGate g).sweep
    allGates _ fun _ g k => k.restartGate g
  exact (level _ gates).recomputeCeilings.sweep allGates _ fun _ g k => k.checkExcursionOf g

/-! ### The writes -/

theorem State.TravelKept.writeReply (p : List Byte) (r : Result) (d : Nat) (gen : CountWord) :
    (s.writeReply p r d gen).TravelKept := h.congr rfl rfl

theorem State.TravelKept.writeNoRecord (p : List Byte) : (s.writeNoRecord p).TravelKept := h.congr rfl rfl

theorem State.TravelKept.writeCurve (c : Fin 4) (points : List Breakpoint) : (s.writeCurve c points).TravelKept :=
  State.TravelKept.ceilingPath (h.congr (by rfl) (by rfl))

theorem State.TravelKept.takeWriteFirstPart (p : List Byte) : (s.takeWriteFirstPart p).TravelKept := by
  unfold State.takeWriteFirstPart
  split
  · exact h.writeNoRecord p
  · split
    · exact h.writeReply _ _ _ _
    · split
      · exact (h.writeCurve _ _).writeReply _ _ _ _
      · exact State.TravelKept.writeReply (h.congr (by rfl) (by rfl)) _ _ _ _

theorem State.TravelKept.takeWriteSecondPart (p : List Byte) : (s.takeWriteSecondPart p).TravelKept := by
  have emptied : { s with staging := none }.TravelKept := h.congr rfl rfl
  unfold State.takeWriteSecondPart
  split
  · exact h.writeNoRecord p
  · split
    · exact h.writeReply _ _ _ _
    · split
      · exact emptied.writeReply _ _ _ _
      · exact (emptied.writeCurve _ _).writeReply _ _ _ _

theorem State.TravelKept.rebind (old new : Option LinkAddr) (role : Role) (b : Binding) :
    (s.rebind old new role b).TravelKept := by
  unfold State.rebind
  split
  · exact h
  · cases old <;> cases new <;> exact h.congr rfl rfl

/-- A gauge whose good value is discarded has age 0 again (R33; log 18). -/
theorem State.TravelKept.writeGauge (n : GaugeId) (new : GaugeRecord) : (s.writeGauge n new).TravelKept := by
  refine State.TravelKept.relevel ((h.rebind _ _ _ _).setGauge n ?_) _
  simp only
  split
  · exact h.gaugeAges n
  · simp

theorem State.TravelKept.takeWriteGauge (p : List Byte) : (s.takeWriteGauge p).TravelKept := by
  unfold State.takeWriteGauge
  split
  · exact h.writeNoRecord p
  · split
    · exact h.writeReply _ _ _ _
    · exact (h.writeGauge _ _).writeReply _ _ _ _

theorem State.TravelKept.takeWriteRoute (p : List Byte) : (s.takeWriteRoute p).TravelKept := by
  unfold State.takeWriteRoute
  split
  · exact h.writeNoRecord p
  · split
    · exact h.writeReply _ _ _ _
    · exact State.TravelKept.writeReply (h.congr (by rfl) (by rfl)) _ _ _ _

theorem State.TravelKept.writeSettings (new : Settings) : (s.writeSettings new).TravelKept := by
  have levelled (t : State) (k : t.TravelKept) : (t.relevelFor s.settings new).TravelKept := by
    unfold State.relevelFor
    split
    · exact k.relevel _
    · split
      · exact k.newHead _
      · exact k
  have stored (silence : Silence) :
      { s with settings := new, settingsGen := s.settingsGen + 1, silence := silence }.TravelKept := h.congr rfl rfl
  unfold State.writeSettings
  simp only
  split
  · exact levelled _ (stored _)
  · exact (levelled _ (stored _)).evaluateNow

theorem State.TravelKept.takeWriteSettings (p : List Byte) : (s.takeWriteSettings p).TravelKept := by
  unfold State.takeWriteSettings
  split
  · split
    · exact h.writeReply _ _ _ _
    · exact (h.writeSettings _).writeReply _ _ _ _
  · exact h.writeNoRecord p

theorem State.TravelKept.takeRead (p : List Byte) : (s.takeRead p).TravelKept := by
  unfold State.takeRead
  split <;> exact h.reply _ _ _ _

theorem State.TravelKept.takeStatus (p : List Byte) : (s.takeStatus p).TravelKept := by
  unfold State.takeStatus
  split
  · split <;> exact h.reply _ _ _ _
  · exact h.reply _ _ _ _

theorem State.TravelKept.takeSnapshot (p : List Byte) : (s.takeSnapshot p).TravelKept := by
  unfold State.takeSnapshot
  refine State.TravelKept.reply ?_ _ _ _ _
  split
  · exact h
  · exact h.congr rfl rfl

end

/-! ### One millisecond -/

theorem older_le {a : Nat} (k : a ≤ 100000) : older a ≤ 100000 := by
  have stop : Config.ageStop = 100000 := rfl
  unfold older
  split <;> omega

theorem Sample.later_sound {r : GateRecord} {side : Side} {x : Sample} (h : x.Sound r side) : x.later.Sound r side := by
  obtain ⟨raw, corrected, age, fault⟩ := h
  exact ⟨raw, corrected, older_le age, fault⟩

theorem Motion.later_within {m : Motion} {T : Nat} (k : m.within T) : m.later.within T := by
  cases m with
  | starting | travelling => simpa [Motion.later] using k
  | stopping => exact Motion.stopping_within_congr k _ _ rfl
  | _ => exact k

theorem Gate.later_sample (x : Gate) (side : Side) : x.later.sample side = (x.sample side).map Sample.later := by
  cases side <;> rfl

theorem State.TravelKept.elapse {s : State} (h : s.TravelKept) : s.elapse.TravelKept := by
  have record (g : GateId) : s.elapse.record g = s.record g := by simp [State.record, Gate.later]
  refine ⟨fun g side x hx => ?_, fun g => ?_, fun g c hc => ?_, fun n => ?_⟩
  · rw [State.elapse_gate, Gate.later_sample] at hx
    obtain ⟨y, hy, rfl⟩ := Option.map_eq_some_iff.mp hx
    rw [record]
    exact Sample.later_sound (h.samples g side y hy)
  · rw [record, State.elapse_gate]
    exact Motion.later_within (h.targets g)
  · rw [record]
    rw [State.elapse_gate] at hc
    exact h.ceilings g c hc
  · obtain ⟨bound, zero⟩ := h.gaugeAges n
    rw [State.elapse_gauge]
    unfold Gauge.later
    refine ⟨?_, fun none => ?_⟩
    · simp only
      split
      · exact older_le bound
      · exact bound
    · simp only at none ⊢
      rw [none]
      exact zero none

/-! ### An accepted gate record write -/

/-- The gate that a record write leaves before staleness and service are looked at: record and generation, samples lost
with a changed address or corrected anew, targets lowered (R4, R5). -/
def Gate.rewritten (x : Gate) (new : GateRecord) : Gate :=
  { x with
    record := new
    generation := x.generation + 1
    left := (if x.record.leftHoist = new.leftHoist then x.left else none).map fun v =>
      if x.record.travelChanged new then v.recorrected new .left else v
    right := (if x.record.rightHoist = new.rightHoist then x.right else none).map fun v =>
      if x.record.travelChanged new then v.recorrected new .right else v
    motion := if new.fullTravel < x.record.fullTravel then x.motion.lowered new.fullTravel else x.motion }

theorem State.rebind_gate (s : State) (old new : Option LinkAddr) (role : Role) (b : Binding) (g : GateId) :
    (s.rebind old new role b).gate g = s.gate g := by
  unfold State.rebind
  split
  · rfl
  · cases old <;> cases new <;> rfl

theorem State.rebindHoist_gate (s : State) (g j : GateId) (side : Side) (old new : Option LinkAddr) :
    (s.rebindHoist g side old new).gate j =
      if j = g then (if old = new then s.gate g else (s.gate g).withSample side none) else s.gate j := by
  unfold State.rebindHoist
  split
  · rename_i e
    split
    · rename_i k; rw [k]
    · rfl
  · simp only [State.setGate_gate, State.rebind_gate]

theorem State.recorded_gate (s : State) (g j : GateId) (new : GateRecord) :
    (s.recorded g new).gate j = if j = g then { s.gate g with
      record := new
      generation := (s.gate g).generation + 1
      left := if (s.record g).leftHoist = new.leftHoist then (s.gate g).left else none
      right := if (s.record g).rightHoist = new.rightHoist then (s.gate g).right else none } else s.gate j := by
  have first (k : GateId) : (s.withRecord g new).gate k = if k = g then
      { s.gate g with record := new, generation := (s.gate g).generation + 1 } else s.gate k := s.setGate_gate g k _
  simp only [State.recorded, State.rebindHoist_gate, first, if_true]
  by_cases e : j = g
  · subst e
    split_ifs <;> rfl
  · simp [e]

theorem State.retravel_gate (s : State) (g j : GateId) (old new : GateRecord) :
    (s.retravel g old new).gate j = if j = g then
      { (if old.travelChanged new then (s.gate g).recorrected else s.gate g) with
        motion := if new.fullTravel < old.fullTravel then (s.gate g).motion.lowered new.fullTravel
          else (s.gate g).motion } else s.gate j := by
  have corrected (k : GateId) : (if old.travelChanged new then s.setGate g (s.gate g).recorrected else s).gate k =
      if k = g then (if old.travelChanged new then (s.gate g).recorrected else s.gate g) else s.gate k := by
    by_cases changed : old.travelChanged new = true
    · rw [if_pos changed, if_pos changed]
      exact s.setGate_gate g k _
    · rw [if_neg changed, if_neg changed]
      split
      · rename_i e
        rw [e]
      · rfl
  have motions : (if old.travelChanged new then (s.gate g).recorrected else s.gate g).motion = (s.gate g).motion := by
    split <;> rfl
  unfold State.retravel
  simp only
  by_cases lower : new.fullTravel < old.fullTravel
  · rw [if_pos lower, if_pos lower, State.setMotion_gate, corrected, if_pos rfl, motions]
    split
    · rfl
    · rename_i e
      rw [corrected, if_neg e]
  · rw [if_neg lower, if_neg lower, corrected, ← motions]

theorem State.remeasured_gate (s : State) (g j : GateId) (new : GateRecord) :
    (s.remeasured g new).gate j = if j = g then (s.gate g).rewritten new else s.gate j := by
  rw [State.remeasured, State.retravel_gate]
  by_cases e : j = g
  · rw [if_pos e, if_pos e, State.recorded_gate, if_pos rfl, Gate.rewritten, State.record]
    by_cases changed : (s.gate g).record.travelChanged new = true
    · simp only [changed, if_true, Gate.recorrected]
    · simp only [Bool.eq_false_iff.mpr changed, Bool.false_eq_true, if_false, Option.map_id']
  · rw [if_neg e, if_neg e, State.recorded_gate, if_neg e]

theorem State.remeasured_record (s : State) (g j : GateId) (new : GateRecord) :
    (s.remeasured g new).record j = if j = g then new else s.record j := by
  rw [State.record, State.remeasured_gate]
  split <;> rfl

/-- A gate that holds a slot is written only with the full_travel that it has (R11). -/
theorem Gate.runningCheck_travel {x : Gate} {new : GateRecord} (free : x.runningCheck new = none)
    (slot : x.motion.holdsSlot = true) : new.fullTravel = x.record.fullTravel := by
  simp only [Gate.runningCheck, slot, if_true, Option.map_eq_none_iff] at free
  unfold GateRecord.fixedDiffers at free
  split_ifs at free
  simp_all

theorem Motion.lowered_within {m : Motion} {T : Nat} (rest : m.holdsSlot = false) : (m.lowered T).within T := by
  cases m with
  | starting | travelling | stopping => cases rest
  | idle => simp [Motion.lowered]
  | pending r => simp [Motion.lowered, Request.lowered]
  | outOfService d => cases d <;> simp [Motion.lowered, Target.lowered]
  | hold h d => cases d <;> simp [Motion.lowered, Target.lowered]

theorem Motion.within_mono {m : Motion} {T U : Nat} (h : m.within T) (le : T ≤ U) : m.within U := by
  obtain ⟨requests, stored, legs⟩ := h
  exact ⟨fun r e => (requests r e).trans le, fun t e => (stored t e).trans le, fun l e => (legs l e).trans le⟩

/-- A record write leaves every target within the new full_travel (R5, R11). -/
theorem Gate.rewritten_within {x : Gate} {new : GateRecord} (free : x.runningCheck new = none)
    (h : x.motion.within x.record.fullTravel) : (x.rewritten new).motion.within new.fullTravel := by
  simp only [Gate.rewritten]
  split
  · rename_i lower
    refine Motion.lowered_within (Bool.eq_false_iff.mpr fun slot => ?_)
    have := Gate.runningCheck_travel free slot
    omega
  · exact Motion.within_mono h (by omega)

/-- A record write leaves the samples that it keeps corrected under the new record (R5, R13). -/
theorem Gate.rewritten_sound {x : Gate} {new : GateRecord}
    (h : ∀ side v, x.sample side = some v → v.Sound x.record side) (side : Side) (v : Sample)
    (e : (x.rewritten new).sample side = some v) : v.Sound new side := by
  have kept (w : Sample) (hw : w.Sound x.record side) :
      (if x.record.travelChanged new then w.recorrected new side else w).Sound new side := by
    obtain ⟨raw, corrected, age, fault⟩ := hw
    split
    · exact ⟨raw, rfl, age, fault⟩
    · rename_i same
      simp only [GateRecord.travelChanged, Bool.or_eq_true, decide_eq_true_eq, not_or, not_not] at same
      obtain ⟨⟨l, r⟩, t⟩ := same
      refine ⟨raw, ?_, age, fault⟩
      rw [corrected]
      cases side <;> simp [GateRecord.corrected, GateRecord.offset, l, r, t]
  cases side with
  | left =>
    obtain ⟨w, hw, rfl⟩ := Option.map_eq_some_iff.mp e
    split at hw
    · exact kept w (h .left w hw)
    · cases hw
  | right =>
    obtain ⟨w, hw, rfl⟩ := Option.map_eq_some_iff.mp e
    split at hw
    · exact kept w (h .right w hw)
    · cases hw

theorem State.TargetsKept.newlyStale {s : State} (h : s.TargetsKept) (g : GateId) (before : Gate) :
    (s.newlyStale g before).TargetsKept := by
  have one (side : Side) (t : State) (k : t.TargetsKept) :
      (if !before.stale side && (t.gate g).stale side then t.fault g .stale else t).TargetsKept := by
    split
    · exact k.fault g _
    · exact k
  exact one .right _ (one .left s h)

theorem State.TargetsKept.serviceIn {s : State} (h : s.TargetsKept) (g : GateId) : (s.serviceIn g).TargetsKept := by
  have hg := h g
  unfold State.serviceIn
  split <;> try rename_i e; rw [e] at hg
  · exact h.makeHold g _ (by simpa using hg)
  · rename_i c l w _
    obtain ⟨carried, leg⟩ := (Motion.within_stopping_outOfService ..).mp hg
    split
    · rename_i t k
      split at k
      · cases k
      · exact h.setMotion g (by simpa [Request.fresh] using ⟨carried t k, leg⟩)
    · exact h.setMotion g (by simpa using leg)
  · exact h

theorem State.TargetsKept.serviceOut {s : State} (h : s.TargetsKept) (g : GateId) : (s.serviceOut g).TargetsKept := by
  have hg := h g
  unfold State.serviceOut
  split <;> try rename_i e; rw [e] at hg
  · exact h.enterOutOfService g (by simp)
  · exact (h.leaveList g (Motion.within_idle _)).enterOutOfService g (by
      rw [show (s.leaveList g .idle).record g = s.record g from s.setMotion_record g g _]
      simpa [Request.toTarget] using hg)
  · exact h.enterStopping g (by simpa [Request.toTarget] using hg)
  · exact h.enterStopping g (by simpa [Request.toTarget] using hg)
  · exact h.setMotion g (by simpa using hg)
  · exact h.setMotion g (by simpa [Request.toTarget] using hg)
  · exact h.setMotion g (by simpa [Request.toTarget] using hg)
  · exact h.enterOutOfService g (by simpa using hg)
  · exact h

theorem State.TargetsKept.serviceChange {s : State} (h : s.TargetsKept) (g : GateId) (old new : Bool) :
    (s.serviceChange g old new).TargetsKept := by
  unfold State.serviceChange
  split
  · exact h.serviceIn g
  · exact h.serviceOut g
  · exact h

/-- The four stages keep targets, samples and ceilings within travel, the written gate's ceiling included (R40). -/
theorem State.TravelKept.receilinged {s : State} (h : s.TravelKept) (g : GateId) (new : GateRecord)
    (free : (s.gate g).runningCheck new = none) : (s.receilinged g new).TravelKept := by
  have targets : (s.remeasured g new).TargetsKept := by
    intro j
    rw [State.remeasured_record, State.remeasured_gate]
    split
    · exact Gate.rewritten_within free (h.targets g)
    · exact h.targets j
  have reached := s.reach_reserved g new
  have reserved : (s.reserved g new).TargetsKept := (targets.newlyStale g _).serviceChange g _ _
  have record (j : GateId) : (s.receilinged g new).record j = if j = g then new else s.record j := by
    rw [State.receilinged, State.setCeiling_record, reached.record, State.remeasured_record]
  have ceiling (j : GateId) : ((s.receilinged g new).gate j).ceiling =
      if j = g then (s.reserved g new).computeCeiling ((s.reserved g new).gate g) else (s.gate j).ceiling := by
    rw [State.receilinged, State.setCeiling_gate]
    split
    · rfl
    · rename_i e
      rw [reached.gate, State.remeasured_gate, if_neg e]
  have sample (j : GateId) (side : Side) :
      ((s.receilinged g new).gate j).sample side = ((s.remeasured g new).gate j).sample side := by
    rw [State.receilinged, State.setCeiling_gate]
    split
    · rename_i e; subst e; rw [reached.gate]; cases side <;> rfl
    · rw [reached.gate]; cases side <;> rfl
  have motion (j : GateId) : ((s.receilinged g new).gate j).motion = ((s.reserved g new).gate j).motion := by
    rw [State.receilinged, State.setCeiling_gate]
    split
    · rename_i e; subst e; rfl
    · rfl
  have readings := ((s.leaves_withRecord g new).mono (Q := Part.ofGate) (by simp)).trans
    ((s.leaves_receilinged g new).mono (by simp)) .readings (by simp)
  refine ⟨fun j side x hx => ?_, fun j => ?_, fun j c hc => ?_, fun n => ?_⟩
  · rw [sample, State.remeasured_gate] at hx
    rw [record]
    split at hx
    · rename_i e
      rw [if_pos e]
      exact Gate.rewritten_sound (h.samples g) side x hx
    · rename_i e
      rw [if_neg e]
      exact h.samples j side x hx
  · rw [motion, record, ← State.remeasured_record, ← reached.record]
    exact reserved j
  · rw [ceiling] at hc
    rw [record]
    split at hc
    · rename_i e
      rw [if_pos e]
      have := State.computeCeiling_le _ _ hc
      rwa [show ((s.reserved g new).gate g).record = new by
        rw [← State.record, reached.record, State.remeasured_record, if_pos rfl]] at this
    · rename_i e
      rw [if_neg e]
      exact h.ceilings j c hc
  · obtain ⟨value, age⟩ := readings n
    rw [value, age]
    exact h.gaugeAges n

theorem State.TravelKept.writeGate {s : State} (h : s.TravelKept) (g : GateId) (new : GateRecord)
    (free : (s.gate g).runningCheck new = none) : (s.writeGate g new).TravelKept := by
  obtain ⟨tell, e⟩ := s.writeGate_eq g new
  have told (t : State) (k : t.TravelKept) : (t.toldOf g tell).TravelKept := by
    unfold State.toldOf
    split
    · exact k.tellNeighbours g
    · exact k
  rw [e]
  exact (told _ ((h.receilinged g new free).ceilingCheck g)).evaluateNow

theorem State.TravelKept.takeWriteGate {s : State} (h : s.TravelKept) (p : List Byte) :
    (s.takeWriteGate p).TravelKept := by
  unfold State.takeWriteGate
  split
  · exact h.writeNoRecord p
  · split
    · exact h.writeReply _ _ _ _
    · rename_i e
      obtain ⟨-, -, free, -⟩ := State.judgeGate_eq_none e
      exact (h.writeGate _ _ free).writeReply _ _ _ _

/-! ### Every step -/

theorem exec_travelKept (c : Instr) (s t : State) (h : s.TravelKept) (e : exec c s = .next t) : t.TravelKept := by
  cases c with
  | coldReset a b d => cases e; exact (State.cold_travelKept a b d).congr rfl rfl
  | stopNAssertion => cases e; exact h.assertStop
  | stopNRelease => cases e; exact h.releaseStop
  | frameCheck => cases e; exact h.rescan _ _
  | receiveGapAbandon => cases e; exact h.abandon _
  | stationFrameSort => cases e; exact h.takeStation _ _ fun _ f k => k.sortStation f
  | fieldFrameSort => cases e; exact h.takeUnowned
  | position => cases e; exact h.position
  | ack => cases e; exact h.ack
  | level => cases e; exact h.level
  | move => cases e; exact h.takeStation _ _ fun _ _ k => k.takeMove _
  | stop => cases e; exact h.takeStation _ _ fun _ _ k => k.takeStop _
  | groupSet => cases e; exact h.takeStation _ _ fun _ _ k => k.takeGroupSet _
  | groupStop => cases e; exact h.takeStation _ _ fun _ _ k => k.takeGroupStop _
  | groupInvalidAction => cases e; exact h.takeStation _ _ fun _ _ k => k.reply _ _ _ _
  | clearHold => cases e; exact h.takeStation _ _ fun _ _ k => k.takeClearHold _
  | tableRead => cases e; exact h.takeStation _ _ fun _ _ k => k.takeRead _
  | tableWriteGate => cases e; exact h.takeStation _ _ fun _ _ k => k.takeWriteGate _
  | tableWriteCurveFirstPart => cases e; exact h.takeStation _ _ fun _ _ k => k.takeWriteFirstPart _
  | tableWriteCurveSecondPart => cases e; exact h.takeStation _ _ fun _ _ k => k.takeWriteSecondPart _
  | tableWriteGauge => cases e; exact h.takeStation _ _ fun _ _ k => k.takeWriteGauge _
  | tableWriteRoute => cases e; exact h.takeStation _ _ fun _ _ k => k.takeWriteRoute _
  | tableWriteSettings => cases e; exact h.takeStation _ _ fun _ _ k => k.takeWriteSettings _
  | statusRead => cases e; exact h.takeStation _ _ fun _ _ k => k.takeStatus _
  | counterSnapshot => cases e; exact h.takeStation _ _ fun _ _ k => k.takeSnapshot _
  | misrouteRead => cases e; exact h.takeStation _ _ fun _ _ k => k.congr rfl rfl
  | timeSet => cases e; exact h.takeStation _ _ fun _ _ k => k.congr rfl rfl
  | restart => cases e; exact h.takeStation _ _ fun _ _ k => k.warmRestart.reply _ _ _ _
  | spTransmit => cases e; exact h.transmitStation
  | fpTransmit => cases e; exact h.transmitField
  | hoistStale => cases e; exact h.hoistGoesStale _ _
  | gaugeStale => cases e; exact h.gaugeGoesStale _
  | ackWindowExpiry => cases e; exact h.ackWindowEnds _
  | deadlineExpiry => cases e; exact h.deadlineEnds _
  | haltWindowExpiry => cases e; exact h.haltWindowEnds _
  | silenceExpiry => cases e; exact h.silenceEnds
  | candidateSync => cases e; exact h.rescan _ _
  | lengthOver48 => cases e; exact h.rescan _ _

/-- Settles O10: a millisecond ages samples and moves no target, and a command keeps every target within travel
(`exec_travelKept`). -/
theorem targetsStayWithinTravel : Obligations.TargetsStayWithinTravel := by
  intro s t h e
  unfold step at e
  split at e
  · cases e; exact h.elapse
  · exact exec_travelKept _ _ t (h.congr (by rfl) (by rfl)) e

end Sys2Proof.Machine

/-! ## A POSITION report and the sample that it makes (R13, R17, R109) -/

namespace Sys2Proof.Machine

theorem State.sentOn_eq_passReport (s t : State) (f : Frame) : s.sentOn t f = t.passReport (s.route f.source) f := by
  unfold State.sentOn State.passReport State.joinUp Config.upFrames
  by_cases dest : f.dest = 0
  · cases pass : (s.route f.source).passUp <;> simp [dest]
  · simp [dest]

theorem State.leaves_sentOn (s t : State) (f : Frame) : t.Leaves (Part.relayCounts .fp) (s.sentOn t f) := by
  rw [State.sentOn_eq_passReport]
  exact t.leaves_passReport _ _ le_rfl

theorem State.HasHoistReport.fieldRow_position {s : State} {f : RxFrame} {rest : List RxFrame} {g : GateId} {side : Side}
    (h : s.HasHoistReport f rest 0x50#8 g side) : s.fieldRow f.frame = .position g side := by
  obtain ⟨-, kind, dest, role, binding⟩ := h
  have owned : s.reportDest f.frame = true := by simpa [State.reportDest] using dest
  simp [State.fieldRow, owned, role, binding, kind, Config.kindPosition]

/-- The command that takes a POSITION report hands it to the Sequencer and sends it on (R155). -/
theorem exec_position {s : State} {f : RxFrame} {rest : List RxFrame} {g : GateId} {side : Side}
    (h : s.HasHoistReport f rest 0x50#8 g side) :
    exec .position s =
      .next (s.sentOn ({ s with fpRx := rest }.takePosition g side f.frame.payload f.stamp) f.frame) := by
  change Host.Outcome.next (s.takeReport positionOwner) = _
  rw [State.sentOn_eq_passReport, State.takeReport, h.1]
  simp only [h.fieldRow_position, positionOwner]

/-- After the sample is stored, a POSITION report is a chain of motion changes. -/
theorem State.reach_takePosition (s : State) (g : GateId) (side : Side) {p : List Byte} {x : Report} (stamp : ClockWord)
    (e : parseReport p = some x) : (s.storeSample g side x stamp).Reach (s.takePosition g side p stamp) := by
  have checked := (s.storeSample g side x stamp).reach_sampleChecks g side x.state
  simp only [State.takePosition, e]
  split
  · exact .refl
  · split
    · exact checked
    · exact checked.trans (State.reach_openingChanged _ g)

theorem State.takePosition_outOfService {s : State} {g : GateId} (side : Side) {p : List Byte} {x : Report}
    (stamp : ClockWord) (e : parseReport p = some x) (out : (s.gate g).motion.isOutOfService = true) :
    s.takePosition g side p stamp = s.storeSample g side x stamp := by
  have kept : ((s.storeSample g side x stamp).gate g).motion = (s.gate g).motion := by
    cases side <;> simp [State.storeSample, Gate.withSample]
  simp only [State.takePosition, e, kept, out, if_true]

theorem State.storeSample_gate (s : State) (g k : GateId) (side : Side) (x : Report) (stamp : ClockWord) :
    (s.storeSample g side x stamp).gate k =
      if k = g then (s.gate g).withSample side (some ((s.record g).sampleOf side x stamp)) else s.gate k :=
  s.setGate_gate g k _

theorem Part.sample_eq {s t : State} (h : Part.samples.same s t) (g : GateId) (side : Side) :
    (t.gate g).sample side = (s.gate g).sample side := by
  obtain ⟨left, right⟩ := h g
  cases side
  · exact left
  · exact right

/-- What a POSITION payload reports, its fault code byte 0 when it carries none (R109). -/
theorem parseReport_position {p : List Byte} {hi lo st : Byte} {code : Nat}
    (h : p = [hi, lo, st] ∧ code = 0 ∨ ∃ c, p = [hi, lo, st, c] ∧ code = c.toNat) :
    parseReport p = some (Report.mk (min (hi.toNat * 256 + lo.toNat) 16383) (reportState st.toNat code).1
      (reportState st.toNat code).2) := by
  obtain ⟨rfl, rfl⟩ | ⟨c, rfl, rfl⟩ := h <;> rfl

theorem parseReport_eq_none {p : List Byte} (three : p.length ≠ 3) (four : p.length ≠ 4) : parseReport p = none := by
  simp [parseReport, three, four]

theorem reportState_cases (st : Byte) (code : Nat) :
    (st = 0 → reportState st.toNat code = (.atRest, none)) ∧ (st = 1 → reportState st.toNat code = (.moving, none)) ∧
    (st = 2 → reportState st.toNat code = (.paused, none)) ∧
    (st = 3 → reportState st.toNat code = (.fault, some (if code = 0 then 255 else code))) ∧
    (3 < st.toNat → reportState st.toNat code = (.fault, some 255)) := by
  refine ⟨?_, ?_, ?_, ?_, fun large => ?_⟩
  · rintro rfl; rfl
  · rintro rfl; rfl
  · rintro rfl; rfl
  · rintro rfl; rfl
  · unfold reportState
    split <;> simp_all

/-- After its sample is stored a report leaves all samples and records, sent on or not (R110, R155). -/
theorem State.sentOn_takePosition {s taken : State} {f : RxFrame} {g : GateId} {side : Side} {x : Report}
    (parsed : parseReport f.frame.payload = some x) :
    (taken.storeSample g side x f.stamp).Leaves (Part.relayCounts .fp)
      (s.sentOn (taken.takePosition g side f.frame.payload f.stamp) f.frame) :=
  ((taken.reach_takePosition g side f.stamp parsed).leaves _).trans (s.leaves_sentOn _ _)

/-- Settles O30: the report is stored before its checks, and checks and sending on leave samples and records
(`State.sentOn_takePosition`). -/
theorem positionReplacesTheSample : Obligations.PositionReplacesTheSample := by
  intro s f rest g side h
  refine ⟨fun hi lo st code payload => ?_, fun three four => ?_⟩
  · have parsed := parseReport_position payload
    obtain ⟨zero, one, two, three, more⟩ := reportState_cases st code
    generalize reportState st.toNat code = reported at parsed zero one two three more
    let x : Report := ⟨min (hi.toNat * 256 + lo.toNat) 16383, reported.1, reported.2⟩
    let taken : State := { s with fpRx := rest }
    have stored (k : GateId) := taken.storeSample_gate g k side x f.stamp
    have after := State.sentOn_takePosition (s := s) (taken := taken) (g := g) (side := side) parsed
    have samples := after .samples (by simp)
    have records := (taken.leaves_storeSample g side x f.stamp) .gateRecords (by simp)
    refine ⟨_, (s.record g).sampleOf side x f.stamp, exec_position h, ?_, rfl, rfl, rfl, rfl, ?_, ?_, ?_, ?_, ?_, ?_,
      fun k other => ?_, fun k => ?_, fun out => ?_⟩
    · rw [Part.sample_eq samples, stored, if_pos rfl, Gate.withSample_sample, if_pos rfl]
      rfl
    · exact fun e => by simp [GateRecord.sampleOf, x, zero e]
    · exact fun e => by simp [GateRecord.sampleOf, x, one e]
    · exact fun e => by simp [GateRecord.sampleOf, x, two e]
    · exact fun e => by simp [GateRecord.sampleOf, x, three e]
    · exact fun e => by simp [GateRecord.sampleOf, x, more e]
    · rw [Part.sample_eq samples, stored, if_pos rfl, Gate.withSample_sample, if_neg (by cases side <;> decide)]
      rfl
    · obtain ⟨left, right⟩ := samples k
      rw [left, right, stored, if_neg other]
      exact ⟨rfl, rfl⟩
    · exact ((after .gateRecords (by simp)) k).1.trans (records k).1
    · exact congrArg (s.sentOn · f.frame) (State.takePosition_outOfService (s := taken) side f.stamp parsed out)
  · simp [exec_position h, State.takePosition, parseReport_eq_none three four]

end Sys2Proof.Machine

/-! ## The checks of a TABLE WRITE, in their order (R165) -/

namespace Sys2Proof.Machine

/-! ### A request and its handler -/

/-- The command of a request's row hands its handler the payload, and the frame is gone from the buffer (R133, R151). -/
theorem State.HasRequest.takeStation {s : State} {kind : Byte} {p : List Byte} {rest : List RxFrame}
    (h : s.HasRequest kind p rest) {row : StationRow} (owned : requestRow kind p = some row)
    (handle : State → List Byte → State) :
    s.takeStation row (fun s f => handle s f.frame.payload) = handle { s with spRx := rest } p := by
  obtain ⟨f, waits, source, self, rfl, rfl, room⟩ := h
  have taken : s.stationRow f.frame = row := by simp [State.stationRow, source, self, owned]
  simp [State.takeStation, waits, taken, Config.replyFrames, room]

theorem State.HasRequest.takeWrite {s : State} {p : List Byte} {rest : List RxFrame}
    (h : s.HasRequest 0x21#8 p rest) {row : StationRow} (owned : writeRow p = some row)
    (handle : State → List Byte → State) :
    s.takeStation row (fun s f => handle s f.frame.payload) = handle { s with spRx := rest } p :=
  h.takeStation (owned : requestRow 0x21#8 p = some row) handle

/-- A write whose identifier is one of the six has the row of its table, at that table's length (R151). -/
theorem writeRow_table (id ix : Byte) (p : List Byte) :
    (id = 0 → p.length = 38 → writeRow (id :: ix :: p) = some .writeGate) ∧
    (id = 1 → p.length = 36 → writeRow (id :: ix :: p) = some .writeFirstPart) ∧
    (id = 2 → p.length = 35 → writeRow (id :: ix :: p) = some .writeSecondPart) ∧
    (id = 3 → p.length = 14 → writeRow (id :: ix :: p) = some .writeGauge) ∧
    (id = 4 → p.length = 6 → writeRow (id :: ix :: p) = some .writeRoute) ∧
    (id = 5 → p.length = 14 → writeRow (id :: ix :: p) = some .writeSettings) := by
  refine ⟨?_, ?_, ?_, ?_, ?_, ?_⟩ <;> rintro rfl length <;> simp [writeRow, length]

/-- A write with an identifier outside the six has the row of its length (R161). -/
theorem writeRow_unknown {id : Byte} (ix : Byte) (p : List Byte) (unknown : 5 < id.toNat) :
    writeRow (id :: ix :: p) = writeRowOfLength (p.length + 2) := by
  simp only [writeRow]
  split <;> simp_all

@[simp] theorem byte_byteAt_toNat (b : Byte) : byte b.toNat = b := by simp [byte]

theorem State.writeReply_cons (s : State) (id ix : Byte) (p : List Byte) (result : Result) (detail : Nat)
    (gen : CountWord) :
    s.writeReply (id :: ix :: p) result detail gen = s.reply 0x21#8 result detail ([id, ix] ++ be16 gen.toNat) := by
  have first : byteAt (id :: ix :: p) 0 = id.toNat := rfl
  have second : byteAt (id :: ix :: p) 1 = ix.toNat := rfl
  simp [State.writeReply, writeData, first, second, Config.kindTableWrite]

theorem indexOf_val {n : Nat} (i : Fin n) : indexOf n i.val = some i := by simp [indexOf]

theorem indexOf_eq_none {n i : Nat} (h : n ≤ i) : indexOf n i = none := by simp [indexOf, h]

/-! ### Checks and their order -/

theorem FirstAt.unique {fails : Nat → Prop} {i j : Nat} (h : FirstAt fails i) (k : FirstAt fails j) : i = j := by
  obtain ⟨hi, before⟩ := h
  obtain ⟨kj, others⟩ := k
  by_contra ne
  obtain lt | lt := Nat.lt_or_gt_of_ne ne
  · exact others i lt hi
  · exact before j lt kj

theorem exists_firstAt {fails : Nat → Prop} {i : Nat} (h : fails i) : ∃ j, FirstAt fails j := by
  classical
  exact ⟨Nat.find ⟨i, h⟩, Nat.find_spec ⟨i, h⟩, fun _ lt => Nat.find_min ⟨i, h⟩ lt⟩

/-- A check answers with its name and the first index at which it fails. -/
def Answers (v : Option Refused) (name : Result) (fails : Nat → Prop) : Prop :=
  ∀ result detail, v = some (result, detail) ↔ result = name ∧ FirstAt fails detail

/-- A verdict is that of the first of the checks that fails (R165). -/
def Judges (v : Option Refused) (checks : List (Result × (Nat → Prop))) : Prop :=
  ∀ result detail, v = some (result, detail) ↔ Refuses checks result detail

theorem Answers.none_iff {v : Option Refused} {name : Result} {fails : Nat → Prop} (h : Answers v name fails) :
    v = none ↔ ∀ i, ¬ fails i := by
  constructor
  · rintro rfl i hi
    obtain ⟨j, first⟩ := exists_firstAt hi
    cases (h name j).mpr ⟨rfl, first⟩
  · intro sound
    by_contra ne
    obtain ⟨⟨result, detail⟩, e⟩ := Option.ne_none_iff_exists'.mp ne
    exact sound detail ((h result detail).mp e).2.1

theorem Answers.congr {v : Option Refused} {name : Result} {fails fails' : Nat → Prop} (h : Answers v name fails)
    (same : ∀ i, fails i ↔ fails' i) : Answers v name fails' := by
  obtain rfl : fails = fails' := funext fun i => propext (same i)
  exact h

theorem Judges.nil : Judges none [] := fun _ _ => by simp [Refuses]

/-- A check before others: where it finds nothing, the others judge. -/
theorem Judges.cons {v w : Option Refused} {name : Result} {fails : Nat → Prop}
    {later : List (Result × (Nat → Prop))} (h : Answers v name fails)
    (k : (∀ i, ¬ fails i) → Judges w later) : Judges (v.or w) ((name, fails) :: later) := by
  intro result detail
  simp only [Refuses, ← h result detail]
  cases v with
  | none =>
    have sound := h.none_iff.mp rfl
    simpa [sound] using k sound result detail
  | some refused =>
    have ⟨_, found, _⟩ := (h refused.1 refused.2).mp rfl
    have : ¬ ∀ i, ¬ fails i := fun sound => sound _ found
    simp [this]

theorem Judges.last {v : Option Refused} {name : Result} {fails : Nat → Prop} (h : Answers v name fails) :
    Judges v [(name, fails)] := by
  simpa using Judges.cons h fun _ => Judges.nil

theorem answers_fieldCheck {checks : List Bool} {fails : Nat → Prop}
    (h : ∀ i, 1 ≤ i ∧ checks[i - 1]? = some false ↔ fails i) : Answers (fieldCheck checks) .invalid fails :=
  Answers.congr (fieldCheck_eq_some checks) h

/-- A check that fails at one place alone. -/
theorem answers_at (name : Result) (i : Nat) (c : Prop) [Decidable c] :
    Answers (if c then some (name, i) else none) name (fun j => j = i ∧ c) := by
  intro result detail
  by_cases h : c
  · simp only [h, if_true, Option.some.injEq, Prod.mk.injEq, FirstAt, and_true]
    constructor
    · rintro ⟨rfl, rfl⟩
      exact ⟨rfl, rfl, fun j lt => Nat.ne_of_lt lt⟩
    · rintro ⟨rfl, rfl, -⟩
      exact ⟨rfl, rfl⟩
  · simp [h, FirstAt]

/-- A check at one place before a check at later ones. -/
theorem Answers.before {v : Option Refused} {name : Result} {later : Nat → Prop} (h : Answers v name later) (i : Nat)
    (c : Prop) [Decidable c] (after : ∀ j, later j → i < j) :
    Answers (if c then some (name, i) else v) name (fun j => j = i ∧ c ∨ later j) := by
  by_cases now : c
  · simp only [now, if_true, and_true]
    intro result detail
    simp only [Option.some.injEq, Prod.mk.injEq]
    constructor
    · rintro ⟨rfl, rfl⟩
      refine ⟨rfl, .inl rfl, fun j lt fails => ?_⟩
      obtain rfl | far := fails
      · omega
      · exact absurd (after j far) (by omega)
    · rintro ⟨rfl, rfl | far, first⟩
      · exact ⟨rfl, rfl⟩
      · exact absurd (.inl rfl) (first i (after detail far))
  · simpa [now] using h

theorem answers_generationCheck (conditional : Bool) (expected gen : CountWord) :
    Answers (generationCheck conditional expected gen) .generation
      (fun i => i = 0 ∧ conditional = true ∧ expected ≠ gen) :=
  answers_at .generation 0 (conditional = true ∧ expected ≠ gen)

/-- The generation check of a write, by its bytes (R136, R166). -/
theorem answers_outdated (id ix : Byte) (p : List Byte) (gen : CountWord) :
    Answers (generationCheck (isConditional (id :: ix :: p)) (expectedGen (id :: ix :: p)) gen) .generation
      (fun i => i = 0 ∧ byteAt p 0 ≠ 0 ∧ u16At p 1 ≠ gen.toNat) := by
  refine (answers_generationCheck _ _ _).congr fun i => ?_
  have flag : isConditional (id :: ix :: p) = decide (byteAt p 0 ≠ 0) := rfl
  have asked : expectedGen (id :: ix :: p) = BitVec.ofNat 16 (u16At p 1) := rfl
  have small : u16At p 1 < 65536 := by
    have hi := byteAt_le p 1
    have lo := byteAt_le p (1 + 1)
    simp only [u16At]
    omega
  have differs : BitVec.ofNat 16 (u16At p 1) ≠ gen ↔ u16At p 1 ≠ gen.toNat := by
    rw [ne_eq, ← BitVec.toNat_inj, BitVec.toNat_ofNat, Nat.mod_eq_of_lt (by simpa using small)]
  rw [flag, asked, decide_eq_true_iff, differs]

end Sys2Proof.Machine

/-! ## The fields and items that a TABLE WRITE checks -/

namespace Sys2Proof.Machine

/-! ### One field -/

theorem within_eq_false {lo hi n : Nat} : within lo hi n = false ↔ beyond lo hi n := by
  simp [within, beyond]
  omega

theorem withinInt_eq_false {lo hi z : Int} : withinInt lo hi z = false ↔ beyond lo hi z := by
  simp [withinInt, beyond]
  omega

theorem yesNo_eq_false {n : Nat} : yesNo n = false ↔ 1 < n := by simp [yesNo]

theorem addressOk_eq_false {own : LinkAddr} {n : Nat} :
    addressOk own n = false ↔ n ≠ 0 ∧ (beyond 1 62 n ∨ n = own.val) := by
  rw [addressOk, Bool.or_eq_false_iff, Bool.and_eq_false_iff, within_eq_false]
  simp

theorem State.curveReady_eq_false {s : State} {n : Nat} :
    s.curveReady n = false ↔ ∃ c : Fin 4, c.val = n ∧ (s.curve c).points.length < 2 := by
  unfold State.curveReady
  split
  · rename_i lt
    simp only [decide_eq_false_iff_not, Nat.not_le]
    constructor
    · exact fun short => ⟨⟨n, lt⟩, rfl, short⟩
    · rintro ⟨c, rfl, short⟩
      exact short
  · rename_i large
    simp only [Bool.true_eq_false, false_iff]
    rintro ⟨c, rfl, -⟩
    exact large c.isLt

/-- A field that may be 0, or lie in a range. -/
theorem zeroOrWithin_eq_false {lo hi n : Nat} :
    (decide (n = 0) || within lo hi n) = false ↔ n ≠ 0 ∧ beyond lo hi n := by
  rw [Bool.or_eq_false_iff, within_eq_false, decide_eq_false_iff_not]

theorem atMost_eq_false {hi n : Nat} : within 0 hi n = false ↔ hi < n := by simp [within]

/-! ### The fields of each record -/

theorem decide_ne_eq_false {m n : Nat} : decide (m ≠ n) = false ↔ m = n := by simp

theorem decide_eq_eq_false {m n : Nat} : decide (m = n) = false ↔ m ≠ n := by simp

/-- Among legal yes/no values, those that are not 0 are 1. -/
theorem yesNo_and {n : Nat} {P : Prop} : (1 < n ∨ n ≠ 0 ∧ P) ↔ 1 < n ∨ n = 1 ∧ P := by
  by_cases large : 1 < n
  · simp [large]
  · rw [show n ≠ 0 ↔ n = 1 by omega]

theorem gateFieldFails_one (s : State) (r : List Byte) :
    ((RawGate.parse r).checks s)[0]? = some false ↔ s.gateFieldFails r 1 := by
  refine Option.some_inj.trans ?_
  rw [State.gateFieldFails, ← yesNo_and]
  simp only [Bool.and_eq_false_iff, Bool.or_eq_false_iff, yesNo_eq_false, State.curveReady_eq_false,
    decide_ne_eq_false, decide_eq_eq_false, or_assoc]
  rfl

theorem gateFieldFails_three (s : State) (r : List Byte) :
    ((RawGate.parse r).checks s)[2]? = some false ↔ s.gateFieldFails r 3 := by
  refine Option.some_inj.trans ?_
  simp only [State.gateFieldFails, Bool.and_eq_false_iff, Bool.or_eq_false_iff, addressOk_eq_false,
    decide_ne_eq_false, decide_eq_eq_false]
  rw [← and_or_left, or_assoc]
  rfl

theorem gateFieldFails_iff (s : State) (r : List Byte) (i : Nat) :
    (1 ≤ i ∧ ((RawGate.parse r).checks s)[i - 1]? = some false) ↔ s.gateFieldFails r i := by
  match i with
  | 0 => simp [State.gateFieldFails]
  | 1 => exact (and_iff_right (by decide)).trans (gateFieldFails_one s r)
  | 3 => exact (and_iff_right (by decide)).trans (gateFieldFails_three s r)
  | 7 => exact (and_iff_right (by decide)).trans (Option.some_inj.trans atMost_eq_false)
  | 8 => exact (and_iff_right (by decide)).trans (Option.some_inj.trans zeroOrWithin_eq_false)
  | 13 => exact (and_iff_right (by decide)).trans (Option.some_inj.trans atMost_eq_false)
  | 2 | 4 | 5 | 6 | 9 | 10 | 11 | 12 | 14 | 15 | 16 | 17 | 18 | 19 | 20 | 21 | 22 =>
    simp [State.gateFieldFails, RawGate.checks, RawGate.parse, within_eq_false, withinInt_eq_false, yesNo_eq_false,
      addressOk_eq_false]
  | i + 23 => simp [State.gateFieldFails, RawGate.checks]

theorem gaugeFieldFails_one (s : State) (r : List Byte) :
    ((RawGauge.parse r).checks s.ownAddress)[0]? = some false ↔ s.gaugeFieldFails r 1 := by
  refine Option.some_inj.trans ?_
  rw [State.gaugeFieldFails, ← yesNo_and]
  simp only [Bool.and_eq_false_iff, Bool.or_eq_false_iff, yesNo_eq_false, decide_ne_eq_false, decide_eq_eq_false]
  rfl

theorem gaugeFieldFails_six (r : List Byte) :
    (withinInt (-10000) 20000 (s16At r 7) && decide (s16At r 5 < s16At r 7)) = false ↔
      beyond (-10000) 20000 (s16At r 7) ∨ s16At r 7 ≤ s16At r 5 := by
  rw [Bool.and_eq_false_iff, withinInt_eq_false, decide_eq_false_iff_not, not_lt]

theorem gaugeFieldFails_iff (s : State) (r : List Byte) (i : Nat) :
    (1 ≤ i ∧ ((RawGauge.parse r).checks s.ownAddress)[i - 1]? = some false) ↔ s.gaugeFieldFails r i := by
  match i with
  | 0 => simp [State.gaugeFieldFails]
  | 1 => exact (and_iff_right (by decide)).trans (gaugeFieldFails_one s r)
  | 2 => exact (and_iff_right (by decide)).trans (Option.some_inj.trans yesNo_eq_false)
  | 6 => exact (and_iff_right (by decide)).trans (Option.some_inj.trans (gaugeFieldFails_six r))
  | 3 | 4 | 5 | 7 =>
    simp [State.gaugeFieldFails, RawGauge.checks, RawGauge.parse, within_eq_false, withinInt_eq_false, addressOk_eq_false]
  | i + 8 => simp [State.gaugeFieldFails, RawGauge.checks]

theorem roleOk_eq_false (present : Role) (n : Nat) :
    roleOk present n = false ↔ 5 < n ∨ (present = .unused ∨ present = .other) ∧ n ≠ 0 ∧ n ≠ 5 := by
  by_cases large : 5 < n
  · have none : roleOf n = none := by
      unfold roleOf
      split <;> simp_all
    simp [roleOk, none, large]
  · have small : n ≤ 5 := by omega
    interval_cases n <;> cases present <;> decide

theorem routeFieldFails_iff (present : Role) (r : List Byte) (i : Nat) :
    (1 ≤ i ∧ (routeChecks present r)[i - 1]? = some false) ↔ routeFieldFails present r i := by
  match i with
  | 0 => simp [routeFieldFails]
  | 1 => exact (and_iff_right (by decide)).trans (Option.some_inj.trans (roleOk_eq_false present _))
  | 2 | 3 => simp [routeFieldFails, routeChecks]
  | i + 4 => simp [routeFieldFails, routeChecks]

theorem settingsFieldFails_iff (r : List Byte) (i : Nat) :
    (1 ≤ i ∧ (settingsChecks r)[i - 1]? = some false) ↔ settingsFieldFails r i := by
  match i with
  | 0 => simp [settingsFieldFails]
  | 2 => exact (and_iff_right (by decide)).trans (Option.some_inj.trans atMost_eq_false)
  | 3 => exact (and_iff_right (by decide)).trans (Option.some_inj.trans zeroOrWithin_eq_false)
  | 1 | 4 | 5 | 6 | 7 => simp [settingsFieldFails, settingsChecks, within_eq_false]
  | i + 8 => simp [settingsFieldFails, settingsChecks]

/-! ### The breakpoints of a curve -/

/-- The checks of breakpoints `first` to `last` are those of the points that their bytes carry (R36). -/
theorem pointFails_iff (r : List Byte) (off first last : Nat) (before : Option Int) (i : Nat) :
    pointFails r off first last before i ↔
      2 * first ≤ i ∧ (pointChecks before (rawPoints r off (last + 1 - first)))[i - 2 * first]? = some false := by
  rw [pointChecks_fails]
  simp only [rawPoints_length, rawPoints_getElem, pointFails]
  constructor
  · rintro ⟨k, low, high, fails⟩
    obtain ⟨j, rfl⟩ := Nat.exists_eq_add_of_le low
    simp only [Nat.add_sub_cancel_left] at fails
    refine ⟨by omega, j, by omega, ?_⟩
    obtain ⟨rfl, range | ⟨after, rising⟩ | ⟨e, above⟩⟩ | ⟨rfl, high⟩ := fails
    · exact .inl ⟨by omega, .inl range⟩
    · refine .inl ⟨by omega, .inr (.inl ⟨by omega, ?_⟩)⟩
      rwa [show off + 4 * (j - 1) = off + 4 * j - 4 by omega]
    · exact .inl ⟨by omega, .inr (.inr ⟨by omega, above⟩)⟩
    · exact .inr ⟨by omega, high⟩
  · rintro ⟨low, j, lt, fails⟩
    refine ⟨first + j, by omega, by omega, ?_⟩
    simp only [Nat.add_sub_cancel_left]
    obtain ⟨e, range | ⟨after, rising⟩ | ⟨z, above⟩⟩ | ⟨e, high⟩ := fails
    · exact .inl ⟨by omega, .inl range⟩
    · refine .inl ⟨by omega, .inr (.inl ⟨by omega, ?_⟩)⟩
      rwa [show off + 4 * (j - 1) = off + 4 * j - 4 by omega] at rising
    · exact .inl ⟨by omega, .inr (.inr ⟨by omega, above⟩)⟩
    · exact .inr ⟨by omega, high⟩

theorem firstPartFails_iff (r : List Byte) (i : Nat) :
    (1 ≤ i ∧ (countOk (byteAt r 0) :: pointChecks none (rawPoints r 1 (min (byteAt r 0) 8)))[i - 1]? = some false) ↔
      firstPartFails r i := by
  rw [firstPartFails, pointFails_iff, Nat.add_sub_cancel]
  match i with
  | 0 => simp
  | 1 =>
    have count : countOk (byteAt r 0) = false ↔ _ := zeroOrWithin_eq_false
    simp [count]
  | i + 2 => simp

theorem secondPartFails_iff (t : Staging) (r : List Byte) (i : Nat) :
    (1 ≤ i ∧ (List.replicate 17 true ++ pointChecks (t.points.getLast?.map Breakpoint.head)
      (rawPoints r 0 (t.count - 8)))[i - 1]? = some false) ↔ t.secondPartFails r i := by
  rw [Staging.secondPartFails, pointFails_iff, show t.count + 1 - 9 = t.count - 8 by omega]
  by_cases low : 18 ≤ i
  · rw [List.getElem?_append_right (by simp; omega), List.length_replicate, show i - 1 - 17 = i - 2 * 9 by omega]
    simp [low, show 1 ≤ i by omega]
  · simp only [show ¬ 2 * 9 ≤ i by omega, false_and, iff_false, not_and]
    intro pos
    rw [List.getElem?_append_left (by simp; omega), List.getElem?_replicate]
    split <;> simp

/-! ### The checks against what is in force -/

theorem optAddr_eq_some {n : Nat} (small : n < 64) (a : LinkAddr) : optAddr n = some a ↔ n ≠ 0 ∧ a.val = n := by
  simp only [optAddr, Option.ite_none_left_eq_some, Option.some.injEq, Fin.ext_iff, Nat.mod_eq_of_lt small]
  rw [eq_comm (a := n) (b := a.val)]

theorem eq_optAddr_iff {n : Nat} (small : n < 64) (a : Option LinkAddr) : a = optAddr n ↔ namesAddress n a := by
  cases a with
  | none => rw [eq_comm, optAddr_eq_none, namesAddress]
  | some a => rw [eq_comm, optAddr_eq_some small, namesAddress, eq_comm (a := a.val)]

/-- The motion-fixed field that the model finds is the first in which the records differ (R11). -/
theorem fixedDiffers_answers (old : GateRecord) (r : List Byte) (left : byteAt r 1 < 64) (right : byteAt r 2 < 64) :
    Answers ((old.fixedDiffers (RawGate.parse r).record).map fun i => (.running, i)) .running (old.fixedFieldDiffers r) := by
  have hand : old.handshake ≠ (RawGate.parse r).record.handshake ↔ ¬ (byteAt r 30 = 1 ↔ old.handshake = .pulsed) := by
    by_cases one : byteAt r 30 = 1 <;> cases h : old.handshake <;> simp [RawGate.record, RawGate.parse, one]
  have leftHoist : old.leftHoist ≠ (RawGate.parse r).record.leftHoist ↔ ¬ namesAddress (byteAt r 1) old.leftHoist :=
    not_congr (eq_optAddr_iff left _)
  have rightHoist : old.rightHoist ≠ (RawGate.parse r).record.rightHoist ↔ ¬ namesAddress (byteAt r 2) old.rightHoist :=
    not_congr (eq_optAddr_iff right _)
  have search := (((((answers_at .running 19 (old.handshake ≠ (RawGate.parse r).record.handshake)).before 6
    (old.fullTravel ≠ (RawGate.parse r).record.fullTravel) (by omega)).before 5
    (old.rightOffset ≠ (RawGate.parse r).record.rightOffset) (by omega)).before 4
    (old.leftOffset ≠ (RawGate.parse r).record.leftOffset) (by omega)).before 3
    (old.rightHoist ≠ (RawGate.parse r).record.rightHoist) (by omega)).before 2
    (old.leftHoist ≠ (RawGate.parse r).record.leftHoist) (by omega)
  simp only [GateRecord.fixedDiffers, apply_ite (Option.map fun i => (Result.running, i)), Option.map_some,
    Option.map_none]
  refine search.congr fun i => ?_
  simp only [hand, leftHoist, rightHoist]
  match i with
  | 0 | 1 | 7 | 8 | 9 | 10 | 11 | 12 | 13 | 14 | 15 | 16 | 17 | 18 => simp [GateRecord.fixedFieldDiffers]
  | 2 | 3 | 19 => simp [GateRecord.fixedFieldDiffers]
  | 4 | 5 | 6 => simp [GateRecord.fixedFieldDiffers, RawGate.record, RawGate.parse, eq_comm]
  | i + 20 => simp [GateRecord.fixedFieldDiffers]

theorem Motion.holdsSlot_iff (m : Motion) : m.holdsSlot = true ↔
    (∃ q l w, m = .starting q l w) ∨ (∃ q l, m = .travelling q l) ∨ ∃ n l w, m = .stopping n l w := by
  cases m <;> simp [Motion.holdsSlot]

theorem runningCheck_answers (x : Gate) (r : List Byte) (left : byteAt r 1 < 64) (right : byteAt r 2 < 64) :
    Answers (x.runningCheck (RawGate.parse r).record) .running
      (fun i => x.motion.holdsSlot = true ∧ x.record.fixedFieldDiffers r i) := by
  have fixed := fixedDiffers_answers x.record r left right
  unfold Gate.runningCheck
  split
  · rename_i slot
    simpa [slot] using fixed
  · rename_i slot
    intro result detail
    simp [slot, FirstAt]

/-- An address that a record names is in use when its entry serves something else (R3, R20). -/
theorem addressUsed_iff (s : State) {n : Nat} (small : n < 64) (role : Role) (b : Binding) :
    s.addressUsed n role b ↔ ∃ a, optAddr n = some a ∧
      ¬ ((s.route a).role = .unused ∨ (s.route a).role = role ∧ (s.route a).binding = some b) := by
  simp only [State.addressUsed, optAddr_eq_some small, not_or]
  constructor
  · rintro ⟨nz, a, e, used⟩
    exact ⟨a, ⟨nz, e⟩, used⟩
  · rintro ⟨a, ⟨nz, e⟩, used⟩
    exact ⟨nz, a, e, used⟩

theorem hoistFree_iff (s : State) {n : Nat} (small : n < 64) (g : GateId) (side : Side) :
    (!s.hoistFree g side (optAddr n)) = true ↔ s.addressUsed n .hoist (.hoist g side) := by
  rw [addressUsed_iff s small]
  cases optAddr n <;> simp [State.hoistFree, -not_and, not_and_or]

theorem hoistsInUse_answers (s : State) (g : GateId) (r : List Byte) (left : byteAt r 1 < 64) (right : byteAt r 2 < 64) :
    Answers (s.hoistsInUse g (RawGate.parse r).record) .inUse
      (fun i => i = 2 ∧ s.addressUsed (byteAt r 1) .hoist (.hoist g .left) ∨
        i = 3 ∧ s.addressUsed (byteAt r 2) .hoist (.hoist g .right)) := by
  have search := (answers_at .inUse 3 ((!s.hoistFree g .right (optAddr (byteAt r 2))) = true)).before 2
    ((!s.hoistFree g .left (optAddr (byteAt r 1))) = true) (by omega)
  refine search.congr fun i => ?_
  rw [hoistFree_iff s left, hoistFree_iff s right]

theorem gaugeInUse_answers (s : State) (n : GaugeId) (r : List Byte) (small : byteAt r 2 < 64) :
    Answers (s.gaugeInUse n (RawGauge.parse r).record.address) .inUse
      (fun i => i = 3 ∧ s.addressUsed (byteAt r 2) .gauge (.gauge n)) := by
  classical
  have used := answers_at .inUse 3 (s.addressUsed (byteAt r 2) .gauge (.gauge n))
  suffices h : s.gaugeInUse n (RawGauge.parse r).record.address =
      if s.addressUsed (byteAt r 2) .gauge (.gauge n) then some (.inUse, 3) else none by rwa [h]
  simp only [addressUsed_iff s small]
  change s.gaugeInUse n (optAddr (byteAt r 2)) = _
  cases optAddr (byteAt r 2) with
  | none => simp [State.gaugeInUse]
  | some a => simp only [State.gaugeInUse, Option.some.injEq, exists_eq_left', ite_not]

theorem curveInUse_iff (s : State) (c : Fin 4) :
    s.curveInUse c = true ↔ ∃ g, (s.record g).inService = true ∧ (s.record g).curve = c := by
  simp [State.curveInUse, mem_allGates]

theorem roleChanges_iff (present : Role) (r : List Byte) :
    present.writable = false ∧ roleOf (byteAt r 0) ≠ some present ↔ roleChanges present r := by
  have names : roleOf (byteAt r 0) = some present ↔ byteAt r 0 = present.code := by
    unfold roleOf
    split <;> cases present <;> simp_all [Role.code]
  rw [ne_eq, names, roleChanges]
  cases present <;> simp [Role.writable, Role.code]

end Sys2Proof.Machine

/-! ## A refused TABLE WRITE changes nothing -/

namespace Sys2Proof.Machine

/-! ### The verdict on a write of each table -/

theorem judges_gate (s : State) (g : GateId) (id ix : Byte) (p : List Byte) :
    Judges (s.judgeGate g (id :: ix :: p))
      [(.invalid, s.gateFieldFails (p.drop 3)),
       (.generation, fun i => i = 0 ∧ byteAt p 0 ≠ 0 ∧ u16At p 1 ≠ (s.gate g).generation.toNat),
       (.running, fun i => (s.gate g).motion.holdsSlot = true ∧ (s.record g).fixedFieldDiffers (p.drop 3) i),
       (.inUse, fun i => i = 2 ∧ s.addressUsed (byteAt (p.drop 3) 1) .hoist (.hoist g .left) ∨
         i = 3 ∧ s.addressUsed (byteAt (p.drop 3) 2) .hoist (.hoist g .right))] := by
  refine Judges.cons (answers_fieldCheck (gateFieldFails_iff s _)) fun sound => ?_
  have left : byteAt (p.drop 3) 1 < 64 := by
    have := sound 2
    simp only [State.gateFieldFails, beyond] at this
    omega
  have right : byteAt (p.drop 3) 2 < 64 := by
    have := sound 3
    simp only [State.gateFieldFails, beyond] at this
    omega
  exact Judges.cons (answers_outdated id ix p _) fun _ =>
    Judges.cons (runningCheck_answers _ _ left right) fun _ => Judges.last (hoistsInUse_answers s g _ left right)

theorem judges_firstPart (s : State) (c : Fin 4) (id ix : Byte) (p : List Byte) :
    Judges (s.judgeFirstPart c (id :: ix :: p))
      [(.invalid, firstPartFails (p.drop 3)),
       (.generation, fun i => i = 0 ∧ byteAt p 0 ≠ 0 ∧ u16At p 1 ≠ (s.curve c).generation.toNat),
       (.inUse, fun i => i = 1 ∧ byteAt (p.drop 3) 0 = 0 ∧
         ∃ g, (s.record g).inService = true ∧ (s.record g).curve = c)] := by
  refine Judges.cons (answers_fieldCheck (firstPartFails_iff _)) fun _ =>
    Judges.cons (answers_outdated id ix p _) fun _ => Judges.last ?_
  refine (answers_at .inUse 1 (curveCount (id :: ix :: p) = 0 ∧ s.curveInUse c = true)).congr fun i => ?_
  rw [curveInUse_iff]
  rfl

theorem judges_secondPart (s : State) (c : Fin 4) (t : Staging) (id ix : Byte) (p : List Byte) :
    Judges (s.judgeSecondPart c t (id :: ix :: p))
      [(.invalid, t.secondPartFails (p.drop 3)),
       (.generation, fun i => i = 0 ∧ t.conditional = true ∧ t.expected ≠ (s.curve c).generation)] :=
  Judges.cons (answers_fieldCheck (secondPartFails_iff t _)) fun _ => Judges.last (answers_generationCheck _ _ _)

theorem judges_gauge (s : State) (n : GaugeId) (id ix : Byte) (p : List Byte) :
    Judges (s.judgeGauge n (id :: ix :: p))
      [(.invalid, s.gaugeFieldFails (p.drop 3)),
       (.generation, fun i => i = 0 ∧ byteAt p 0 ≠ 0 ∧ u16At p 1 ≠ (s.gauge n).generation.toNat),
       (.inUse, fun i => i = 3 ∧ s.addressUsed (byteAt (p.drop 3) 2) .gauge (.gauge n))] := by
  refine Judges.cons (answers_fieldCheck (gaugeFieldFails_iff s _)) fun sound => ?_
  have small : byteAt (p.drop 3) 2 < 64 := by
    have := sound 3
    simp only [State.gaugeFieldFails, beyond] at this
    omega
  exact Judges.cons (answers_outdated id ix p _) fun _ => Judges.last (gaugeInUse_answers s n _ small)

theorem judges_route (s : State) (a : LinkAddr) (id ix : Byte) (p : List Byte) :
    Judges (s.judgeRoute a (id :: ix :: p))
      [(.invalid, routeFieldFails (s.route a).role (p.drop 3)),
       (.generation, fun i => i = 0 ∧ byteAt p 0 ≠ 0 ∧ u16At p 1 ≠ (s.route a).generation.toNat),
       (.inUse, fun i => i = 1 ∧ roleChanges (s.route a).role (p.drop 3))] := by
  refine Judges.cons (answers_fieldCheck (routeFieldFails_iff _ _)) fun _ =>
    Judges.cons (answers_outdated id ix p _) fun _ => Judges.last ?_
  refine (answers_at .inUse 1 ((!(s.route a).role.writable) = true ∧
    roleOf (byteAt (p.drop 3) 0) ≠ some (s.route a).role)).congr fun i => ?_
  rw [← roleChanges_iff, Bool.not_eq_true']

theorem judges_settings (s : State) (id ix : Byte) (p : List Byte) :
    Judges (s.judgeSettings (id :: ix :: p))
      [(.invalid, settingsFieldFails (p.drop 3)),
       (.generation, fun i => i = 0 ∧ byteAt p 0 ≠ 0 ∧ u16At p 1 ≠ s.settingsGen.toNat),
       (.busy, fun i => i = 1 ∧ byteAt (p.drop 3) 0 < s.slotsInUse)] :=
  Judges.cons (answers_fieldCheck (settingsFieldFails_iff _)) fun _ =>
    Judges.cons (answers_outdated id ix p _) fun _ => Judges.last (answers_at _ _ _)

/-- A verdict that refuses is the answer, and one that finds nothing refuses nothing. -/
theorem Judges.refuses {v : Option Refused} {checks : List (Result × (Nat → Prop))} (h : Judges v checks)
    {answered : Result → Nat → Prop} (answer : ∀ result detail, v = some (result, detail) → answered result detail) :
    (∀ result detail, Refuses checks result detail → answered result detail) ∧
      ((∀ result detail, ¬ Refuses checks result detail) → v = none) := by
  refine ⟨fun result detail refused => answer _ _ ((h result detail).mpr refused), fun nothing => ?_⟩
  by_contra ne
  obtain ⟨⟨result, detail⟩, e⟩ := Option.ne_none_iff_exists'.mp ne
  exact nothing result detail ((h result detail).mp e)

/-! ### A refused write is answered, and no more -/

theorem byteAt_zero (id ix : Byte) (p : List Byte) : byteAt (id :: ix :: p) 0 = id.toNat := rfl

theorem byteAt_one (id ix : Byte) (p : List Byte) : byteAt (id :: ix :: p) 1 = ix.toNat := rfl

theorem toNat_byte {n : Nat} (small : n < 256) : (byte n).toNat = n := by simp [byte, Nat.mod_eq_of_lt small]

/-- The index byte of a record names it. -/
theorem indexOf_byte {n : Nat} (i : Fin n) (small : n ≤ 256) : indexOf n (byte i.val).toNat = some i := by
  rw [toNat_byte (i.isLt.trans_le small), indexOf_val]

/-- An identifier and an index name a record of table `table` with `n` records. -/
theorem namesRecord {id : Byte} {table n : Nat} (i : Fin n) (p : List Byte) (here : id.toNat = table) (small : n ≤ 256) :
    (if byteAt (id :: byte i.val :: p) 0 = table then indexOf n (byteAt (id :: byte i.val :: p) 1) else none) = some i := by
  rw [byteAt_zero, byteAt_one, if_pos here, indexOf_byte i small]

theorem State.takeWriteGate_refused {s : State} {g : GateId} {p : List Byte} {result : Result} {detail : Nat}
    (named : (if byteAt p 0 = 0 then indexOf 12 (byteAt p 1) else none) = some g)
    (h : s.judgeGate g p = some (result, detail)) :
    s.takeWriteGate p = s.writeReply p result detail (s.gate g).generation := by
  simp only [State.takeWriteGate, named, h]

theorem State.takeWriteFirstPart_refused {s : State} {c : Fin 4} {p : List Byte} {result : Result} {detail : Nat}
    (named : (if byteAt p 0 = 1 then indexOf 4 (byteAt p 1) else none) = some c)
    (h : s.judgeFirstPart c p = some (result, detail)) :
    s.takeWriteFirstPart p = s.writeReply p result detail (s.curve c).generation := by
  simp only [State.takeWriteFirstPart, named, h]

theorem State.takeWriteSecondPart_unstaged {s : State} {c : Fin 4} {p : List Byte}
    (named : (if byteAt p 0 = 2 then indexOf 4 (byteAt p 1) else none) = some c) (h : s.stagedFor c = none) :
    s.takeWriteSecondPart p = s.writeReply p .invalid 0 (s.curve c).generation := by
  simp only [State.takeWriteSecondPart, named, h]

theorem State.takeWriteSecondPart_refused {s : State} {c : Fin 4} {t : Staging} {p : List Byte} {result : Result}
    {detail : Nat} (named : (if byteAt p 0 = 2 then indexOf 4 (byteAt p 1) else none) = some c)
    (staged : s.stagedFor c = some t) (h : s.judgeSecondPart c t p = some (result, detail)) :
    s.takeWriteSecondPart p = { s with staging := none }.writeReply p result detail (s.curve c).generation := by
  simp only [State.takeWriteSecondPart, named, staged, h]

theorem State.takeWriteGauge_refused {s : State} {n : GaugeId} {p : List Byte} {result : Result} {detail : Nat}
    (named : (if byteAt p 0 = 3 then indexOf 4 (byteAt p 1) else none) = some n)
    (h : s.judgeGauge n p = some (result, detail)) :
    s.takeWriteGauge p = s.writeReply p result detail (s.gauge n).generation := by
  simp only [State.takeWriteGauge, named, h]

theorem State.takeWriteRoute_refused {s : State} {a : LinkAddr} {p : List Byte} {result : Result} {detail : Nat}
    (named : (if byteAt p 0 = 4 then indexOf 64 (byteAt p 1) else none) = some a)
    (h : s.judgeRoute a p = some (result, detail)) :
    s.takeWriteRoute p = s.writeReply p result detail (s.route a).generation := by
  simp only [State.takeWriteRoute, named, h]

theorem State.takeWriteSettings_refused {s : State} {p : List Byte} {result : Result} {detail : Nat}
    (named : byteAt p 0 = 5 ∧ byteAt p 1 = 0) (h : s.judgeSettings p = some (result, detail)) :
    s.takeWriteSettings p = s.writeReply p result detail s.settingsGen := by
  simp only [State.takeWriteSettings, if_pos named, h]

theorem State.stagedFor_eq_none {s : State} {c : Fin 4} (h : ∀ staged, s.staging = some staged → staged.curve ≠ c) :
    s.stagedFor c = none := by
  unfold State.stagedFor
  split
  · rename_i t e
    rw [if_neg (h t e)]
  · rfl

theorem State.stagedFor_of_staging {s : State} {c : Fin 4} {t : Staging} (e : s.staging = some t) (h : t.curve = c) :
    s.stagedFor c = some t := by
  simp [State.stagedFor, e, h]

/-! ### A write that names no record (R161) -/

/-- An identifier and an index name no record of table `table` with `n` records. -/
theorem noRecord {id ix : Byte} {p : List Byte} {table n : Nat}
    (h : id.toNat = table → n ≤ ix.toNat) :
    (if byteAt (id :: ix :: p) 0 = table then indexOf n (byteAt (id :: ix :: p) 1) else none) = none := by
  rw [byteAt_zero, byteAt_one]
  split
  · exact indexOf_eq_none (h ‹_›)
  · rfl

theorem State.takeWriteGate_noRecord (s : State) {id ix : Byte} (p : List Byte) (h : id.toNat = 0 → 12 ≤ ix.toNat) :
    s.takeWriteGate (id :: ix :: p) = s.writeNoRecord (id :: ix :: p) := by
  rw [State.takeWriteGate, noRecord h]

theorem State.takeWriteFirstPart_noRecord (s : State) {id ix : Byte} (p : List Byte) (h : id.toNat = 1 → 4 ≤ ix.toNat) :
    s.takeWriteFirstPart (id :: ix :: p) = s.writeNoRecord (id :: ix :: p) := by
  rw [State.takeWriteFirstPart, noRecord h]

theorem State.takeWriteSecondPart_noRecord (s : State) {id ix : Byte} (p : List Byte) (h : id.toNat = 2 → 4 ≤ ix.toNat) :
    s.takeWriteSecondPart (id :: ix :: p) = s.writeNoRecord (id :: ix :: p) := by
  rw [State.takeWriteSecondPart, noRecord h]

theorem State.takeWriteGauge_noRecord (s : State) {id ix : Byte} (p : List Byte) (h : id.toNat = 3 → 4 ≤ ix.toNat) :
    s.takeWriteGauge (id :: ix :: p) = s.writeNoRecord (id :: ix :: p) := by
  rw [State.takeWriteGauge, noRecord h]

theorem State.takeWriteRoute_noRecord (s : State) {id ix : Byte} (p : List Byte) (h : id.toNat = 4 → 64 ≤ ix.toNat) :
    s.takeWriteRoute (id :: ix :: p) = s.writeNoRecord (id :: ix :: p) := by
  rw [State.takeWriteRoute, noRecord h]

theorem State.takeWriteSettings_noRecord (s : State) {id ix : Byte} (p : List Byte) (h : ix ≠ 0) :
    s.takeWriteSettings (id :: ix :: p) = s.writeNoRecord (id :: ix :: p) := by
  rw [State.takeWriteSettings, byteAt_one, if_neg fun both => h (BitVec.eq_of_toNat_eq both.2)]

/-- A write that names no record is answered INVALID with detail 0 and a free generation, and changes nothing else. -/
theorem State.HasRequest.takeWrite_noRecord {s : State} {id ix : Byte} {p : List Byte} {rest : List RxFrame}
    (h : s.HasRequest 0x21#8 (id :: ix :: p) rest) {row : StationRow} (owned : writeRow (id :: ix :: p) = some row)
    {handle : State → List Byte → State} (nothing : ∀ t : State, handle t (id :: ix :: p) = t.writeNoRecord (id :: ix :: p)) :
    s.takeStation row (fun s f => handle s f.frame.payload) =
      { s with freeCount := s.freeCount + 1, spRx := rest }.reply 0x21#8 .invalid 0
        ([id, ix] ++ be16 (Config.freeGeneration s.freeCount).toNat) := by
  rw [h.takeWrite owned handle, nothing, State.writeNoRecord, State.writeReply_cons]

/-- An identifier outside the six takes a row by its length, as a table of that length has it (R161). -/
theorem writeRow_of_unknown {id ix : Byte} {p : List Byte} {n : Nat} {row : StationRow} {named : Prop}
    (h : named ∨ 5 < id.toNat) (length : p.length = n) (table : named → p.length = n → writeRow (id :: ix :: p) = some row)
    (other : writeRowOfLength (n + 2) = some row) : writeRow (id :: ix :: p) = some row := by
  obtain here | unknown := h
  · exact table here length
  · rw [writeRow_unknown ix p unknown, length, other]

/-- Settles O52: each table's verdict is that of its checks in their order (`judges_gate` and its like), a refused write is
answered with it (`takeWriteGate_refused` and its like), and a write that names no record has none to judge. -/
theorem refusedWritesChangeNothing : Obligations.RefusedWritesChangeNothing := by
  intro s id ix p rest h
  obtain ⟨gateRow, firstRow, secondRow, gaugeRow, routeRow, settingsRow⟩ := writeRow_table id ix p
  have reply (t : State) := t.writeReply_cons id ix p
  simp only
  refine ⟨?_, ?_, ?_, ?_, ?_, ?_, ?_, ?_, ?_, ?_, ?_, ?_⟩
  · rintro g rfl rfl length
    simp only [← Motion.holdsSlot_iff]
    refine (judges_gate s g 0 (byte g.val) p).refuses fun result detail refused => ?_
    have taken := h.takeWrite (gateRow rfl length) State.takeWriteGate
    have answered := State.takeWriteGate_refused (s := { s with spRx := rest }) (namesRecord g p rfl (by decide)) refused
    exact congrArg Host.Outcome.next (taken.trans (answered.trans (reply _ _ _ _)))
  · rintro c rfl rfl length
    refine (judges_firstPart s c 1 (byte c.val) p).refuses fun result detail refused => ?_
    have taken := h.takeWrite (firstRow rfl length) State.takeWriteFirstPart
    have answered := State.takeWriteFirstPart_refused (s := { s with spRx := rest }) (namesRecord c p rfl (by decide)) refused
    exact congrArg Host.Outcome.next (taken.trans (answered.trans (reply _ _ _ _)))
  · rintro c rfl rfl length
    have taken := h.takeWrite (secondRow rfl length) State.takeWriteSecondPart
    refine ⟨fun unstaged => ?_, fun t staged here => ?_⟩
    · have answered := State.takeWriteSecondPart_unstaged (s := { s with spRx := rest })
        (namesRecord (id := 2) c p rfl (by decide)) (State.stagedFor_eq_none unstaged)
      exact congrArg Host.Outcome.next (taken.trans (answered.trans (reply _ _ _ _)))
    · refine (judges_secondPart s c t 2 (byte c.val) p).refuses fun result detail refused => ?_
      have answered := State.takeWriteSecondPart_refused (s := { s with spRx := rest })
        (namesRecord c p rfl (by decide)) (State.stagedFor_of_staging staged here) refused
      exact congrArg Host.Outcome.next (taken.trans (answered.trans (reply _ _ _ _)))
  · rintro n rfl rfl length
    refine (judges_gauge s n 3 (byte n.val) p).refuses fun result detail refused => ?_
    have taken := h.takeWrite (gaugeRow rfl length) State.takeWriteGauge
    have answered := State.takeWriteGauge_refused (s := { s with spRx := rest }) (namesRecord n p rfl (by decide)) refused
    exact congrArg Host.Outcome.next (taken.trans (answered.trans (reply _ _ _ _)))
  · rintro a rfl rfl length
    refine (judges_route s a 4 (byte a.val) p).refuses fun result detail refused => ?_
    have taken := h.takeWrite (routeRow rfl length) State.takeWriteRoute
    have answered := State.takeWriteRoute_refused (s := { s with spRx := rest }) (namesRecord a p rfl (by decide)) refused
    exact congrArg Host.Outcome.next (taken.trans (answered.trans (reply _ _ _ _)))
  · rintro rfl rfl length
    refine (judges_settings s 5 0 p).refuses fun result detail refused => ?_
    have taken := h.takeWrite (settingsRow rfl length) State.takeWriteSettings
    have answered := State.takeWriteSettings_refused (s := { s with spRx := rest }) ⟨rfl, rfl⟩ refused
    exact congrArg Host.Outcome.next (taken.trans (answered.trans (reply _ _ _ _)))
  · intro wrong length
    refine congrArg Host.Outcome.next (h.takeWrite_noRecord (handle := State.takeWriteGate)
      (writeRow_of_unknown wrong length (fun here => gateRow here.1) rfl) fun t => ?_)
    exact t.takeWriteGate_noRecord p fun _ => by omega
  · intro wrong length
    refine congrArg Host.Outcome.next (h.takeWrite_noRecord (handle := State.takeWriteFirstPart)
      (writeRow_of_unknown wrong length (fun here => firstRow here.1) rfl) fun t => ?_)
    exact t.takeWriteFirstPart_noRecord p fun _ => by omega
  · intro wrong length
    refine congrArg Host.Outcome.next (h.takeWrite_noRecord (handle := State.takeWriteSecondPart)
      (writeRow_of_unknown wrong length (fun here => secondRow here.1) rfl) fun t => ?_)
    exact t.takeWriteSecondPart_noRecord p fun _ => by omega
  · intro wrong length
    refine congrArg Host.Outcome.next (h.takeWrite_noRecord (handle := State.takeWriteGauge)
      (writeRow_of_unknown wrong length (fun here => gaugeRow here.1) rfl) fun t => ?_)
    exact t.takeWriteGauge_noRecord p fun _ => by omega
  · intro wrong length
    refine congrArg Host.Outcome.next (h.takeWrite_noRecord (handle := State.takeWriteRoute)
      (writeRow_of_unknown wrong length (fun here => routeRow here.1) rfl) fun t => ?_)
    exact t.takeWriteRoute_noRecord p fun _ => by omega
  · intro named wrong length
    refine congrArg Host.Outcome.next (h.takeWrite_noRecord (handle := State.takeWriteSettings)
      (settingsRow named length) fun t => ?_)
    exact t.takeWriteSettings_noRecord p wrong

end Sys2Proof.Machine

/-! ## What an evaluation and the neighbours' checks can do to one gate -/

namespace Sys2Proof.Machine

/-! ### Changes about one gate -/

/-- No HOLD_CLEARED notice is posted from `s` to `t` (R78). -/
def State.ClearsNone (s t : State) : Prop :=
  ∀ n ∈ t.notices, n ∈ s.notices ∨ ∀ h b, n.notice ≠ .holdCleared h b

theorem State.ClearsNone.of_eq {s t : State} (e : t.notices = s.notices) : s.ClearsNone t := fun _ hn => .inl (e ▸ hn)

theorem State.ClearsNone.trans {s t u : State} (h : s.ClearsNone t) (k : t.ClearsNone u) : s.ClearsNone u := by
  intro n hn
  obtain old | new := k n hn
  · exact h n old
  · exact .inr new

theorem State.clearsNone_post (s : State) {n : Notice} (h : ∀ g b, n ≠ .holdCleared g b) : s.ClearsNone (s.post n) := by
  intro m hm
  unfold State.post at hm
  split at hm
  · obtain old | rfl := List.mem_append.mp hm |>.imp id List.mem_singleton.mp
    · exact .inl old
    · exact .inr h
  · exact .inl hm

/-- From `s` to `t` no gate but `h` has changed, nor the pending list, and no hold is said to be cleared. -/
structure State.Beside (h : GateId) (s t : State) : Prop where
  gate : ∀ k, k ≠ h → t.gate k = s.gate k
  waiting : t.waiting = s.waiting
  clears : s.ClearsNone t

section
variable {h : GateId}

theorem State.Beside.refl (s : State) : s.Beside h s := ⟨fun _ _ => rfl, rfl, .of_eq rfl⟩

theorem State.Beside.trans {s t u : State} (a : s.Beside h t) (b : t.Beside h u) : s.Beside h u :=
  ⟨fun k ne => (b.gate k ne).trans (a.gate k ne), b.waiting.trans a.waiting, a.clears.trans b.clears⟩

theorem State.beside_setMotion (s : State) (m : Motion) : s.Beside h (s.setMotion h m) :=
  ⟨fun _ ne => s.setMotion_gate_ne m ne, by simp, .of_eq (by simp)⟩

theorem State.beside_post (s : State) {n : Notice} (tame : ∀ g b, n ≠ .holdCleared g b) : s.Beside h (s.post n) :=
  ⟨by simp, by simp, s.clearsNone_post tame⟩

theorem State.beside_forHoist (s : State) (g : GateId) (side : Side) {send : State → LinkAddr → State}
    (sent : ∀ (t : State) a, t.Beside h (send t a)) : s.Beside h (s.forHoist g side send) := by
  unfold State.forHoist
  split
  · exact sent _ _
  · exact .refl s

theorem State.beside_haltGate (s : State) (g : GateId) : s.Beside h (s.haltGate g) := by
  have halt (t : State) (a : LinkAddr) : t.Beside h (t.pushHalt a) := ⟨by simp, by simp, .of_eq (by simp)⟩
  exact (s.beside_forHoist g .left halt).trans (State.beside_forHoist _ g .right halt)

theorem State.beside_runGate (s : State) (g : GateId) (target speed : Nat) : s.Beside h (s.runGate g target speed) := by
  have run (t : State) (a : LinkAddr) (raw : Nat) : t.Beside h (t.pushRun a raw speed) :=
    ⟨by simp, by simp, .of_eq (by simp)⟩
  exact (s.beside_forHoist g .left fun t a => run t a _).trans (State.beside_forHoist _ g .right fun t a => run t a _)

theorem State.beside_resumePaused (s : State) (g : GateId) (l : Leg) : s.Beside h (s.resumePaused g l) := by
  unfold State.resumePaused
  split
  · exact s.beside_forHoist g _ fun t a => ⟨by simp, by simp, .of_eq (by simp)⟩
  · exact .refl s

theorem State.beside_weigh (s : State) (g : GateId) (r : Request) : s.Beside h (s.weigh g r).2.2 := by
  unfold State.weigh
  simp only
  split
  · split
    · exact .refl s
    · exact s.beside_post fun _ _ => Notice.noConfusion
  · exact .refl s

theorem State.beside_enterStopping (s : State) (next : NextStep) (l : Leg) : s.Beside h (s.enterStopping h next l) :=
  (s.beside_haltGate h).trans (State.beside_setMotion _ _)

theorem State.beside_startLeg (s : State) (r : Request) (p : Plan) (stamp : Nat) : s.Beside h (s.startLeg h r p stamp) :=
  (s.beside_runGate h p.target p.speed).trans (State.beside_setMotion _ _)

theorem State.beside_goOn (s : State) (r : Request) (l : Leg) (window : Option Nat) (p : Plan) :
    s.Beside h (s.goOn h r l window p) := by
  have ordered := (s.beside_resumePaused (h := h) h l).trans (State.beside_runGate _ h p.target p.speed)
  unfold State.goOn
  simp only
  split <;> exact ordered.trans (State.beside_setMotion _ _)

theorem State.beside_retargetMoving (s : State) (r : Request) (l : Leg) (window : Option Nat) :
    s.Beside h (s.retargetMoving h r l window) := by
  have weighed := s.beside_weigh (h := h) h r
  unfold State.retargetMoving
  simp only
  split
  · exact weighed.trans (State.beside_enterStopping _ _ _)
  · exact weighed.trans (State.beside_enterStopping _ _ _)
  · exact weighed.trans (State.beside_setMotion _ _)
  · split
    · split
      · exact weighed.trans (State.beside_setMotion _ _)
      · exact weighed.trans (State.beside_goOn _ _ _ _ _)
    · exact weighed.trans (State.beside_enterStopping _ _ _)

theorem State.beside_retarget (s : State) : s.Beside h (s.retarget h) := by
  unfold State.retarget
  split
  · exact s.beside_retargetMoving _ _ _
  · exact s.beside_retargetMoving _ _ _
  · exact .refl s

end

theorem State.ne_of_linkingToward {s : State} {g h : GateId} (linked : h ∈ s.linkingToward g) : h ≠ g := by
  simp only [State.linkingToward, List.mem_append, List.mem_filter, Option.mem_toList] at linked
  rintro rfl
  obtain ⟨next, -⟩ | ⟨next, -⟩ := linked
  · simp only [leftOf, Option.ite_none_left_eq_some, Option.some.injEq, Fin.ext_iff] at next
    omega
  · simp only [rightOf, Option.dite_none_right_eq_some, Option.some.injEq, Fin.ext_iff] at next
    omega

/-- The event of a gate leaves the gate itself and the pending list as they are (R15). -/
theorem State.tellNeighbours_spares (s : State) (g : GateId) :
    (s.tellNeighbours g).gate g = s.gate g ∧ (s.tellNeighbours g).waiting = s.waiting ∧
      s.ClearsNone (s.tellNeighbours g) := by
  have apart : ∀ h ∈ s.linkingToward g, h ≠ g := fun _ => State.ne_of_linkingToward
  unfold State.tellNeighbours State.sweep
  generalize s.linkingToward g = hs at apart
  induction hs generalizing s with
  | nil => exact ⟨rfl, rfl, .of_eq rfl⟩
  | cons h hs ih =>
    obtain ⟨gate, waiting, clears⟩ := ih (s.retarget h) fun k hk => apart k (List.mem_cons_of_mem h hk)
    have own := s.beside_retarget (h := h)
    have ne : g ≠ h := (apart h List.mem_cons_self).symm
    exact ⟨gate.trans (own.gate g ne), waiting.trans own.waiting, own.clears.trans clears⟩

/-! ### What an evaluation can make of a gate -/

/-- The gate is out of service or held, and no evaluation is about it. -/
def Motion.stands : Motion → Prop
  | .outOfService _ => True
  | .hold _ _ => True
  | _ => False

/-- The gate has a target to go to that its opening does not satisfy: a request for it, or a hold that keeps it. -/
def Gate.Wants (x : Gate) (k : Target) : Prop :=
  (∀ o, x.opening = some o → x.record.arriveTol < distance k.target o) ∧
    ((∃ r, x.motion.request = some r ∧ r.toTarget = k) ∨ ∃ h, x.motion = .hold h (some k))

/-- What an evaluation may make of a gate: one that stands stays as it is, one that stops keeps all but its stamp, and a
target that is not satisfied is kept. -/
structure Gate.Drifts (x y : Gate) : Prop where
  standing : x.motion.stands → y = x
  stopping : ∀ n l w, x.motion = .stopping n l w → ∃ stamp, y.motion = .stopping n { l with stamp := stamp } w
  wanting : ∀ k, x.Wants k → y.Wants k

theorem Gate.Drifts.refl (x : Gate) : x.Drifts x := ⟨fun _ => rfl, fun _ l _ e => ⟨l.stamp, e⟩, fun _ h => h⟩

theorem Gate.Drifts.trans {x y z : Gate} (h : x.Drifts y) (k : y.Drifts z) : x.Drifts z where
  standing st := by
    obtain rfl := h.standing st
    exact k.standing st
  stopping n l w e := by
    obtain ⟨stamp, e⟩ := h.stopping n l w e
    exact k.stopping n { l with stamp := stamp } w e
  wanting t want := k.wanting t (h.wanting t want)

theorem Gate.drifts_of_idle {x : Gate} (idle : x.motion = .idle) (y : Gate) : x.Drifts y where
  standing st := by rw [idle] at st; exact st.elim
  stopping n l w e := by rw [idle] at e; cases e
  wanting k want := by simp [Gate.Wants, idle, Motion.request] at want

/-- A request that its opening satisfies may end. -/
theorem Gate.drifts_of_satisfied {x : Gate} {r : Request} {o : Nat} (pending : x.motion = .pending r)
    (opening : x.opening = some o) (near : distance r.target o ≤ x.record.arriveTol) (y : Gate) : x.Drifts y where
  standing st := by rw [pending] at st; exact st.elim
  stopping n l w e := by rw [pending] at e; cases e
  wanting k want := by
    obtain ⟨far, ⟨q, e, rfl⟩ | ⟨h, e⟩⟩ := want
    · rw [pending] at e
      cases e
      have := far o opening
      simp only [Request.toTarget] at this
      omega
    · rw [pending] at e; cases e

/-- A request may be marked, granted, sent back, or kept by a hold, with its target and level. -/
theorem Gate.drifts_of_request {x : Gate} {r : Request} (request : x.motion.request = some r)
    (moving : ∀ n l w, x.motion ≠ .stopping n l w) {m : Motion}
    (kept : (∃ q, m.request = some q ∧ q.toTarget = r.toTarget) ∨ ∃ h, m = .hold h (some r.toTarget)) :
    x.Drifts { x with motion := m } where
  standing st := by
    cases e : x.motion with
    | outOfService | hold => rw [e] at request; cases request
    | _ => rw [e] at st; exact st.elim
  stopping n l w e := absurd e (moving n l w)
  wanting k want := by
    obtain ⟨far, ⟨q, e, rfl⟩ | ⟨h, e⟩⟩ := want
    · rw [request] at e
      cases e
      exact ⟨far, kept⟩
    · rw [e] at request; cases request

theorem Gate.drifts_restamped (x : Gate) (f : Nat → Nat) : x.Drifts { x with motion := x.motion.restamped f } where
  standing st := by
    have same : x.motion.restamped f = x.motion := by
      cases e : x.motion with
      | outOfService | hold => rfl
      | _ => rw [e] at st; exact st.elim
    rw [same]
  stopping n l w e := ⟨f l.stamp, by simp [e, Motion.restamped]⟩
  wanting k want := by
    obtain ⟨far, ⟨q, e, rfl⟩ | ⟨h, e⟩⟩ := want
    · exact ⟨far, .inl ⟨q, by rw [Motion.restamped_request, e], rfl⟩⟩
    · exact ⟨far, .inr ⟨h, by simp [e, Motion.restamped]⟩⟩

/-- From `s` to `t` a gate drifts; one that stands does not join the pending list; no hold is said to be cleared. -/
structure State.Passes (g : GateId) (s t : State) : Prop where
  gate : (s.gate g).Drifts (t.gate g)
  waiting : (s.gate g).motion.stands → g ∉ s.waiting → g ∉ t.waiting
  clears : s.ClearsNone t

section
variable {g : GateId}

theorem State.Passes.refl (s : State) : s.Passes g s := ⟨.refl _, fun _ out => out, .of_eq rfl⟩

theorem State.Passes.trans {s t u : State} (h : s.Passes g t) (k : t.Passes g u) : s.Passes g u where
  gate := h.gate.trans k.gate
  waiting st out := k.waiting ((h.gate.standing st).symm ▸ st) (h.waiting st out)
  clears := h.clears.trans k.clears

/-- A change of gate `h` that leaves the pending list is judged by what gate `g` makes of it when it is `h`. -/
theorem State.Beside.passes {s t : State} {h : GateId} (k : s.Beside h t)
    (own : h = g → (s.gate g).Drifts (t.gate g)) : s.Passes g t where
  gate := by
    by_cases e : h = g
    · exact own e
    · rw [k.gate g (Ne.symm e)]
      exact .refl _
  waiting _ out := by rwa [k.waiting]
  clears := k.clears

/-- A change of the Arbiter's counts, and of no gate. -/
theorem State.passes_counts (s : State) (slots grants : Nat) {waiting : List GateId} (due : Bool)
    (fewer : ∀ h ∈ waiting, h ∈ s.waiting) :
    s.Passes g { s with slotsInUse := slots, grantCounter := grants, waiting := waiting, evalDue := due } :=
  ⟨.refl _, fun _ out joined => out (fewer g joined), .of_eq rfl⟩

theorem State.passes_post (s : State) {n : Notice} (tame : ∀ h b, n ≠ .holdCleared h b) : s.Passes g (s.post n) :=
  (s.beside_post (h := g) tame).passes fun _ => by
    rw [s.post_gate]
    exact .refl _

theorem State.passes_weigh (s : State) (h : GateId) (r : Request) : s.Passes g (s.weigh h r).2.2 :=
  (s.beside_weigh (h := h) h r).passes fun _ => by
    rw [s.weigh_gate]
    exact .refl _

/-- A gate with a request takes another motion with the same target. -/
theorem State.passes_setMotion (s : State) {h : GateId} {r : Request} {m : Motion}
    (request : (s.gate h).motion.request = some r) (moving : ∀ n l w, (s.gate h).motion ≠ .stopping n l w)
    (kept : (∃ q, m.request = some q ∧ q.toTarget = r.toTarget) ∨ ∃ d, m = .hold d (some r.toTarget)) :
    s.Passes g (s.setMotion h m) :=
  (s.beside_setMotion m).passes fun e => by
    subst e
    rw [State.setMotion_gate_self]
    exact Gate.drifts_of_request request moving kept

theorem State.passes_sweep (s : State) (hs : List GateId) {act : State → GateId → State}
    (one : ∀ (t : State) h, t.Passes g (act t h)) : s.Passes g (s.sweep hs act) := by
  unfold State.sweep
  induction hs generalizing s with
  | nil => exact .refl s
  | cons h hs ih => exact (one s h).trans (ih _)

/-! ### Marking and grants -/

theorem Settings.mark_toTarget (k : Settings) (r : Request) : (k.mark r).toTarget = r.toTarget := by
  unfold Settings.mark
  split
  · rfl
  · split <;> rfl

theorem State.passes_markMasked (s : State) : s.Passes g s.markMasked := by
  refine s.passes_sweep _ fun t h => ?_
  unfold State.markOne
  split
  · rename_i r e
    exact t.passes_setMotion (r := r) (by rw [e]; rfl) (by simp [e]) (.inl ⟨_, rfl, t.settings.mark_toTarget r⟩)
  · exact .refl t

theorem State.passes_restamp (s : State) (h : GateId) (f : Nat → Nat) :
    s.Passes g (s.setMotion h ((s.gate h).motion.restamped f)) :=
  (s.beside_setMotion _).passes fun e => by
    subst e
    rw [State.setMotion_gate_self]
    exact Gate.drifts_restamped _ f

/-- The stamps replaced at every gate. -/
def State.restampAll (s : State) (f : Nat → Nat) : State :=
  s.sweep allGates fun t h => t.setMotion h ((t.gate h).motion.restamped f)

theorem State.renumber_eq (s : State) : s.renumber =
    { s.restampAll fun x => (s.heldStamps.filter fun y => y < x).length + 1 with
      grantCounter := s.heldStamps.length } := rfl

theorem State.passes_restampAll (s : State) (f : Nat → Nat) : s.Passes g (s.restampAll f) :=
  s.passes_sweep allGates fun t h => t.passes_restamp h f

theorem State.Passes.grants {s t : State} (h : s.Passes g t) (grants : Nat) :
    s.Passes g { t with grantCounter := grants } := ⟨h.gate, h.waiting, h.clears⟩

theorem State.passes_renumber (s : State) : s.Passes g s.renumber := by
  rw [State.renumber_eq]
  exact (s.passes_restampAll _).grants _

theorem State.passes_readyCounter (s : State) : s.Passes g s.readyCounter := by
  unfold State.readyCounter
  split
  · exact .refl s
  · exact s.passes_renumber

theorem State.grants_gate (s : State) (grants : Nat) (h : GateId) :
    { s with grantCounter := grants }.gate h = s.gate h := rfl

theorem State.restampAll_pending {s : State} (f : Nat → Nat) {h : GateId} {r : Request}
    (e : (s.gate h).motion = .pending r) : ((s.restampAll f).gate h).motion = .pending r := by
  unfold State.restampAll State.sweep
  induction allGates generalizing s with
  | nil => exact e
  | cons k hs ih =>
    refine ih ?_
    rw [State.setMotion_gate]
    split
    · rename_i same
      subst same
      simp [e, Motion.restamped]
    · exact e

theorem State.readyCounter_pending {s : State} {h : GateId} {r : Request} (e : (s.gate h).motion = .pending r) :
    (s.readyCounter.gate h).motion = .pending r := by
  unfold State.readyCounter
  split
  · exact e
  · rw [State.renumber_eq, State.grants_gate]
    exact State.restampAll_pending _ e

/-- A hoist that is stale holds a moving gate, and the second one adds nothing (R74, R75). -/
theorem State.passes_faultIfStale (s : State) {h : GateId} {r : Request} {l : Leg} {w : Nat}
    (e : (s.gate h).motion = .starting r l w) : s.Passes g (s.faultIfStale h) := by
  have halted (t : State) (moving : (t.gate h).motion = .starting r l w) :
      t.Passes g (t.fault h .stale) ∧
        ((t.fault h .stale).gate h).motion = .hold { primary := .stale, further := [] } (some r.toTarget) := by
    simp only [State.fault, moving]
    refine ⟨?_, by simp [State.releaseSlot, State.makeHold]⟩
    have stopped : t.Passes g (t.haltGate h) := (t.beside_haltGate (h := h) h).passes fun _ => by
      rw [State.haltGate_gate]
      exact .refl _
    have same : ((t.haltGate h).gate h).motion = .starting r l w := by rw [State.haltGate_gate, moving]
    have held := State.passes_setMotion (g := g) (t.haltGate h) (h := h) (r := r) (by rw [same]; rfl)
      (by rw [same]; exact fun _ _ _ => Motion.noConfusion) (.inr ⟨{ primary := .stale, further := [] }, rfl⟩)
    exact ((stopped.trans held).trans (State.passes_post _ fun _ _ => Notice.noConfusion)).trans
      (State.passes_counts _ _ _ _ fun _ out => out)
  have again (t : State) (held : (t.gate h).motion = .hold { primary := .stale, further := [] } (some r.toTarget)) :
      t.Passes g (t.fault h .stale) := by
    simp only [State.fault, held]
    refine (t.beside_setMotion _).passes fun same => ?_
    subst same
    rw [State.setMotion_gate_self]
    have noMore : Motion.hold (Hold.withReason { primary := .stale, further := [] } .stale) (some r.toTarget) =
        (t.gate h).motion := by rw [held]; rfl
    rw [noMore]
    exact .refl _
  unfold State.faultIfStale
  simp only
  split
  · obtain ⟨first, held⟩ := halted s e
    split
    · exact first.trans (again _ held)
    · exact first
  · split
    · exact (halted s e).1
    · exact .refl s

theorem State.passes_grant (s : State) {h : GateId} {r q : Request} {p : Plan}
    (e : (s.gate h).motion = .pending r) (same : q.toTarget = r.toTarget) : s.Passes g (s.grant h q p) := by
  have ready := s.passes_readyCounter (g := g)
  have pending := State.readyCounter_pending e
  set t : State := { s.readyCounter with
    waiting := s.readyCounter.waiting.filter fun k => k ≠ h
    slotsInUse := s.readyCounter.slotsInUse + 1
    grantCounter := s.readyCounter.grantCounter + 1 } with ht
  have counted : s.readyCounter.Passes g t := State.passes_counts _ _ _ _ fun k hk => List.mem_of_mem_filter hk
  have started : t.Passes g (t.startLeg h q p t.grantCounter) := by
    refine (t.beside_startLeg q p _).passes fun own => ?_
    subst own
    have moved : (t.startLeg h q p t.grantCounter).gate h =
        { t.gate h with motion := .starting q (p.leg t.grantCounter) (t.record h).ackWindow } := by
      simp [State.startLeg, State.record]
    rw [moved]
    exact Gate.drifts_of_request (r := r) (by rw [show (t.gate h).motion = _ from pending]; rfl)
      (by simp [show (t.gate h).motion = _ from pending]) (.inl ⟨q, rfl, same⟩)
  have starting : ((t.startLeg h q p t.grantCounter).gate h).motion =
      .starting q (p.leg t.grantCounter) (t.record h).ackWindow := by simp [State.startLeg, State.record]
  exact ((ready.trans counted).trans started).trans (State.passes_faultIfStale _ starting)

/-! ### The walk and the preemption test -/

theorem State.passes_excursionCheck (s : State) (h : GateId) : s.Passes g (s.excursionCheck h) := by
  unfold State.excursionCheck
  split
  · rename_i idle
    have mark (t : State) (b : Bool) (same : t.gate h = s.gate h) : t.Passes g (t.setExcursion h b) := by
      refine ⟨?_, fun _ out => by simpa using out, .of_eq (by simp)⟩
      by_cases e : g = h
      · subst e
        exact Gate.drifts_of_idle (by rw [same, idle]) _
      · rw [State.setExcursion_gate, if_neg e]
        exact .refl _
    split
    · exact mark s false rfl
    · unfold State.actOnExcursion
      split
      · refine ⟨?_, fun st out => ?_, .of_eq (by simp [State.joinTail])⟩
        · by_cases e : g = h
          · subst e
            exact Gate.drifts_of_idle idle _
          · rw [State.joinTail_gate, State.setMotion_gate_ne _ _ e]
            exact .refl _
        · have ne : g ≠ h := by
            rintro rfl
            rw [idle] at st
            exact st.elim
          simp [out, ne]
      · split
        · exact .refl s
        · exact (s.passes_post fun _ _ => Notice.noConfusion).trans (mark _ true (by simp))
  · exact .refl s

/-- A satisfied request ends, and what follows is about its own gate (R89). -/
theorem State.passes_completePending (s : State) {h : GateId} {r : Request} {o : Nat}
    (pending : (s.gate h).motion = .pending r) (opening : (s.gate h).opening = some o)
    (near : distance r.target o ≤ (s.record h).arriveTol) : s.Passes g (s.completePending h) := by
  have left : s.Passes g (s.leaveList h .idle) := by
    refine ⟨?_, fun _ out joined => out (List.mem_of_mem_filter joined), .of_eq (by simp [State.leaveList])⟩
    by_cases e : g = h
    · subst e
      exact Gate.drifts_of_satisfied pending opening near _
    · rw [State.leaveList_gate, State.setMotion_gate_ne _ _ e]
      exact .refl _
  have arrived : (s.leaveList h .idle).Passes g ((s.leaveList h .idle).postArrived h) := by
    unfold State.postArrived
    split
    · exact State.passes_post _ fun _ _ => Notice.noConfusion
    · exact .refl _
  exact (left.trans arrived).trans (State.passes_excursionCheck _ _)

/-- A decision is satisfied only at an opening within arrive_tol (R48). -/
theorem State.decideFor_satisfied {s : State} {h : GateId} {target : Nat}
    (e : (s.decideFor h target).decision = .satisfied) :
    ∃ o, (s.gate h).opening = some o ∧ distance target o ≤ (s.record h).arriveTol := by
  unfold State.decideFor at e
  split at e
  · cases e
  · rename_i o opening
    refine ⟨o, opening, ?_⟩
    unfold State.decideAt at e
    simp only at e
    split at e
    · assumption
    · split at e <;> cases e

/-- The weighing of a pending request, as the walk and the preemption test make it. -/
theorem State.passes_weighed (s : State) {h : GateId} {r : Request} (pending : (s.gate h).motion = .pending r) :
    s.Passes g ((s.weigh h r).2.2.setMotion h (.pending (s.weigh h r).2.1)) ∧
      (∀ p, s.Passes g ((s.weigh h r).2.2.grant h (s.weigh h r).2.1 p)) ∧
      ((s.weigh h r).1 = .satisfied → s.Passes g ((s.weigh h r).2.2.completePending h)) := by
  have weighed := s.passes_weigh (g := g) h r
  have still : ((s.weigh h r).2.2.gate h).motion = .pending r := by rw [s.weigh_gate, pending]
  have same := s.weigh_toTarget h r
  refine ⟨weighed.trans (State.passes_setMotion _ (r := r) (by rw [still]; rfl)
    (by rw [still]; exact fun _ _ _ => Motion.noConfusion) (.inl ⟨_, rfl, same⟩)), fun p => weighed.trans (State.passes_grant _ still same), fun satisfied => ?_⟩
  rw [s.weigh_decision] at satisfied
  obtain ⟨o, opening, near⟩ := State.decideFor_satisfied satisfied
  refine weighed.trans (State.passes_completePending _ still (o := o) ?_ ?_)
  · rw [s.weigh_gate, opening]
  · rwa [State.record, s.weigh_gate]

theorem State.passes_weighInWalk (s : State) (h : GateId) : s.Passes g (s.weighInWalk h) := by
  unfold State.weighInWalk
  split
  · rename_i r pending
    obtain ⟨left, granted, completed⟩ := s.passes_weighed (g := g) pending
    split <;> rename_i e <;> rw [e] at left granted completed
    · exact granted _
    · exact completed rfl
    · exact left
  · exact .refl s

theorem State.passes_walk (s : State) (hs : List GateId) : s.Passes g (s.walk hs).1 := by
  induction hs generalizing s with
  | nil => exact .refl s
  | cons h hs ih =>
    unfold State.walk
    split
    · exact (s.passes_weighInWalk h).trans (ih _)
    · exact .refl s

theorem State.passes_weighForPreemption (s : State) (h : GateId) : s.Passes g (s.weighForPreemption h).1 := by
  unfold State.weighForPreemption
  split
  · rename_i r pending
    obtain ⟨left, granted, completed⟩ := s.passes_weighed (g := g) pending
    split <;> rename_i e <;> rw [e] at left granted completed
    · exact left
    · exact completed rfl
    · exact left
  · exact .refl s

theorem State.passes_movable (s : State) (hs : List GateId) : s.Passes g (s.movable hs).1 := by
  induction hs generalizing s with
  | nil => exact .refl s
  | cons h hs ih => exact (s.passes_weighForPreemption h).trans (ih _)

theorem State.passes_preempt (s : State) (v b : GateId) : s.Passes g (s.preempt v b) := by
  have stop (r : Request) (l : Leg) (request : (s.gate v).motion.request = some r)
      (moving : ∀ n l w, (s.gate v).motion ≠ .stopping n l w) : s.Passes g (s.enterStopping v (.requeue r) l) := by
    refine (s.beside_enterStopping (h := v) _ _).passes fun own => ?_
    subst own
    simp only [State.enterStopping, State.setMotion_gate_self, State.haltGate_gate]
    exact Gate.drifts_of_request request moving (.inl ⟨r, rfl, rfl⟩)
  unfold State.preempt
  simp only
  refine State.Passes.trans ?_ (State.passes_post _ fun _ _ => Notice.noConfusion)
  split
  · rename_i e
    exact stop _ _ (by rw [e]; rfl) (by rw [e]; exact fun _ _ _ => Motion.noConfusion)
  · rename_i e
    exact stop _ _ (by rw [e]; rfl) (by rw [e]; exact fun _ _ _ => Motion.noConfusion)
  · exact .refl s

theorem State.passes_preemptFor (s : State) (bs : List GateId) : s.Passes g (s.preemptFor bs) := by
  induction bs generalizing s with
  | nil => exact .refl s
  | cons b bs ih =>
    unfold State.preemptFor
    split
    · exact .refl s
    · exact (s.passes_preempt _ _).trans (ih _)

/-! ### Evaluations -/

theorem State.passes_evaluate (s : State) : s.Passes g s.evaluate := by
  have marked : s.Passes g { s with evalDue := false }.markMasked :=
    (s.passes_counts s.slotsInUse s.grantCounter false fun _ h => h).trans (State.passes_markMasked _)
  unfold State.evaluate
  simp only
  split
  · exact marked
  · have walked := marked.trans (State.passes_walk _ { s with evalDue := false }.markMasked.walkOrder)
    split
    · exact walked
    · exact walked.trans ((State.passes_movable _ _).trans (State.passes_preemptFor _ _))

theorem State.passes_evaluateDue (n : Nat) (s : State) : s.Passes g (State.evaluateDue n s) := by
  induction n generalizing s with
  | zero => exact s.passes_counts s.slotsInUse s.grantCounter false fun _ h => h
  | succ n ih =>
    unfold State.evaluateDue
    split
    · exact s.passes_evaluate.trans (ih _)
    · exact .refl s

theorem State.passes_evaluateNow (s : State) : s.Passes g s.evaluateNow := by
  have owed : s.Passes g s.owe := s.passes_counts s.slotsInUse s.grantCounter true fun _ h => h
  have settled : s.owe.Passes g s.owe.settle := State.passes_evaluateDue _ _
  exact owed.trans settled

theorem State.passes_tellNeighbours (s : State) : s.Passes g (s.tellNeighbours g) := by
  obtain ⟨gate, waiting, clears⟩ := s.tellNeighbours_spares g
  refine ⟨?_, fun _ out => by rwa [waiting], clears⟩
  rw [gate]
  exact .refl _

end

/-- Where nothing waits, an evaluation finds nothing to do. -/
theorem State.evaluate_of_waiting_nil {s : State} (empty : s.waiting = []) : s.evaluate = { s with evalDue := false } := by
  have unmarked : { s with evalDue := false }.markMasked = { s with evalDue := false } := by
    simp [State.markMasked, State.sweep, empty]
  have order : { s with evalDue := false }.walkOrder = [] := by simp [State.walkOrder, empty]
  simp [State.evaluate, unmarked, order, State.walk, State.preemptionTest, State.movable, State.preemptFor]

theorem State.evaluateDue_gate_of_waiting_nil (n : Nat) {s : State} (empty : s.waiting = []) (g : GateId) :
    (State.evaluateDue n s).gate g = s.gate g := by
  induction n generalizing s with
  | zero => rfl
  | succ n ih =>
    unfold State.evaluateDue
    split
    · rw [State.evaluate_of_waiting_nil empty, ih (s := { s with evalDue := false }) empty]
      rfl
    · rfl

theorem State.evaluateNow_gate_of_waiting_nil {s : State} (empty : s.waiting = []) (g : GateId) :
    s.evaluateNow.gate g = s.gate g := by
  have settled : s.owe.settle.gate g = s.owe.gate g := State.evaluateDue_gate_of_waiting_nil _ (s := s.owe) empty g
  exact settled

end Sys2Proof.Machine

/-! ## An accepted gate record write, stage by stage (R167) -/

namespace Sys2Proof.Machine

/-! ### What a chain of motion changes keeps -/

theorem State.Reach.haltQueue {s t : State} (h : s.Reach t) {a : LinkAddr} (waits : a ∈ s.haltQueue) : a ∈ t.haltQueue := by
  induction h with
  | refl => exact waits
  | pushHalt b _ ih =>
    rw [State.pushHalt_haltQueue]
    split
    · exact ih
    · exact List.mem_append_left _ ih
  | pushPause b _ ih => rw [State.pushPause_eq]; exact ih
  | pushResume b _ ih => rw [State.pushResume_eq]; exact ih
  | _ => simpa using ‹_ ∈ _›

theorem State.Reach.notices {s t : State} (h : s.Reach t) {n : PostedNotice} (posted : n ∈ s.notices) : n ∈ t.notices := by
  induction h with
  | refl => exact posted
  | post m _ ih =>
    unfold State.post
    split
    · exact List.mem_append_left _ ih
    · exact ih
  | pushPause b _ ih => rw [State.pushPause_eq]; exact ih
  | pushResume b _ ih => rw [State.pushResume_eq]; exact ih
  | _ => simpa using ‹_ ∈ _›

/-- FAULT_N keeps showing the holds (R79). -/
theorem State.Reach.faultN {s t : State} (h : s.Reach t) (shown : s.faultN = holdPresent s.gates) :
    t.faultN = holdPresent t.gates := by
  induction h with
  | refl => exact shown
  | setMotion g m _ _ _ _ => rfl
  | setExcursion g b _ _ => rfl
  | pushPause b _ ih => rw [State.pushPause_eq]; exact ih
  | pushResume b _ ih => rw [State.pushResume_eq]; exact ih
  | _ => simpa using ‹_ = holdPresent _›

theorem holdPresent_of_isHold {s : State} {g : GateId} (held : (s.gate g).motion.isHold = true) :
    holdPresent s.gates = true :=
  List.any_eq_true.mpr ⟨g, mem_allGates g, held⟩

/-! ### A fault handed to a gate -/

/-- The motion that a fault makes of a motion (R74, R75, R81). -/
def Motion.faulted (m : Motion) (r : HoldReason) : Motion :=
  match m with
  | .outOfService d => .outOfService d
  | .idle => .hold { primary := r, further := [] } none
  | .pending q => .hold { primary := r, further := [] } (some q.toTarget)
  | .starting q _ _ => .hold { primary := r, further := [] } (some q.toTarget)
  | .travelling q _ => .hold { primary := r, further := [] } (some q.toTarget)
  | .stopping n _ _ => .hold { primary := r, further := [] } n.kept
  | .hold h d => .hold (h.withReason r) d

theorem Hold.withReason_withReason (h : Hold) (r : HoldReason) : (h.withReason r).withReason r = h.withReason r := by
  by_cases old : r = h.primary ∨ r ∈ h.further
  · simp [Hold.withReason, old]
  · have added : h.withReason r = { h with further := h.further ++ [r] } := by simp [Hold.withReason, old]
    rw [added, Hold.withReason, if_pos (.inr (by simp))]

theorem Motion.faulted_faulted (m : Motion) (r : HoldReason) : (m.faulted r).faulted r = m.faulted r := by
  cases m with
  | hold h d => simp [Motion.faulted, Hold.withReason_withReason]
  | outOfService => rfl
  | _ => simp [Motion.faulted, Hold.withReason]

theorem State.fault_gate (s : State) (g : GateId) (r : HoldReason) :
    (s.fault g r).gate g = { s.gate g with motion := (s.gate g).motion.faulted r } := by
  have halted (d : Option Target) : (((s.haltGate g).makeHold g r d).releaseSlot).gate g =
      { s.gate g with motion := .hold { primary := r, further := [] } d } := by
    simp [State.releaseSlot, State.makeHold]
  unfold State.fault
  split <;> rename_i e <;> rw [e]
  · rw [Motion.faulted, ← e]
  · simp [State.makeHold, Motion.faulted]
  · simp [Motion.faulted]
  · exact halted _
  · exact halted _
  · exact halted _
  · simp [Motion.faulted]

theorem State.fault_waiting (s : State) (g : GateId) (r : HoldReason) {k : GateId} (waits : k ∈ (s.fault g r).waiting) :
    k ∈ s.waiting := by
  have halted (d : Option Target) : (((s.haltGate g).makeHold g r d).releaseSlot).waiting = s.waiting := by
    simp [State.releaseSlot, State.makeHold, State.postHeld, (s.beside_haltGate (h := g) g).waiting]
  unfold State.fault at waits
  split at waits
  · exact waits
  · simpa [State.makeHold, State.postHeld] using waits
  · rw [State.postHeld, State.post_waiting] at waits
    exact List.mem_of_mem_filter waits
  · rwa [halted] at waits
  · rwa [halted] at waits
  · rwa [halted] at waits
  · simpa using waits

/-! ### A side made stale by the write -/

/-- A side was fresh before and is stale now (R12; log 13). -/
def Gate.madeStale (before now : Gate) : Prop := ∃ side, before.stale side = false ∧ now.stale side = true

theorem State.newlyStale_of_not (s : State) {g : GateId} {before : Gate} (fresh : ¬ before.madeStale (s.gate g)) :
    s.newlyStale g before = s := by
  have one (side : Side) : (!before.stale side && (s.gate g).stale side) = false := by
    by_contra stale
    simp only [Bool.not_eq_false, Bool.and_eq_true, Bool.not_eq_true'] at stale
    exact fresh ⟨side, stale⟩
  simp [State.newlyStale, one]

/-- A side made stale is a fault handed to the gate once or, with both, twice. -/
theorem State.newlyStale_of_stale (s : State) {g : GateId} {before : Gate} (stale : before.madeStale (s.gate g)) :
    s.newlyStale g before = s.fault g .stale ∨ s.newlyStale g before = (s.fault g .stale).fault g .stale := by
  obtain ⟨side, fresh, now⟩ := stale
  simp only [State.newlyStale]
  cases side with
  | left =>
    simp only [fresh, now, Bool.not_false, Bool.and_self, if_true]
    split
    · exact .inr rfl
    · exact .inl rfl
  | right =>
    split
    · split
      · exact .inr rfl
      · exact .inl rfl
    · simp only [fresh, now, Bool.not_false, Bool.and_self, if_true]
      exact .inl trivial

theorem State.newlyStale_gate (s : State) {g : GateId} {before : Gate} (stale : before.madeStale (s.gate g)) :
    (s.newlyStale g before).gate g = { s.gate g with motion := (s.gate g).motion.faulted .stale } := by
  obtain e | e := s.newlyStale_of_stale stale <;> rw [e, State.fault_gate]
  rw [State.fault_gate]
  simp only [Motion.faulted_faulted]

/-- What STALE makes of the gate, once or twice, is a chain after the first time. -/
theorem State.reach_newlyStale_of_stale (s : State) {g : GateId} {before : Gate} (stale : before.madeStale (s.gate g)) :
    (s.fault g .stale).Reach (s.newlyStale g before) := by
  obtain e | e := s.newlyStale_of_stale stale <;> rw [e]
  · exact .refl
  · exact State.reach_fault _ g _

/-- A pending gate made stale leaves the list (R74, R86). -/
theorem State.newlyStale_leaves (s : State) {g : GateId} {before : Gate} (stale : before.madeStale (s.gate g))
    {q : Request} (pending : (s.gate g).motion = .pending q) : g ∉ (s.newlyStale g before).waiting := by
  have left : g ∉ (s.fault g .stale).waiting := by simp [State.fault, pending, State.postHeld]
  obtain e | e := s.newlyStale_of_stale stale <;> rw [e]
  · exact left
  · exact fun again => left (State.fault_waiting _ g _ again)

theorem State.newlyStale_waiting (s : State) (g : GateId) (before : Gate) {k : GateId}
    (waits : k ∈ (s.newlyStale g before).waiting) : k ∈ s.waiting := by
  have one (side : Side) (t : State)
      (h : k ∈ (if !before.stale side && (t.gate g).stale side then t.fault g .stale else t).waiting) : k ∈ t.waiting := by
    split at h
    · exact t.fault_waiting g _ h
    · exact h
  exact one .left s (one .right _ waits)

theorem State.fault_clears (s : State) (g : GateId) (r : HoldReason) : s.ClearsNone (s.fault g r) := by
  have held (t : State) (d : Option Target) : t.ClearsNone (t.makeHold g r d) :=
    ((t.beside_setMotion (h := g) _).trans (State.beside_post _ fun _ _ => Notice.noConfusion)).clears
  have halted (d : Option Target) : s.ClearsNone (((s.haltGate g).makeHold g r d).releaseSlot) :=
    ((s.beside_haltGate (h := g) g).clears.trans (held _ d)).trans (.of_eq rfl)
  unfold State.fault
  split
  · exact .of_eq rfl
  · exact held s _
  · exact State.ClearsNone.trans (t := s.leaveList g _) (.of_eq (by simp [State.leaveList]))
      (State.clearsNone_post _ fun _ _ => Notice.noConfusion)
  · exact halted _
  · exact halted _
  · exact halted _
  · exact .of_eq (by simp)

theorem State.newlyStale_clears (s : State) (g : GateId) (before : Gate) : s.ClearsNone (s.newlyStale g before) := by
  by_cases stale : before.madeStale (s.gate g)
  · obtain e | e := s.newlyStale_of_stale stale <;> rw [e]
    · exact s.fault_clears g _
    · exact (s.fault_clears g _).trans (State.fault_clears _ g _)
  · rw [s.newlyStale_of_not stale]
    exact .of_eq rfl

/-! ### HALT to both hoists -/

theorem State.haltGate_haltQueue (s : State) {g : GateId} {side : Side} {a : LinkAddr}
    (names : (s.record g).hoist side = some a) : a ∈ (s.haltGate g).haltQueue := by
  have sent (t : State) : a ∈ (t.pushHalt a).haltQueue := by
    rw [State.pushHalt_haltQueue]
    split
    · assumption
    · simp
  have right := State.reach_forHoist (s.forHoist g .left State.pushHalt) g .right State.pushHalt fun _ a => .pushHalt a .refl
  have record := ((s.reach_forHoist g .left State.pushHalt) fun _ a => .pushHalt a .refl).record g
  cases side with
  | left =>
    refine right.haltQueue ?_
    rw [State.forHoist, names]
    exact sent s
  | right =>
    rw [State.haltGate, State.forHoist, record, names]
    exact sent _

/-- The gate moves: it holds a slot and has not been told to stop. -/
def Motion.moves : Motion → Prop
  | .starting _ _ _ => True
  | .travelling _ _ => True
  | _ => False

theorem State.fault_haltQueue (s : State) {g : GateId} (moving : (s.gate g).motion.moves) (r : HoldReason) {side : Side}
    {a : LinkAddr} (names : (s.record g).hoist side = some a) : a ∈ (s.fault g r).haltQueue := by
  have halted (d : Option Target) : a ∈ (((s.haltGate g).makeHold g r d).releaseSlot).haltQueue :=
    ((State.reach_makeHold _ g r d).trans (State.reach_releaseSlot _)).haltQueue (s.haltGate_haltQueue names)
  cases e : (s.gate g).motion with
  | starting q l w =>
    simp only [State.fault, e]
    exact halted _
  | travelling q l =>
    simp only [State.fault, e]
    exact halted _
  | _ => rw [e] at moving; exact moving.elim

end Sys2Proof.Machine

/-! ## What an accepted gate record write leaves -/

namespace Sys2Proof.Machine

/-! ### The change of service -/

/-- The motion of a gate taken out of service, with the halt window that a moving gate begins (R69, R70, R81). -/
def Motion.takenOut (m : Motion) (window : Nat) : Motion :=
  match m with
  | .idle => .outOfService none
  | .pending r => .outOfService (some r.toTarget)
  | .starting r l _ => .stopping (.outOfService (some r.toTarget)) { l with acks := .empty, paused := none } window
  | .travelling r l => .stopping (.outOfService (some r.toTarget)) { l with acks := .empty, paused := none } window
  | .stopping n l w => .stopping (.outOfService n.kept) l w
  | .hold _ d => .outOfService d
  | .outOfService d => .outOfService d

theorem State.serviceOut_motion (s : State) (g : GateId) :
    ((s.serviceOut g).gate g).motion = (s.gate g).motion.takenOut (4 * (s.record g).sampleWindow) := by
  unfold State.serviceOut
  split
  case h_9 idle pending starting travelling stopIdle stopRestart stopRequeue hold =>
    cases e : (s.gate g).motion with
    | outOfService d => rfl
    | stopping n l w =>
      cases n with
      | outOfService c => rfl
      | idle => exact absurd e (stopIdle l w)
      | restartLeg r => exact absurd e (stopRestart r l w)
      | requeue r => exact absurd e (stopRequeue r l w)
    | idle => exact absurd e idle
    | pending r => exact absurd e (pending r)
    | starting r l w => exact absurd e (starting r l w)
    | travelling r l => exact absurd e (travelling r l)
    | hold h d => exact absurd e (hold h d)
  all_goals
    rename_i e
    simp [e, Motion.takenOut, State.enterOutOfService, State.enterStopping, NextStep.kept, State.haltGate_record]

/-- A gate that enters OUT_OF_SERVICE has its excursion mark off (R73, R81). -/
theorem State.serviceOut_excursion {s : State} {g : GateId} (before : (s.gate g).motion.isOutOfService = false)
    {d : Option Target} (after : ((s.serviceOut g).gate g).motion = .outOfService d) :
    ((s.serviceOut g).gate g).excursionReported = false := by
  unfold State.serviceOut at after ⊢
  split at after
  case h_9 => rw [after] at before; cases before
  all_goals simp_all [State.enterOutOfService, State.enterStopping]

theorem State.serviceIn_outOfService {s : State} {g : GateId} {d : Option Target}
    (e : (s.gate g).motion = .outOfService d) : s.serviceIn g = s.makeHold g .stale d := by
  simp [State.serviceIn, e]

theorem State.serviceIn_stopping {s : State} {g : GateId} {c : Option Target} {l : Leg} {w : Nat}
    (e : (s.gate g).motion = .stopping (.outOfService c) l w) :
    (s.stopAsserted = true ∨ c = none → ((s.serviceIn g).gate g).motion = .stopping .idle l w) ∧
    ∀ k, s.stopAsserted = false → c = some k →
      ((s.serviceIn g).gate g).motion = .stopping (.restartLeg (.fresh k.target k.level .station)) l w := by
  simp only [State.serviceIn, e]
  refine ⟨?_, fun k free kept => ?_⟩
  · rintro (stop | rfl)
    · simp [stop]
    · cases s.stopAsserted <;> simp
  · simp [free, kept]

theorem State.serviceIn_hold {s : State} {g : GateId} {h : Hold} {d : Option Target} (e : (s.gate g).motion = .hold h d) :
    s.serviceIn g = s := by
  simp [State.serviceIn, e]

theorem State.serviceChange_waiting (s : State) (g : GateId) (old new : Bool) {k : GateId}
    (waits : k ∈ (s.serviceChange g old new).waiting) : k ∈ s.waiting := by
  have stopped (next : NextStep) (l : Leg) : (s.enterStopping g next l).waiting = s.waiting :=
    (s.beside_enterStopping (h := g) next l).waiting
  unfold State.serviceChange at waits
  split at waits
  · unfold State.serviceIn at waits
    split at waits
    · simpa [State.makeHold, State.postHeld] using waits
    · split at waits <;> simpa using waits
    · exact waits
  · unfold State.serviceOut at waits
    split at waits
    · simpa [State.enterOutOfService] using waits
    · exact (by simpa [State.enterOutOfService] using waits : k ∈ s.waiting ∧ k ≠ g).1
    · rwa [stopped] at waits
    · rwa [stopped] at waits
    all_goals simpa [State.enterOutOfService] using waits
  · exact waits

/-! ### The gate under its new record -/

/-- A stored target as a change of full_travel leaves it (R5). -/
def Target.refitted (t : Target) (old new : Nat) : Target :=
  { t with target := if new < old then min t.target new else t.target }

theorem Target.map_refitted (d : Option Target) {old new : Nat} :
    (if new < old then d.map fun t => t.lowered new else d) = d.map fun t => t.refitted old new := by
  by_cases lower : new < old <;> simp [Target.refitted, Target.lowered, lower]

section
variable {x : Gate} {new : GateRecord}

theorem Gate.rewritten_outOfService {d : Option Target} (e : x.motion = .outOfService d) :
    (x.rewritten new).motion = .outOfService (d.map fun t => t.refitted x.record.fullTravel new.fullTravel) := by
  rw [← Target.map_refitted, Gate.rewritten, e]
  split <;> rfl

theorem Gate.rewritten_hold {h : Hold} {d : Option Target} (e : x.motion = .hold h d) :
    (x.rewritten new).motion = .hold h (d.map fun t => t.refitted x.record.fullTravel new.fullTravel) := by
  rw [← Target.map_refitted, Gate.rewritten, e]
  split <;> rfl

theorem Gate.rewritten_pending {q : Request} (e : x.motion = .pending q) :
    ∃ q', (x.rewritten new).motion = .pending q' ∧
      q'.toTarget = q.toTarget.refitted x.record.fullTravel new.fullTravel := by
  by_cases lower : new.fullTravel < x.record.fullTravel
  · exact ⟨q.lowered new.fullTravel, by simp [Gate.rewritten, e, lower, Motion.lowered],
      by simp [Request.toTarget, Request.lowered, Target.refitted, lower]⟩
  · exact ⟨q, by simp [Gate.rewritten, e, lower], by simp [Target.refitted, lower]⟩

/-- Idle and slot-holding gates keep their motion (R5, R11). -/
theorem Gate.rewritten_same (lowered : ∀ T, x.motion.lowered T = x.motion) : (x.rewritten new).motion = x.motion := by
  simp [Gate.rewritten, lowered]

theorem Motion.lowered_slot {m : Motion} (slot : m.holdsSlot = true) (T : Nat) : m.lowered T = m := by
  cases m with
  | starting | travelling | stopping => rfl
  | _ => cases slot

theorem Gate.rewritten_kind : (x.rewritten new).motion.isOutOfService = x.motion.isOutOfService ∧
    (x.rewritten new).motion.holdsSlot = x.motion.holdsSlot := by
  unfold Gate.rewritten
  simp only
  split
  · cases x.motion <;> exact ⟨rfl, rfl⟩
  · exact ⟨rfl, rfl⟩

theorem Gate.rewritten_sample (side : Side) : (x.rewritten new).sample side =
    (if x.record.hoist side = new.hoist side then x.sample side else none).map fun v =>
      if x.record.travelChanged new then v.recorrected new side else v := by
  cases side <;> rfl

/-- A side is stale under the new record when its hoist is another, or its sample is too old (R4, R115). -/
theorem Gate.rewritten_staleUnder (side : Side) (window : Nat) : staleUnder window ((x.rewritten new).sample side) = true ↔
    x.record.hoist side ≠ new.hoist side ∨ staleUnder window (x.sample side) = true := by
  rw [Gate.rewritten_sample]
  by_cases same : x.record.hoist side = new.hoist side
  · cases x.sample side with
    | none => simp [same, staleUnder]
    | some v =>
      simp only [same, if_true, Option.map_some, ne_eq, not_true, false_or]
      split <;> rfl
  · simp [same, staleUnder]

theorem Gate.madeStale_rewritten (serving : x.motion.isOutOfService = false) {window : Nat}
    (hw : window = if x.motion.holdsSlot then new.sampleWindow else 8 * new.sampleWindow) :
    x.madeStale (x.rewritten new) ↔ ∃ side, x.stale side = false ∧
      (x.record.hoist side ≠ new.hoist side ∨ staleUnder window (x.sample side) = true) := by
  obtain ⟨out, slot⟩ := Gate.rewritten_kind (x := x) (new := new)
  have inForce : (x.rewritten new).window = window := by
    rw [hw, Gate.window, slot]
    rfl
  simp only [Gate.madeStale, ← Gate.rewritten_staleUnder]
  simp only [Gate.stale, out, serving, inForce, Bool.not_false, Bool.true_and]

theorem Gate.not_madeStale_outOfService (out : x.motion.isOutOfService = true) : ¬ x.madeStale (x.rewritten new) := by
  rintro ⟨side, -, now⟩
  simp [Gate.stale, Gate.rewritten_kind.1, out] at now

end

/-! ### The stages of the write at the gate itself -/

/-- From `s` to `t` gates, FAULT_N and the Route Table may have changed; nothing else. -/
structure State.Regated (s t : State) : Prop where
  eq : t = { s with gates := t.gates, faultN := t.faultN, routes := t.routes }

theorem State.Regated.refl (s : State) : s.Regated s := ⟨rfl⟩

theorem State.Regated.setGate {s t : State} (h : s.Regated t) (g : GateId) (x : Gate) : s.Regated (t.setGate g x) := by
  refine ⟨?_⟩
  rw [h.eq]
  rfl

theorem State.Regated.setRoute {s t : State} (h : s.Regated t) (a : LinkAddr) (x : RouteEntry) :
    s.Regated (t.setRoute a x) := by
  refine ⟨?_⟩
  rw [h.eq]
  rfl

theorem State.Regated.rebindHoist {s t : State} (h : s.Regated t) (g : GateId) (side : Side) (old new : Option LinkAddr) :
    s.Regated (t.rebindHoist g side old new) := by
  have bound : s.Regated (t.rebind old new .hoist (.hoist g side)) := by
    unfold State.rebind
    split
    · exact h
    · cases old <;> cases new
      · exact h
      · exact h.setRoute _ _
      · exact h.setRoute _ _
      · exact (h.setRoute _ _).setRoute _ _
  unfold State.rebindHoist
  split
  · exact h
  · exact bound.setGate g _

section
variable {s : State} {g : GateId} {new : GateRecord}

theorem State.remeasured_gate_self : (s.remeasured g new).gate g = (s.gate g).rewritten new := by
  rw [State.remeasured_gate, if_pos rfl]

/-- The state in which the change of service finds the gate. -/
def State.staled (s : State) (g : GateId) (new : GateRecord) : State := (s.remeasured g new).newlyStale g (s.gate g)

theorem State.staled_of_stale (stale : (s.gate g).madeStale ((s.gate g).rewritten new)) :
    ((s.staled g new).gate g).motion = ((s.gate g).rewritten new).motion.faulted .stale := by
  rw [State.staled, State.newlyStale_gate _ (by rwa [State.remeasured_gate_self]), State.remeasured_gate_self]

theorem State.staled_of_fresh (fresh : ¬ (s.gate g).madeStale ((s.gate g).rewritten new)) :
    s.staled g new = s.remeasured g new :=
  State.newlyStale_of_not _ (by rwa [State.remeasured_gate_self])

theorem State.reach_staled : (s.remeasured g new).Reach (s.staled g new) := State.reach_newlyStale _ _ _

theorem State.staled_record : (s.staled g new).record g = new := by
  rw [State.reach_staled.record, State.remeasured_record, if_pos rfl]

theorem State.reserved_same (same : (s.record g).inService = new.inService) : s.reserved g new = s.staled g new := by
  unfold State.reserved State.serviceChange
  rw [same]
  cases new.inService <;> rfl

theorem State.reserved_in (before : (s.record g).inService = false) (after : new.inService = true) :
    s.reserved g new = (s.staled g new).serviceIn g := by
  unfold State.reserved
  rw [before, after]
  rfl

theorem State.reserved_out (before : (s.record g).inService = true) (after : new.inService = false) :
    s.reserved g new = (s.staled g new).serviceOut g := by
  unfold State.reserved
  rw [before, after]
  rfl

theorem State.reserved_out_motion (before : (s.record g).inService = true) (after : new.inService = false) :
    ((s.reserved g new).gate g).motion = ((s.staled g new).gate g).motion.takenOut (4 * new.sampleWindow) := by
  rw [State.reserved_out before after, State.serviceOut_motion, State.staled_record]

/-- The first two stages change gates, FAULT_N and the Route Table; nothing else. -/
theorem State.remeasured_frame : s.Regated (s.remeasured g new) := by
  have recorded : s.Regated (s.recorded g new) :=
    ((State.Regated.refl s).setGate g _).rebindHoist g .left _ _ |>.rebindHoist g .right _ _
  unfold State.remeasured State.retravel
  simp only
  split_ifs
  · exact (recorded.setGate g _).setGate g _
  · exact recorded.setGate g _
  · exact recorded.setGate g _
  · exact recorded

theorem State.remeasured_waiting : (s.remeasured g new).waiting = s.waiting := by
  rw [State.remeasured_frame.eq]

theorem State.remeasured_notices : (s.remeasured g new).notices = s.notices := by
  rw [State.remeasured_frame.eq]

theorem State.remeasured_tideClock : (s.remeasured g new).tideClock = s.tideClock := by
  rw [State.remeasured_frame.eq]

theorem State.remeasured_stopAsserted : (s.remeasured g new).stopAsserted = s.stopAsserted := by
  rw [State.remeasured_frame.eq]

theorem State.remeasured_replies : (s.remeasured g new).replies = s.replies := by
  rw [State.remeasured_frame.eq]

theorem State.reserved_waiting {k : GateId} (waits : k ∈ (s.reserved g new).waiting) : k ∈ s.waiting := by
  rw [← State.remeasured_waiting (s := s) (g := g) (new := new)]
  exact State.newlyStale_waiting _ _ _ (State.serviceChange_waiting _ _ _ _ waits)

theorem State.reserved_waiting_nil (empty : s.waiting = []) : (s.reserved g new).waiting = [] := by
  rw [List.eq_nil_iff_forall_not_mem]
  intro k waits
  have := State.reserved_waiting waits
  rw [empty] at this
  cases this

theorem State.receilinged_gate_self : (s.receilinged g new).gate g = { (s.reserved g new).gate g with
    ceiling := (s.reserved g new).computeCeiling ((s.reserved g new).gate g) } := by
  rw [State.receilinged, State.setCeiling_gate, if_pos rfl]

/-! ### The end of the write -/

/-- The ceiling check of a gate has nothing to look at. -/
def Motion.unchecked : Motion → Prop
  | .idle => False
  | .starting _ _ _ => False
  | .travelling _ _ => False
  | _ => True

theorem State.ceilingCheck_of_unchecked {t : State} (h : (t.gate g).motion.unchecked) : t.ceilingCheck g = t := by
  unfold State.ceilingCheck
  split <;> rename_i e
  · rw [e] at h; exact h.elim
  · rw [e] at h; exact h.elim
  · rw [e] at h; exact h.elim
  · rfl

/-- After the stages only the neighbours' checks and an evaluation pass the gate. -/
theorem State.passes_writeGate (h : ((s.reserved g new).gate g).motion.unchecked) :
    (s.receilinged g new).Passes g (s.writeGate g new) ∧
      ((s.receilinged g new).waiting = [] → (s.writeGate g new).gate g = (s.receilinged g new).gate g) := by
  obtain ⟨tell, e⟩ := s.writeGate_eq g new
  have still : (s.receilinged g new).ceilingCheck g = s.receilinged g new := by
    refine State.ceilingCheck_of_unchecked ?_
    rwa [State.receilinged_gate_self]
  rw [e, still]
  cases tell with
  | false => exact ⟨State.passes_evaluateNow _, fun empty => State.evaluateNow_gate_of_waiting_nil empty g⟩
  | true =>
    obtain ⟨gate, waiting, -⟩ := (s.receilinged g new).tellNeighbours_spares g
    exact ⟨(State.passes_tellNeighbours _).trans (State.passes_evaluateNow _),
      fun empty => (State.evaluateNow_gate_of_waiting_nil (waiting.trans empty) g).trans gate⟩

theorem Motion.unchecked_of_stands {m : Motion} (h : m.stands) : m.unchecked := by
  cases m with
  | outOfService | hold => trivial
  | _ => exact h.elim

/-- A gate out of service or held by the write stays so. -/
theorem State.writeGate_stands (h : ((s.reserved g new).gate g).motion.stands) :
    ((s.writeGate g new).gate g).motion = ((s.reserved g new).gate g).motion ∧
      ((s.writeGate g new).gate g).excursionReported = ((s.reserved g new).gate g).excursionReported ∧
      (g ∉ (s.reserved g new).waiting → g ∉ (s.writeGate g new).waiting) ∧
      (s.reserved g new).ClearsNone (s.writeGate g new) := by
  obtain ⟨⟨gate, waiting, clears⟩, -⟩ := State.passes_writeGate (Motion.unchecked_of_stands h)
  rw [State.receilinged_gate_self] at gate waiting
  rw [gate.standing h]
  exact ⟨rfl, rfl, waiting h, clears⟩

/-- A gate that stops after the write goes on stopping, its stamp alone perhaps renumbered (R90). -/
theorem State.writeGate_stops {n : NextStep} {l : Leg} {w : Nat}
    (e : ((s.reserved g new).gate g).motion = .stopping n l w) :
    ∃ stamp, ((s.writeGate g new).gate g).motion = .stopping n { l with stamp := stamp } w ∧
      (s.waiting = [] → stamp = l.stamp) := by
  obtain ⟨passes, quiet⟩ := State.passes_writeGate (s := s) (g := g) (new := new) (by rw [e]; trivial)
  have gate := passes.gate
  rw [State.receilinged_gate_self] at gate quiet
  by_cases empty : s.waiting = []
  · exact ⟨l.stamp, by rw [quiet (State.reserved_waiting_nil empty)]; exact e, fun _ => rfl⟩
  · obtain ⟨stamp, motion⟩ := gate.stopping n l w e
    exact ⟨stamp, motion, fun nil => absurd nil empty⟩

/-- A target that the gate's opening does not satisfy outlasts the write. -/
theorem State.writeGate_wants {k : Target} (unchecked : ((s.reserved g new).gate g).motion.unchecked)
    (wants : ((s.reserved g new).gate g).Wants k) : ((s.writeGate g new).gate g).Wants k := by
  obtain ⟨passes, -⟩ := State.passes_writeGate unchecked
  have gate := passes.gate
  rw [State.receilinged_gate_self] at gate
  exact gate.wanting k wants

end

end Sys2Proof.Machine

/-! ## An accepted gate record write takes effect -/

namespace Sys2Proof.Machine

/-! ### The bindings of the hoists (R4) -/

theorem State.rebind_generation (s : State) (old new : Option LinkAddr) (role : Role) (b : Binding) (a : LinkAddr) :
    ((s.rebind old new role b).route a).generation = (s.route a).generation := by
  have one (t : State) (c : LinkAddr) (x : RouteEntry) (same : x.generation = (t.route c).generation) :
      ((t.setRoute c x).route a).generation = (t.route a).generation := by
    rw [State.setRoute_route]
    split
    · rename_i e
      rw [e, same]
    · rfl
  unfold State.rebind
  split
  · rfl
  · cases old with
    | none =>
      cases new with
      | none => rfl
      | some c => exact one s c ((s.route c).bound role b) rfl
    | some c =>
      have freed := one s c (s.route c).unbound rfl
      cases new with
      | none => exact freed
      | some d => exact (one (s.setRoute c (s.route c).unbound) d (RouteEntry.bound _ role b) rfl).trans freed

theorem State.rebind_bound (s : State) {old : Option LinkAddr} {a : LinkAddr} (differs : old ≠ some a) (role : Role)
    (b : Binding) : ((s.rebind old (some a) role b).route a).role = role ∧
      ((s.rebind old (some a) role b).route a).binding = some b := by
  unfold State.rebind
  rw [if_neg differs]
  simp only [State.setRoute_route, if_true]
  exact ⟨rfl, rfl⟩

theorem State.rebind_other (s : State) {old new : Option LinkAddr} {a : LinkAddr} (notOld : old ≠ some a)
    (notNew : new ≠ some a) (role : Role) (b : Binding) : (s.rebind old new role b).route a = s.route a := by
  unfold State.rebind
  split
  · rfl
  · cases old <;> cases new
    · rfl
    all_goals simp_all [State.setRoute_route, eq_comm]

theorem State.rebindHoist_routes (s : State) (g : GateId) (side : Side) {old new : Option LinkAddr} :
    (s.rebindHoist g side old new).routes = (s.rebind old new .hoist (.hoist g side)).routes := by
  unfold State.rebindHoist State.rebind
  split <;> rfl

theorem State.rebindHoist_route (s : State) (g : GateId) (side : Side) (old new : Option LinkAddr) (a : LinkAddr) :
    (s.rebindHoist g side old new).route a = (s.rebind old new .hoist (.hoist g side)).route a := by
  rw [State.route, State.rebindHoist_routes]
  rfl

/-- A free hoist address is bound to no other gate and side (R3, R148). -/
theorem State.not_bound_of_hoistFree {s : State} (bound : s.RoutesBound) {g : GateId} {side other : Side} {a : LinkAddr}
    (free : s.hoistFree g side (some a) = true) (apart : other ≠ side) : (s.record g).hoist other ≠ some a := by
  intro held
  have binding := (bound.hoistRecords a g other).mpr held
  have role := (bound.hoists a).mpr ⟨g, other, binding⟩
  simp [State.hoistFree, role, binding, apart] at free

theorem State.hoistFree_of_hoistsInUse {s : State} {g : GateId} {new : GateRecord} (h : s.hoistsInUse g new = none)
    (side : Side) : s.hoistFree g side (new.hoist side) = true := by
  unfold State.hoistsInUse at h
  split_ifs at h with left right
  simp only [Bool.not_eq_true', Bool.not_eq_false] at left right
  cases side
  · exact left
  · exact right

/-- A hoist address that the write brings is bound to its gate and side, and its entry keeps its generation (R4). -/
theorem State.recorded_route {s : State} {g : GateId} {new : GateRecord} (bound : s.RoutesBound)
    (free : s.hoistsInUse g new = none) (apart : ∀ a, new.leftHoist = some a → new.rightHoist ≠ some a) {side : Side}
    {a : LinkAddr} (differs : (s.record g).hoist side ≠ new.hoist side) (names : new.hoist side = some a) :
    ((s.recorded g new).route a).role = .hoist ∧ ((s.recorded g new).route a).binding = some (.hoist g side) ∧
      ((s.recorded g new).route a).generation = (s.route a).generation := by
  have generation : ((s.recorded g new).route a).generation = (s.route a).generation := by
    rw [State.recorded, State.rebindHoist_route, State.rebind_generation, State.rebindHoist_route,
      State.rebind_generation]
    rfl
  suffices h : ((s.recorded g new).route a).role = .hoist ∧
      ((s.recorded g new).route a).binding = some (.hoist g side) from ⟨h.1, h.2, generation⟩
  rw [State.recorded, State.rebindHoist_route]
  have unbound := State.hoistFree_of_hoistsInUse free side
  rw [names] at unbound differs
  cases side with
  | left =>
    have other : (s.record g).rightHoist ≠ some a :=
      State.not_bound_of_hoistFree bound (other := .right) unbound (by decide)
    rw [State.rebind_other _ other (apart a names), State.rebindHoist_route,
      show new.leftHoist = some a from names]
    exact State.rebind_bound _ differs _ _
  | right =>
    rw [show new.rightHoist = some a from names]
    exact State.rebind_bound _ differs _ _

/-! ### What the write leaves of the gate and around it -/

section
variable (s : State) (g : GateId) (new : GateRecord)

theorem State.writeGate_record : (s.writeGate g new).record g = new ∧
    ((s.writeGate g new).gate g).generation = (s.gate g).generation + 1 ∧
    ∀ h, h ≠ g → (s.writeGate g new).record h = s.record h ∧
      ((s.writeGate g new).gate h).generation = (s.gate h).generation := by
  have records := (s.leaves_writeGate g new) .gateRecords (by simp)
  have stored (h : GateId) : (s.withRecord g new).gate h = if h = g then
      { s.gate g with record := new, generation := (s.gate g).generation + 1 } else s.gate h := s.setGate_gate g h _
  refine ⟨?_, ?_, fun h ne => ?_⟩
  · rw [(records g).1, State.withRecord_record, if_pos rfl]
  · rw [(records g).2, stored, if_pos rfl]
  · rw [(records h).1, (records h).2, State.withRecord_record, stored, if_neg ne, if_neg ne]
    exact ⟨rfl, rfl⟩

/-- The write makes of the gate what its stages make of it, the motion and the excursion mark apart. -/
theorem State.writeGate_gate : ∃ m b, (s.writeGate g new).gate g = { (s.gate g).rewritten new with
    ceiling := (s.reserved g new).computeCeiling ((s.reserved g new).gate g), motion := m, excursionReported := b } := by
  have after := (s.reach_writeGate g new).gate g
  refine ⟨((s.writeGate g new).gate g).motion, ((s.writeGate g new).gate g).excursionReported, after.trans ?_⟩
  have stages := (s.reach_reserved g new).gate g
  rw [State.remeasured_gate_self] at stages
  rw [State.receilinged_gate_self]
  generalize (s.reserved g new).gate g = y at stages ⊢
  rw [stages]

theorem State.writeGate_sample (side : Side) :
    ((s.writeGate g new).gate g).sample side = ((s.gate g).rewritten new).sample side := by
  obtain ⟨m, b, e⟩ := s.writeGate_gate g new
  rw [e]
  cases side <;> rfl

theorem State.computeCeiling_congr {t : State} {x y : Gate} (mode : t.mode = s.mode) (head : t.head = s.head)
    (curves : t.curves = s.curves) (record : y.record = x.record) : t.computeCeiling y = s.computeCeiling x := by
  simp only [State.computeCeiling, State.curve, mode, head, curves, record]

theorem State.writeGate_ceiling : ((s.writeGate g new).gate g).ceiling =
    (s.writeGate g new).computeCeiling ((s.writeGate g new).gate g) := by
  obtain ⟨m, b, e⟩ := s.writeGate_gate g new
  have after := s.reach_writeGate g new
  have record : ((s.writeGate g new).gate g).record = ((s.reserved g new).gate g).record := by
    rw [e, (s.reach_reserved g new).gate g, State.remeasured_gate_self]
  rw [State.computeCeiling_congr (s.reserved g new) after.mode after.head (after.leaves ∅ .curves (by simp)) record, e]

theorem State.writeGate_replies : (s.writeGate g new).replies = s.replies := by
  rw [(s.reach_writeGate g new).frame]
  change (s.reserved g new).replies = _
  rw [(s.reach_reserved g new).frame]
  exact State.remeasured_replies

theorem State.writeGate_routes : (s.writeGate g new).routes = (s.recorded g new).routes := by
  rw [(s.reach_writeGate g new).frame]
  change (s.reserved g new).routes = _
  rw [(s.reach_reserved g new).frame]
  exact (s.recorded g new).leaves_retravel (P := {.samples}) g _ _ (by simp) .routes (by simp)

theorem State.writeGate_route (a : LinkAddr) : (s.writeGate g new).route a = (s.recorded g new).route a := by
  simp only [State.route, State.writeGate_routes]

end

end Sys2Proof.Machine

/-! ## The motion that an accepted gate record write leaves -/

namespace Sys2Proof.Machine

/-- A side that was fresh is stale after the write: its hoist is another, or its sample is older than the window (R12). -/
def Gate.Stales (x : Gate) (new : GateRecord) (window : Nat) : Prop :=
  ∃ side, x.stale side = false ∧ (x.record.hoist side ≠ new.hoist side ∨ staleUnder window (x.sample side) = true)

/-! ### Taken out of service -/

theorem State.serviceOut_clears (s : State) (g : GateId) : s.ClearsNone (s.serviceOut g) := by
  have out (t : State) (d : Option Target) : t.ClearsNone (t.enterOutOfService g d) :=
    .of_eq (by simp [State.enterOutOfService])
  unfold State.serviceOut
  split
  · exact out s _
  · exact State.ClearsNone.trans (t := s.leaveList g .idle) (.of_eq (by simp [State.leaveList])) (out _ _)
  · exact (s.beside_enterStopping (h := g) _ _).clears
  · exact (s.beside_enterStopping (h := g) _ _).clears
  · exact .of_eq (by simp)
  · exact .of_eq (by simp)
  · exact .of_eq (by simp)
  · exact out s _
  · exact .of_eq rfl

theorem State.serviceOut_leaves {s : State} {g : GateId} {q : Request} (pending : (s.gate g).motion = .pending q) :
    g ∉ (s.serviceOut g).waiting := by
  simp [State.serviceOut, pending, State.enterOutOfService]

theorem State.serviceOut_haltQueue (s : State) {g : GateId} (moving : (s.gate g).motion.moves) {side : Side}
    {a : LinkAddr} (names : (s.record g).hoist side = some a) : a ∈ (s.serviceOut g).haltQueue := by
  have stopped (next : NextStep) (l : Leg) : a ∈ (s.enterStopping g next l).haltQueue := by
    simpa [State.enterStopping] using s.haltGate_haltQueue names
  cases e : (s.gate g).motion with
  | starting q l w =>
    simp only [State.serviceOut, e]
    exact stopped _ _
  | travelling q l =>
    simp only [State.serviceOut, e]
    exact stopped _ _
  | _ => rw [e] at moving; exact moving.elim

theorem Motion.faulted_serving {m : Motion} (serving : m.isOutOfService = false) (r : HoldReason) :
    (m.faulted r).isOutOfService = false := by
  cases m with
  | outOfService => cases serving
  | _ => rfl

theorem Motion.takenOut_cases (m : Motion) (window : Nat) :
    (m.takenOut window).stands ∨ ∃ n l w, m.takenOut window = .stopping n l w := by
  cases m with
  | starting | travelling | stopping => exact .inr ⟨_, _, _, rfl⟩
  | _ => exact .inl trivial

/-! ### The gate by its motion before the write -/

section
variable {s : State} {g : GateId} {new : GateRecord}

theorem State.staled_fresh_motion (fresh : ¬ (s.gate g).madeStale ((s.gate g).rewritten new)) :
    ((s.staled g new).gate g).motion = ((s.gate g).rewritten new).motion := by
  rw [State.staled_of_fresh fresh, State.remeasured_gate_self]

/-- Staleness under the window of a slot holder, and of a gate at rest. -/
theorem Gate.stales_slot {x : Gate} (slot : x.motion.holdsSlot = true) :
    x.madeStale (x.rewritten new) ↔ x.Stales new new.sampleWindow :=
  Gate.madeStale_rewritten (by cases e : x.motion <;> simp_all [Motion.holdsSlot, Motion.isOutOfService])
    (by rw [if_pos slot])

theorem Gate.stales_hold {x : Gate} {h : Hold} {d : Option Target} (e : x.motion = .hold h d) :
    x.madeStale (x.rewritten new) ↔ x.Stales new (8 * new.sampleWindow) :=
  Gate.madeStale_rewritten (by rw [e]; rfl) (by rw [e]; rfl)

theorem State.writeGate_opening : ((s.writeGate g new).gate g).opening = ((s.gate g).rewritten new).opening ∧
    ((s.writeGate g new).gate g).skew = ((s.gate g).rewritten new).skew := by
  obtain ⟨m, b, e⟩ := s.writeGate_gate g new
  rw [e]
  exact ⟨rfl, rfl⟩

/-! #### The same service -/

theorem State.writeGate_outOfService (same : (s.record g).inService = new.inService) {d : Option Target}
    (e : (s.gate g).motion = .outOfService d) : ((s.writeGate g new).gate g).motion =
      .outOfService (d.map fun t => t.refitted (s.record g).fullTravel new.fullTravel) := by
  have motion : ((s.reserved g new).gate g).motion =
      .outOfService (d.map fun t => t.refitted (s.record g).fullTravel new.fullTravel) := by
    rw [State.reserved_same same, State.staled_fresh_motion (Gate.not_madeStale_outOfService (by rw [e]; rfl)),
      Gate.rewritten_outOfService e]
    rfl
  exact (State.writeGate_stands (by rw [motion]; trivial)).1.trans motion

theorem State.writeGate_pending (same : (s.record g).inService = new.inService) {q : Request}
    (e : (s.gate g).motion = .pending q) {k : Target}
    (hk : k = q.toTarget.refitted (s.record g).fullTravel new.fullTravel)
    (far : ∀ o, ((s.writeGate g new).gate g).opening = some o → new.arriveTol < distance k.target o) :
    (∃ q', ((s.writeGate g new).gate g).motion.request = some q' ∧ q'.toTarget = k) ∨
      ∃ h, ((s.writeGate g new).gate g).motion = .hold h (some k) := by
  obtain ⟨q', pending, target⟩ := Gate.rewritten_pending (new := new) e
  have kept : q'.toTarget = k := target.trans hk.symm
  by_cases stale : (s.gate g).madeStale ((s.gate g).rewritten new)
  · have motion : ((s.reserved g new).gate g).motion = .hold { primary := .stale, further := [] } (some k) := by
      rw [State.reserved_same same, State.staled_of_stale stale, pending, Motion.faulted, kept]
    exact .inr ⟨_, (State.writeGate_stands (by rw [motion]; trivial)).1.trans motion⟩
  · have motion : ((s.reserved g new).gate g).motion = .pending q' := by
      rw [State.reserved_same same, State.staled_fresh_motion stale, pending]
    have stages := (s.reach_reserved g new).gate g
    rw [State.remeasured_gate_self] at stages
    have wants : ((s.reserved g new).gate g).Wants k := by
      refine ⟨fun o opening => ?_, .inl ⟨q', by rw [motion]; rfl, kept⟩⟩
      rw [stages] at opening ⊢
      exact far o (State.writeGate_opening.1.trans opening)
    exact (State.writeGate_wants (by rw [motion]; trivial) wants).2

/-! #### A hold that stays -/

theorem Hold.withReason_eq (h : Hold) : h.withReason .stale =
    { h with further := if h.primary = .stale ∨ .stale ∈ h.further then h.further else h.further ++ [.stale] } := by
  by_cases old : h.primary = .stale ∨ HoldReason.stale ∈ h.further
  · rw [Hold.withReason, if_pos (old.imp Eq.symm id)]
    simp [old]
  · rw [Hold.withReason, if_neg fun k => old (k.imp Eq.symm id)]
    simp [old]

theorem State.reserved_hold (stays : (s.record g).inService = false ∨ new.inService = true) {h : Hold} {d : Option Target}
    (e : ((s.staled g new).gate g).motion = .hold h d) : s.reserved g new = s.staled g new := by
  cases before : (s.record g).inService with
  | false =>
    cases after : new.inService with
    | false => exact State.reserved_same (before.trans after.symm)
    | true => rw [State.reserved_in before after, State.serviceIn_hold e]
  | true =>
    have after : new.inService = true := by simpa [before] using stays
    exact State.reserved_same (before.trans after.symm)

theorem State.writeGate_hold (stays : (s.record g).inService = false ∨ new.inService = true) {h : Hold}
    {d : Option Target} (e : (s.gate g).motion = .hold h d) :
    (¬ (s.gate g).Stales new (8 * new.sampleWindow) → ((s.writeGate g new).gate g).motion =
      .hold h (d.map fun t => t.refitted (s.record g).fullTravel new.fullTravel)) ∧
    ((s.gate g).Stales new (8 * new.sampleWindow) → ((s.writeGate g new).gate g).motion =
      .hold (h.withReason .stale) (d.map fun t => t.refitted (s.record g).fullTravel new.fullTravel)) := by
  have held {k : Hold} {d' : Option Target} (m : ((s.staled g new).gate g).motion = .hold k d') :
      ((s.writeGate g new).gate g).motion = .hold k d' := by
    have motion : ((s.reserved g new).gate g).motion = .hold k d' := by rw [State.reserved_hold stays m, m]
    exact (State.writeGate_stands (by rw [motion]; trivial)).1.trans motion
  rw [← Gate.stales_hold e]
  refine ⟨fun fresh => held ?_, fun stale => held ?_⟩
  · rw [State.staled_fresh_motion fresh, Gate.rewritten_hold e]
    rfl
  · rw [State.staled_of_stale stale, Gate.rewritten_hold e]
    rfl

/-! #### Put in service -/

theorem State.writeGate_putIn (before : (s.record g).inService = false) (after : new.inService = true)
    {d : Option Target} (e : (s.gate g).motion = .outOfService d) :
    ((s.writeGate g new).gate g).motion = .hold { primary := .stale, further := [] }
        (d.map fun t => t.refitted (s.record g).fullTravel new.fullTravel) ∧
      (s.writeGate g new).faultN = true ∧
      (s.notices.length < 16 → PostedNotice.mk (.held g .stale ((s.writeGate g new).gate g).opening
        ((s.writeGate g new).gate g).skew) s.tideClock ∈ (s.writeGate g new).notices) := by
  have fresh := Gate.not_madeStale_outOfService (x := s.gate g) (new := new) (by rw [e]; rfl)
  have reserved : s.reserved g new = (s.remeasured g new).makeHold g .stale
      (d.map fun t => t.refitted (s.record g).fullTravel new.fullTravel) := by
    rw [State.reserved_in before after, State.staled_of_fresh fresh, State.serviceIn_outOfService]
    rw [State.remeasured_gate_self, Gate.rewritten_outOfService e]
    rfl
  have motion : ((s.reserved g new).gate g).motion = .hold { primary := .stale, further := [] }
      (d.map fun t => t.refitted (s.record g).fullTravel new.fullTravel) := by
    rw [reserved]
    simp [State.makeHold]
  have held := (State.writeGate_stands (by rw [motion]; trivial)).1.trans motion
  refine ⟨held, ?_, fun room => (s.reach_writeGate g new).notices ?_⟩
  · rw [(s.reach_writeGate g new).faultN rfl]
    exact holdPresent_of_isHold (g := g) (by rw [held]; rfl)
  · obtain ⟨opening, skew⟩ := State.writeGate_opening (s := s) (g := g) (new := new)
    change _ ∈ (s.reserved g new).notices
    rw [reserved, State.makeHold, State.postHeld, State.post_of_room _ _ (by simpa [State.remeasured_notices] using room)]
    refine List.mem_append_right _ (List.mem_singleton.mpr ?_)
    simp only [State.setMotion_gate_self, State.setMotion_tideClock, State.remeasured_tideClock,
      State.remeasured_gate_self, opening, skew]
    rfl

theorem State.writeGate_goesOn (before : (s.record g).inService = false) (after : new.inService = true)
    {c : Option Target} {l : Leg} {w : Nat} (e : (s.gate g).motion = .stopping (.outOfService c) l w)
    (fresh : ¬ (s.gate g).Stales new new.sampleWindow) :
    (s.stopAsserted = true ∨ c = none → ∃ stamp,
      ((s.writeGate g new).gate g).motion = .stopping .idle { l with stamp := stamp } w ∧
        (s.waiting = [] → stamp = l.stamp)) ∧
    ∀ k, s.stopAsserted = false → c = some k → ∃ stamp, ((s.writeGate g new).gate g).motion =
      .stopping (.restartLeg (.fresh k.target k.level .station)) { l with stamp := stamp } w ∧
        (s.waiting = [] → stamp = l.stamp) := by
  have slot : (s.gate g).motion.holdsSlot = true := by rw [e]; rfl
  rw [← Gate.stales_slot slot] at fresh
  have motion : ((s.remeasured g new).gate g).motion = .stopping (.outOfService c) l w := by
    rw [State.remeasured_gate_self, Gate.rewritten_same (Motion.lowered_slot slot), e]
  have reserved : s.reserved g new = (s.remeasured g new).serviceIn g := by
    rw [State.reserved_in before after, State.staled_of_fresh fresh]
  obtain ⟨ends, restarts⟩ := State.serviceIn_stopping motion
  rw [← reserved, State.remeasured_stopAsserted] at ends restarts
  exact ⟨fun none => State.writeGate_stops (ends none), fun k free some => State.writeGate_stops (restarts k free some)⟩

/-! #### Taken out of service -/

/-- A gate taken out that ends out of service has its excursion mark off. -/
theorem State.writeGate_out_excursion (before : (s.record g).inService = true) (after : new.inService = false)
    (serving : (s.gate g).motion.isOutOfService = false) {d : Option Target}
    (e : ((s.writeGate g new).gate g).motion = .outOfService d) :
    ((s.writeGate g new).gate g).excursionReported = false := by
  have serves : ((s.staled g new).gate g).motion.isOutOfService = false := by
    have kind : ((s.gate g).rewritten new).motion.isOutOfService = false := by rw [Gate.rewritten_kind.1, serving]
    by_cases stale : (s.gate g).madeStale ((s.gate g).rewritten new)
    · rw [State.staled_of_stale stale]
      exact Motion.faulted_serving kind _
    · rwa [State.staled_fresh_motion stale]
  have motion := State.reserved_out_motion (s := s) (g := g) before after
  obtain stands | ⟨n, l, w, stops⟩ := Motion.takenOut_cases ((s.staled g new).gate g).motion (4 * new.sampleWindow)
  · obtain ⟨same, mark, -⟩ := State.writeGate_stands (s := s) (g := g) (new := new) (by rw [motion]; exact stands)
    rw [mark]
    rw [same] at e
    rw [State.reserved_out before after] at e ⊢
    exact State.serviceOut_excursion serves e
  · obtain ⟨stamp, stopping, -⟩ := State.writeGate_stops (motion.trans stops)
    rw [stopping] at e
    cases e

/-- A gate at rest taken out is out of service with what it keeps, made stale or not. -/
theorem State.writeGate_out_rest (before : (s.record g).inService = true) (after : new.inService = false)
    {d : Option Target}
    (fresh : ((s.gate g).rewritten new).motion.takenOut (4 * new.sampleWindow) = .outOfService d)
    (stale : (((s.gate g).rewritten new).motion.faulted .stale).takenOut (4 * new.sampleWindow) = .outOfService d) :
    ((s.writeGate g new).gate g).motion = .outOfService d ∧
      (g ∉ (s.reserved g new).waiting → g ∉ (s.writeGate g new).waiting) ∧
      (s.reserved g new).ClearsNone (s.writeGate g new) := by
  have motion : ((s.reserved g new).gate g).motion = .outOfService d := by
    rw [State.reserved_out_motion before after]
    by_cases k : (s.gate g).madeStale ((s.gate g).rewritten new)
    · rw [State.staled_of_stale k, stale]
    · rw [State.staled_fresh_motion k, fresh]
  obtain ⟨same, -, waiting, clears⟩ := State.writeGate_stands (s := s) (g := g) (new := new) (by rw [motion]; trivial)
  exact ⟨same.trans motion, waiting, clears⟩

theorem State.writeGate_out_idle (before : (s.record g).inService = true) (after : new.inService = false)
    (e : (s.gate g).motion = .idle) : ((s.writeGate g new).gate g).motion = .outOfService none := by
  have idle : ((s.gate g).rewritten new).motion = .idle := by
    rw [Gate.rewritten_same (by rw [e]; exact fun _ => rfl), e]
  exact (State.writeGate_out_rest before after (by rw [idle]; rfl) (by rw [idle]; rfl)).1

theorem State.writeGate_out_pending (before : (s.record g).inService = true) (after : new.inService = false)
    {q : Request} (e : (s.gate g).motion = .pending q) : ((s.writeGate g new).gate g).motion =
      .outOfService (some (q.toTarget.refitted (s.record g).fullTravel new.fullTravel)) ∧
      g ∉ (s.writeGate g new).waiting := by
  obtain ⟨q', pending, target⟩ := Gate.rewritten_pending (new := new) e
  obtain ⟨motion, waiting, -⟩ := State.writeGate_out_rest (s := s) (g := g) before after
    (d := some q'.toTarget) (by rw [pending]; rfl) (by rw [pending]; rfl)
  rw [target] at motion
  refine ⟨motion, waiting ?_⟩
  rw [State.reserved_out before after]
  by_cases stale : (s.gate g).madeStale ((s.gate g).rewritten new)
  · have left : g ∉ (s.staled g new).waiting := State.newlyStale_leaves _ (by rwa [State.remeasured_gate_self])
      (by rw [State.remeasured_gate_self]; exact pending)
    exact fun waits => left (State.serviceChange_waiting _ g true false waits)
  · exact State.serviceOut_leaves (by rw [State.staled_fresh_motion stale, pending])

theorem State.writeGate_out_hold (before : (s.record g).inService = true) (after : new.inService = false)
    {h : Hold} {d : Option Target} (e : (s.gate g).motion = .hold h d) : ((s.writeGate g new).gate g).motion =
      .outOfService (d.map fun t => t.refitted (s.record g).fullTravel new.fullTravel) ∧
      s.ClearsNone (s.writeGate g new) := by
  have hold := Gate.rewritten_hold (new := new) e
  obtain ⟨motion, -, clears⟩ := State.writeGate_out_rest (s := s) (g := g) before after (by rw [hold]; rfl)
    (by rw [hold]; rfl)
  refine ⟨motion, State.ClearsNone.trans ?_ clears⟩
  rw [State.reserved_out before after]
  exact ((State.ClearsNone.of_eq State.remeasured_notices).trans (State.newlyStale_clears _ g _)).trans
    (State.serviceOut_clears _ g)

/-- A gate with a slot taken out goes on toward OUT_OF_SERVICE, or is held first when the write makes it stale, and so
is out of service at once (R12, R81; log 13). -/
theorem State.writeGate_out_slot (before : (s.record g).inService = true) (after : new.inService = false)
    (slot : (s.gate g).motion.holdsSlot = true) {c : Option Target} {l : Leg} {w : Nat}
    (fresh : (s.gate g).motion.takenOut (4 * new.sampleWindow) = .stopping (.outOfService c) l w)
    (stale : ((s.gate g).motion.faulted .stale).takenOut (4 * new.sampleWindow) = .outOfService c) :
    (¬ (s.gate g).Stales new new.sampleWindow → ∃ stamp,
      ((s.writeGate g new).gate g).motion = .stopping (.outOfService c) { l with stamp := stamp } w ∧
        (s.waiting = [] → stamp = l.stamp)) ∧
    ((s.gate g).Stales new new.sampleWindow → ((s.writeGate g new).gate g).motion = .outOfService c) := by
  have same := Gate.rewritten_same (x := s.gate g) (new := new) (Motion.lowered_slot slot)
  have motion := State.reserved_out_motion (s := s) (g := g) before after
  rw [← Gate.stales_slot slot]
  refine ⟨fun k => State.writeGate_stops ?_, fun k => ?_⟩
  · rw [motion, State.staled_fresh_motion k, same, fresh]
  · rw [State.staled_of_stale k, same, stale] at motion
    exact (State.writeGate_stands (by rw [motion]; trivial)).1.trans motion

/-- HALT goes to the hoists of a moving gate that is taken out (R69, R81). -/
theorem State.writeGate_out_halts (before : (s.record g).inService = true) (after : new.inService = false)
    (moving : (s.gate g).motion.moves) {side : Side} {a : LinkAddr} (names : new.hoist side = some a) :
    a ∈ (s.writeGate g new).haltQueue := by
  have slot : (s.gate g).motion.holdsSlot = true := by
    cases e : (s.gate g).motion with
    | starting | travelling => rfl
    | _ => rw [e] at moving; exact moving.elim
  have same := Gate.rewritten_same (x := s.gate g) (new := new) (Motion.lowered_slot slot)
  have record : (s.remeasured g new).record g = new := by rw [State.remeasured_record, if_pos rfl]
  refine (s.reach_writeGate g new).haltQueue ?_
  change a ∈ (s.reserved g new).haltQueue
  rw [State.reserved_out before after]
  by_cases stale : (s.gate g).madeStale ((s.gate g).rewritten new)
  · have faulted := State.fault_haltQueue (s.remeasured g new) (g := g)
      (by rwa [State.remeasured_gate_self, same]) .stale (by rw [record]; exact names)
    have after := State.reach_newlyStale_of_stale (s.remeasured g new) (g := g) (before := s.gate g)
      (by rwa [State.remeasured_gate_self])
    exact (after.trans (State.reach_serviceOut _ g)).haltQueue faulted
  · rw [State.staled_of_fresh stale]
    exact State.serviceOut_haltQueue _ (by rwa [State.remeasured_gate_self, same]) (by rw [record]; exact names)

end

end Sys2Proof.Machine

/-! ## An accepted gate record write takes effect: the statement -/

namespace Sys2Proof.Machine

/-- A gate that holds a slot is written only with the hoists that it has (R11). -/
theorem Gate.runningCheck_hoist {x : Gate} {new : GateRecord} (free : x.runningCheck new = none)
    (slot : x.motion.holdsSlot = true) (side : Side) : new.hoist side = x.record.hoist side := by
  simp only [Gate.runningCheck, slot, if_true, Option.map_eq_none_iff] at free
  unfold GateRecord.fixedDiffers at free
  split_ifs at free
  cases side <;> simp_all [GateRecord.hoist]

theorem Gate.rewritten_sample_lost {x : Gate} {new : GateRecord} {side : Side}
    (differs : x.record.hoist side ≠ new.hoist side) : (x.rewritten new).sample side = none := by
  rw [Gate.rewritten_sample, if_neg differs]
  rfl

/-- A kept sample is corrected anew where offsets or full_travel change (R5). -/
theorem Gate.rewritten_sample_kept {x : Gate} {new : GateRecord} {side : Side}
    (same : x.record.hoist side = new.hoist side) :
    (x.rewritten new).sample side = (x.sample side).map fun v =>
      if x.record.leftOffset = new.leftOffset ∧ x.record.rightOffset = new.rightOffset ∧
          x.record.fullTravel = new.fullTravel then v
      else { v with corrected := min ((v.raw : Int) + new.offset side).toNat new.fullTravel } := by
  rw [Gate.rewritten_sample, if_pos same]
  congr 1
  funext v
  by_cases unchanged : x.record.leftOffset = new.leftOffset ∧ x.record.rightOffset = new.rightOffset ∧
      x.record.fullTravel = new.fullTravel
  · rw [if_pos unchanged, if_neg]
    simp [GateRecord.travelChanged, unchanged]
  · rw [if_neg unchanged, if_pos]
    · rfl
    · simp only [GateRecord.travelChanged, Bool.or_eq_true, decide_eq_true_eq, ne_eq]
      tauto

section
variable (s : State) (p : List Byte) (result : Result) (detail : Nat) (gen : CountWord)

@[simp] theorem State.writeReply_gate (g : GateId) : (s.writeReply p result detail gen).gate g = s.gate g := rfl

@[simp] theorem State.writeReply_record (g : GateId) : (s.writeReply p result detail gen).record g = s.record g := rfl

@[simp] theorem State.writeReply_route (a : LinkAddr) : (s.writeReply p result detail gen).route a = s.route a := rfl

@[simp] theorem State.writeReply_computeCeiling (x : Gate) :
    (s.writeReply p result detail gen).computeCeiling x = s.computeCeiling x := rfl

@[simp] theorem State.writeReply_faultN : (s.writeReply p result detail gen).faultN = s.faultN := rfl

@[simp] theorem State.writeReply_notices : (s.writeReply p result detail gen).notices = s.notices := rfl

@[simp] theorem State.writeReply_waiting : (s.writeReply p result detail gen).waiting = s.waiting := rfl

@[simp] theorem State.writeReply_haltQueue : (s.writeReply p result detail gen).haltQueue = s.haltQueue := rfl

end

theorem State.takeWriteGate_accepted {s : State} {g : GateId} {p : List Byte}
    (named : (if byteAt p 0 = 0 then indexOf 12 (byteAt p 1) else none) = some g) (h : s.judgeGate g p = none) :
    s.takeWriteGate p =
      (s.writeGate g (RawGate.parse (recordBytes p)).record).writeReply p .accepted 0 ((s.gate g).generation + 1) := by
  simp only [State.takeWriteGate, named, h]

/-- A moving gate taken out: HALT to its hoists, and a stop toward OUT_OF_SERVICE or, made stale, that state at once. -/
theorem State.writeGate_out_moving {s : State} {g : GateId} {new : GateRecord} (before : (s.record g).inService = true)
    (after : new.inService = false) (running : (s.gate g).runningCheck new = none) {q : Request} {l : Leg}
    (moving : (∃ w, (s.gate g).motion = .starting q l w) ∨ (s.gate g).motion = .travelling q l) :
    (∀ side a, (s.record g).hoist side = some a → a ∈ (s.writeGate g new).haltQueue) ∧
    (¬ (s.gate g).Stales new new.sampleWindow → ∃ stamp, ((s.writeGate g new).gate g).motion =
      .stopping (.outOfService (some q.toTarget)) { l with acks := .empty, paused := none, stamp := stamp }
        (4 * new.sampleWindow) ∧ (s.waiting = [] → stamp = l.stamp)) ∧
    ((s.gate g).Stales new new.sampleWindow →
      ((s.writeGate g new).gate g).motion = .outOfService (some q.toTarget)) := by
  have moves : (s.gate g).motion.moves := by
    obtain ⟨w, e⟩ | e := moving <;> (rw [e]; trivial)
  have slot : (s.gate g).motion.holdsSlot = true := by
    obtain ⟨w, e⟩ | e := moving <;> (rw [e]; rfl)
  refine ⟨fun side a names => State.writeGate_out_halts before after moves
    ((Gate.runningCheck_hoist running slot side).trans names), ?_⟩
  refine State.writeGate_out_slot (l := { l with acks := .empty, paused := none }) before after slot ?_ ?_
  · obtain ⟨w, e⟩ | e := moving <;> (rw [e]; rfl)
  · obtain ⟨w, e⟩ | e := moving <;> (rw [e]; rfl)

theorem State.writeGate_out_stopping {s : State} {g : GateId} {new : GateRecord} (before : (s.record g).inService = true)
    (after : new.inService = false) {n : NextStep} {l : Leg} {w : Nat} (e : (s.gate g).motion = .stopping n l w) :
    (¬ (s.gate g).Stales new new.sampleWindow → ∃ stamp, ((s.writeGate g new).gate g).motion =
      .stopping (.outOfService n.kept) { l with stamp := stamp } w ∧ (s.waiting = [] → stamp = l.stamp)) ∧
    ((s.gate g).Stales new new.sampleWindow → ((s.writeGate g new).gate g).motion = .outOfService n.kept) :=
  State.writeGate_out_slot before after (by rw [e]; rfl) (by rw [e]; rfl) (by rw [e]; rfl)

/-- Settles O53: the reply apart, the command is `State.writeGate`; what its stages leave of the gate's motion is said case by
case (`State.writeGate_pending` and its like), and what ends the write only passes the gate (`State.passes_writeGate`). -/
theorem acceptedGateWritesTakeEffect : Obligations.AcceptedGateWritesTakeEffect := by
  intro s g flag e1 e0 r rest length h accepted bound
  simp only
  let taken : State := { s with spRx := rest }
  let new := (RawGate.parse r).record
  have row : writeRow (0 :: byte g.val :: flag :: e1 :: e0 :: r) = some .writeGate :=
    (writeRow_table 0 (byte g.val) (flag :: e1 :: e0 :: r)).1 rfl (by simp [length])
  obtain ⟨sound, -, running, free⟩ := State.judgeGate_eq_none accepted
  have apart := (RawGate.record_legal s _ sound).apart
  have boundTaken : taken.RoutesBound :=
    ⟨bound.own, bound.station, bound.self, bound.hoists, bound.gauges, bound.hoistRecords, bound.gaugeRecords⟩
  have answered : taken.takeWriteGate (0 :: byte g.val :: flag :: e1 :: e0 :: r) =
      (taken.writeGate g new).writeReply (0 :: byte g.val :: flag :: e1 :: e0 :: r) .accepted 0
        ((s.gate g).generation + 1) :=
    State.takeWriteGate_accepted (s := taken) (namesRecord g _ rfl (by decide)) accepted
  refine ⟨(taken.writeGate g new).writeReply (0 :: byte g.val :: flag :: e1 :: e0 :: r) .accepted 0
    ((s.gate g).generation + 1),
    congrArg Host.Outcome.next ((h.takeWrite row State.takeWriteGate).trans answered), ?_⟩
  simp only [State.writeReply_gate, State.writeReply_record, State.writeReply_route, State.writeReply_computeCeiling,
    State.writeReply_faultN, State.writeReply_notices, State.writeReply_waiting, State.writeReply_haltQueue]
  obtain ⟨record, generation, others⟩ := taken.writeGate_record g new
  refine ⟨record, generation, others, fun side differs => ⟨?_, fun a names => ?_⟩, fun side same => ?_,
    taken.writeGate_ceiling g new, fun same => ⟨fun d e => ?_, fun q e far => ?_⟩, fun stays hold d e => ⟨?_, ?_⟩,
    fun before after => ⟨fun d e => ?_, fun c l w e fresh => ?_⟩,
    fun before after => ⟨fun serving d e => ?_, fun e => ?_, fun q e => ?_, fun hold d e => ?_, fun q l moving => ?_,
      fun n l w e => ?_⟩, ?_⟩
  · exact (taken.writeGate_sample g new side).trans (Gate.rewritten_sample_lost differs)
  · obtain ⟨role, binding, kept⟩ := State.recorded_route boundTaken free apart (side := side) differs names
    exact taken.writeGate_route g new a ▸ ⟨role, binding, kept⟩
  · exact (taken.writeGate_sample g new side).trans (Gate.rewritten_sample_kept same)
  · exact State.writeGate_outOfService (s := taken) same e
  · exact State.writeGate_pending (s := taken) same e rfl far
  · exact (State.writeGate_hold (s := taken) stays e).1
  · exact fun stale => Hold.withReason_eq hold ▸ (State.writeGate_hold (s := taken) stays e).2 stale
  · exact State.writeGate_putIn (s := taken) before after e
  · exact State.writeGate_goesOn (s := taken) before after e fresh
  · exact State.writeGate_out_excursion (s := taken) before after serving e
  · exact State.writeGate_out_idle (s := taken) before after e
  · exact State.writeGate_out_pending (s := taken) before after e
  · exact State.writeGate_out_hold (s := taken) before after e
  · exact State.writeGate_out_moving (s := taken) before after running moving
  · have kept := State.writeGate_out_stopping (s := taken) before after e
    cases n <;> exact kept
  · have replies := taken.writeGate_replies g new
    have reply := (taken.writeGate g new).writeReply_cons 0 (byte g.val) (flag :: e1 :: e0 :: r) .accepted 0
      ((s.gate g).generation + 1)
    rw [reply, State.reply_replies, replies]
    rfl

end Sys2Proof.Machine

/-! ## What the Sequencer and the Arbiter tell of, and what they leave

A change of levels is handed on to the Sequencer and the Arbiter (R31, R41). Of the notices they post none is the Level
Unit's own (`State.tells_ceilingCheck`, `State.tells_evaluateNow`), and of the state they change the motion alone
(`State.still`). -/

namespace Sys2Proof.Machine

/-! ### The notices that are posted -/

/-- From `s` to `t` the Notice Queue grows at its tail, by notices of one sort alone (R179). -/
def State.Posts (sort : Notice → Prop) (s t : State) : Prop :=
  ∃ ns, t.notices = s.notices ++ ns ∧ ∀ n ∈ ns, sort n.notice

section
variable {sort : Notice → Prop} {s t u : State}

theorem State.Posts.of_eq (e : t.notices = s.notices) : s.Posts sort t := ⟨[], by simp [e], by simp⟩

theorem State.Posts.refl (s : State) : s.Posts sort s := .of_eq rfl

theorem State.Posts.trans (h : s.Posts sort t) (k : t.Posts sort u) : s.Posts sort u := by
  obtain ⟨ms, e, sortM⟩ := h
  obtain ⟨ns, f, sortN⟩ := k
  refine ⟨ms ++ ns, by rw [f, e, List.append_assoc], fun n hn => ?_⟩
  exact (List.mem_append.mp hn).elim (sortM n) (sortN n)

theorem State.Posts.mono {wider : Notice → Prop} (h : s.Posts sort t) (sub : ∀ n, sort n → wider n) :
    s.Posts wider t := by
  obtain ⟨ns, e, sorts⟩ := h
  exact ⟨ns, e, fun n hn => sub _ (sorts n hn)⟩

theorem State.Posts.notices_prefix (h : s.Posts sort t) : s.notices <+: t.notices := by
  obtain ⟨ns, e, -⟩ := h
  exact ⟨ns, e.symm⟩

theorem State.Posts.mem (h : s.Posts sort t) {n : PostedNotice} (hn : n ∈ t.notices) :
    n ∈ s.notices ∨ sort n.notice := by
  obtain ⟨ns, e, sorts⟩ := h
  rw [e] at hn
  exact (List.mem_append.mp hn).imp_right (sorts n)

theorem State.Posts.grants (h : s.Posts sort t) (grants : Nat) :
    s.Posts sort { t with grantCounter := grants } := h

theorem State.posts_post (s : State) {n : Notice} (h : sort n) : s.Posts sort (s.post n) := by
  by_cases room : s.notices.length < 16
  · exact ⟨[_], by rw [s.post_of_room n room], by simpa using h⟩
  · exact .of_eq (by rw [s.post_of_full n room])

theorem State.posts_postAll (s : State) (ns : List Notice) (h : ∀ n ∈ ns, sort n) : s.Posts sort (s.postAll ns) := by
  unfold State.postAll
  induction ns generalizing s with
  | nil => exact .refl s
  | cons n ns ih =>
    exact (s.posts_post (h n List.mem_cons_self)).trans (ih _ fun m hm => h m (List.mem_cons_of_mem n hm))

theorem State.posts_sweep (s : State) (gs : List GateId) {act : State → GateId → State}
    (one : ∀ (t : State) g, t.Posts sort (act t g)) : s.Posts sort (s.sweep gs act) := by
  unfold State.sweep
  induction gs generalizing s with
  | nil => exact .refl s
  | cons g gs ih => exact (one s g).trans (ih _)

end

/-- The notices about a gate's motion, as the Sequencer and the Arbiter post them (R182). -/
def Notice.ofMotion : Notice → Prop
  | .arrived _ _ => True
  | .clamped _ _ _ _ => True
  | .held _ _ _ _ => True
  | .holdCleared _ _ => True
  | .preempted _ _ => True
  | .excursion _ _ _ => True
  | _ => False

/-- The notices posted from `s` to `t` are about motion. -/
abbrev State.Tells (s t : State) : Prop := s.Posts Notice.ofMotion t

/-! #### Hoist orders and decisions -/

theorem State.forHoist_notices (s : State) (g : GateId) (side : Side) {send : State → LinkAddr → State}
    (sent : ∀ (t : State) a, (send t a).notices = t.notices) : (s.forHoist g side send).notices = s.notices := by
  unfold State.forHoist
  split
  · exact sent _ _
  · rfl

@[simp] theorem State.haltGate_notices (s : State) (g : GateId) : (s.haltGate g).notices = s.notices := by
  unfold State.haltGate
  rw [State.forHoist_notices, State.forHoist_notices] <;> simp

@[simp] theorem State.runGate_notices (s : State) (g : GateId) (target speed : Nat) :
    (s.runGate g target speed).notices = s.notices := by
  unfold State.runGate
  simp only
  rw [State.forHoist_notices, State.forHoist_notices] <;> simp

@[simp] theorem State.resumePaused_notices (s : State) (g : GateId) (l : Leg) :
    (s.resumePaused g l).notices = s.notices := by
  unfold State.resumePaused
  split
  · exact s.forHoist_notices g _ (by simp)
  · rfl

theorem State.tells_setMotion (s : State) (g : GateId) (m : Motion) : s.Tells (s.setMotion g m) := .of_eq rfl

theorem State.tells_weigh (s : State) (g : GateId) (r : Request) : s.Tells (s.weigh g r).2.2 := by
  unfold State.weigh
  simp only
  split
  · split
    · exact .refl s
    · exact s.posts_post trivial
  · exact .refl s

/-! #### The Sequencer -/

theorem State.tells_excursionCheck (s : State) (g : GateId) : s.Tells (s.excursionCheck g) := by
  unfold State.excursionCheck
  split
  · split
    · exact .of_eq rfl
    · unfold State.actOnExcursion
      split
      · exact .of_eq rfl
      · split
        · exact .refl s
        · exact (s.posts_post trivial).trans (.of_eq rfl)
  · exact .refl s

theorem State.tells_enterStopping (s : State) (g : GateId) (next : NextStep) (l : Leg) :
    s.Tells (s.enterStopping g next l) := .of_eq (by simp [State.enterStopping])

theorem State.tells_goOn (s : State) (g : GateId) (r : Request) (l : Leg) (window : Option Nat) (p : Plan) :
    s.Tells (s.goOn g r l window p) := by
  unfold State.goOn
  simp only
  split <;> exact .of_eq (by simp)

theorem State.tells_retargetMoving (s : State) (g : GateId) (r : Request) (l : Leg) (window : Option Nat) :
    s.Tells (s.retargetMoving g r l window) := by
  have weighed := s.tells_weigh g r
  unfold State.retargetMoving
  simp only
  split
  · exact weighed.trans (State.tells_enterStopping _ _ _ _)
  · exact weighed.trans (State.tells_enterStopping _ _ _ _)
  · exact weighed.trans (State.tells_setMotion _ _ _)
  · split
    · split
      · exact weighed.trans (State.tells_setMotion _ _ _)
      · exact weighed.trans (State.tells_goOn _ _ _ _ _ _)
    · exact weighed.trans (State.tells_enterStopping _ _ _ _)

theorem State.tells_retarget (s : State) (g : GateId) : s.Tells (s.retarget g) := by
  unfold State.retarget
  split
  · exact s.tells_retargetMoving _ _ _ _
  · exact s.tells_retargetMoving _ _ _ _
  · exact .refl s

theorem State.tells_ceilingCheck (s : State) (g : GateId) : s.Tells (s.ceilingCheck g) := by
  unfold State.ceilingCheck
  split
  · exact s.tells_excursionCheck g
  · exact s.tells_retarget g
  · exact s.tells_retarget g
  · exact .refl s

theorem State.tells_makeHold (s : State) (g : GateId) (r : HoldReason) (d : Option Target) :
    s.Tells (s.makeHold g r d) := (s.tells_setMotion g _).trans (State.posts_post _ trivial)

theorem State.tells_fault (s : State) (g : GateId) (r : HoldReason) : s.Tells (s.fault g r) := by
  have halted (d : Option Target) : s.Tells (((s.haltGate g).makeHold g r d).releaseSlot) :=
    (State.Posts.of_eq (s.haltGate_notices g)).trans ((State.tells_makeHold _ g r d).trans (.of_eq rfl))
  unfold State.fault
  split
  · exact .refl s
  · exact s.tells_makeHold g r none
  · exact State.Posts.trans (t := s.leaveList g _) (.of_eq rfl) (State.posts_post _ trivial)
  · exact halted _
  · exact halted _
  · exact halted _
  · exact s.tells_setMotion g _

theorem State.tells_faultIfStale (s : State) (g : GateId) : s.Tells (s.faultIfStale g) := by
  have one (side : Side) (t : State) : t.Tells (if (t.gate g).stale side then t.fault g .stale else t) := by
    split
    · exact t.tells_fault g .stale
    · exact .refl t
  exact (one .left s).trans (one .right _)

/-! #### The Arbiter -/

theorem State.tells_markMasked (s : State) : s.Tells s.markMasked := by
  refine s.posts_sweep _ fun t g => ?_
  unfold State.markOne
  split
  · exact t.tells_setMotion g _
  · exact .refl t

theorem State.tells_readyCounter (s : State) : s.Tells s.readyCounter := by
  have restamped (f : Nat → Nat) : s.Tells (s.restampAll f) :=
    s.posts_sweep allGates fun t g => t.tells_setMotion g _
  unfold State.readyCounter
  split
  · exact .refl s
  · rw [State.renumber_eq]
    exact (restamped _).grants _

theorem State.tells_startLeg (s : State) (g : GateId) (r : Request) (p : Plan) (stamp : Nat) :
    s.Tells (s.startLeg g r p stamp) := .of_eq (by simp [State.startLeg])

theorem State.tells_grant (s : State) (g : GateId) (r : Request) (p : Plan) : s.Tells (s.grant g r p) := by
  unfold State.grant
  simp only
  refine (s.tells_readyCounter.trans (.of_eq ?_)).trans
    ((State.tells_startLeg _ g r p _).trans (State.tells_faultIfStale _ g))
  rfl

theorem State.tells_completePending (s : State) (g : GateId) : s.Tells (s.completePending g) := by
  have arrived (t : State) : t.Tells (t.postArrived g) := by
    unfold State.postArrived
    split
    · exact t.posts_post trivial
    · exact .refl t
  exact ((State.Posts.of_eq (t := s.leaveList g .idle) rfl).trans (arrived _)).trans (State.tells_excursionCheck _ g)

theorem State.tells_weighInWalk (s : State) (g : GateId) : s.Tells (s.weighInWalk g) := by
  unfold State.weighInWalk
  split
  · rename_i r _
    have weighed := s.tells_weigh g r
    split <;> rename_i e <;> rw [e] at weighed
    · exact weighed.trans (State.tells_grant _ _ _ _)
    · exact weighed.trans (State.tells_completePending _ _)
    · exact weighed.trans (State.tells_setMotion _ _ _)
  · exact .refl s

theorem State.tells_walk (s : State) (gs : List GateId) : s.Tells (s.walk gs).1 := by
  induction gs generalizing s with
  | nil => exact .refl s
  | cons g gs ih =>
    unfold State.walk
    split
    · exact (s.tells_weighInWalk g).trans (ih _)
    · exact .refl s

theorem State.tells_weighForPreemption (s : State) (g : GateId) : s.Tells (s.weighForPreemption g).1 := by
  unfold State.weighForPreemption
  split
  · rename_i r _
    have weighed := s.tells_weigh g r
    split <;> rename_i e <;> rw [e] at weighed
    · exact weighed.trans (State.tells_setMotion _ _ _)
    · exact weighed.trans (State.tells_completePending _ _)
    · exact weighed.trans (State.tells_setMotion _ _ _)
  · exact .refl s

theorem State.tells_movable (s : State) (gs : List GateId) : s.Tells (s.movable gs).1 := by
  induction gs generalizing s with
  | nil => exact .refl s
  | cons g gs ih => exact (s.tells_weighForPreemption g).trans (ih _)

theorem State.tells_preempt (s : State) (v b : GateId) : s.Tells (s.preempt v b) := by
  unfold State.preempt
  simp only
  refine State.Posts.trans ?_ (State.posts_post _ trivial)
  split
  · exact s.tells_enterStopping _ _ _
  · exact s.tells_enterStopping _ _ _
  · exact .refl s

theorem State.tells_preemptFor (s : State) (bs : List GateId) : s.Tells (s.preemptFor bs) := by
  induction bs generalizing s with
  | nil => exact .refl s
  | cons b bs ih =>
    unfold State.preemptFor
    split
    · exact .refl s
    · exact (s.tells_preempt _ _).trans (ih _)

theorem State.tells_evaluate (s : State) : s.Tells s.evaluate := by
  have marked : s.Tells { s with evalDue := false }.markMasked :=
    State.Posts.trans (t := { s with evalDue := false }) (.of_eq rfl) (State.tells_markMasked _)
  unfold State.evaluate
  simp only
  split
  · exact marked
  · have walked := marked.trans (State.tells_walk _ { s with evalDue := false }.markMasked.walkOrder)
    split
    · exact walked
    · exact walked.trans ((State.tells_movable _ _).trans (State.tells_preemptFor _ _))

theorem State.tells_evaluateDue (n : Nat) (s : State) : s.Tells (State.evaluateDue n s) := by
  induction n generalizing s with
  | zero => exact .of_eq rfl
  | succ n ih =>
    unfold State.evaluateDue
    split
    · exact s.tells_evaluate.trans (ih _)
    · exact .refl s

theorem State.tells_evaluateNow (s : State) : s.Tells s.evaluateNow :=
  State.Posts.trans (t := s.owe) (.of_eq rfl) (State.tells_evaluateDue _ _)

/-! ### The state without its motion -/

/-- The state with all that motion and ceilings change left blank: gates, FAULT_N, notices, hoist orders and the Arbiter's
counts. Two states with the same still have the same in every other field. -/
def State.still (s : State) : State :=
  { s with
    gates := Vector.replicate 12 .cold, faultN := false, notices := [], overflow := false, haltQueue := []
    orderQueue := [], slotsInUse := 0, grantCounter := 0, waiting := [], evalDue := false }

theorem State.Reach.still {s t : State} (h : s.Reach t) : t.still = s.still := by
  rw [h.frame]
  rfl

theorem State.sweep_still (s : State) (gs : List GateId) {act : State → GateId → State}
    (one : ∀ (t : State) g, (act t g).still = t.still) : (s.sweep gs act).still = s.still := by
  unfold State.sweep
  induction gs generalizing s with
  | nil => rfl
  | cons g gs ih => exact (ih _).trans (one s g)

theorem State.recomputeCeilings_still (s : State) : s.recomputeCeilings.1.still = s.still :=
  s.sweep_still _ fun _ _ => rfl

theorem State.reach_ceilingPath (s : State) : s.recomputeCeilings.1.Reach s.ceilingPath := by
  have checked := State.reach_sweep s.recomputeCeilings.1 s.recomputeCeilings.2 _ State.reach_ceilingCheck
  unfold State.ceilingPath
  simp only
  split
  · exact checked
  · exact checked.trans (State.reach_evaluateNow _)

theorem State.ceilingPath_still (s : State) : s.ceilingPath.still = s.still :=
  s.reach_ceilingPath.still.trans s.recomputeCeilings_still

theorem State.tells_ceilingPath (s : State) : s.Tells s.ceilingPath := by
  have checked := (State.posts_sweep s _ fun t g => .of_eq rfl : s.Tells s.recomputeCeilings.1).trans
    (State.posts_sweep _ s.recomputeCeilings.2 State.tells_ceilingCheck)
  unfold State.ceilingPath
  simp only
  split
  · exact checked
  · exact checked.trans (State.tells_evaluateNow _)

end Sys2Proof.Machine

/-! ## Head pair, ceiling mode and ceilings (R28 to R31, R38, R40) -/

namespace Sys2Proof.Machine

/-! ### Ceilings recomputed -/

/-- Every ceiling is the one that R38 gives. -/
def State.CeilingsSettled (s : State) : Prop := ∀ g, (s.gate g).ceiling = s.computeCeiling (s.gate g)

/-- No gate out of service has a ceiling (R38). -/
def State.CeilingsServe (s : State) : Prop := ∀ g, (s.record g).inService = false → (s.gate g).ceiling = none

theorem State.computeCeiling_unserved (s : State) {x : Gate} (out : x.record.inService = false) :
    s.computeCeiling x = none := by
  simp [State.computeCeiling, out]

theorem State.CeilingsSettled.serve {s : State} (h : s.CeilingsSettled) : s.CeilingsServe :=
  fun g out => (h g).trans (s.computeCeiling_unserved out)

/-- The parts that a ceiling is computed from, and the ceilings. -/
def Part.ofCeilings : Set Part := {.gateRecords, .ceilings, .curves, .levels}

theorem State.CeilingsSettled.of_leaves {s t : State} {P : Set Part} (h : s.CeilingsSettled) (k : s.Leaves P t)
    (apart : ∀ p ∈ Part.ofCeilings, p ∉ P) : t.CeilingsSettled := by
  intro g
  have records := k .gateRecords (apart _ (by simp [Part.ofCeilings]))
  have ceilings := k .ceilings (apart _ (by simp [Part.ofCeilings]))
  have curves := k .curves (apart _ (by simp [Part.ofCeilings]))
  obtain ⟨-, -, head, mode⟩ := k .levels (apart _ (by simp [Part.ofCeilings]))
  rw [ceilings g, h g, State.computeCeiling_congr s mode head curves (records g).1]

theorem State.CeilingsSettled.of_reach {s t : State} (h : s.CeilingsSettled) (k : s.Reach t) : t.CeilingsSettled :=
  h.of_leaves (k.leaves ∅) (by simp)

/-- The ceilings of some gates recomputed. -/
theorem State.sweep_setCeiling_gate (s : State) (gs : List GateId) (g : GateId) :
    (s.sweep gs fun s g => s.setCeiling g (s.computeCeiling (s.gate g))).gate g =
      if g ∈ gs then { s.gate g with ceiling := s.computeCeiling (s.gate g) } else s.gate g := by
  unfold State.sweep
  induction gs generalizing s with
  | nil => rfl
  | cons k gs ih =>
    have ceiling (x y : Gate) (same : y.record = x.record) :
        (s.setCeiling k (s.computeCeiling (s.gate k))).computeCeiling y = s.computeCeiling x :=
      State.computeCeiling_congr s rfl rfl rfl same
    rw [List.foldl_cons, ih, State.setCeiling_gate]
    by_cases e : g = k
    · subst e
      simp [ceiling (s.gate g)]
    · simp [e, ceiling (s.gate g)]

theorem State.recomputeCeilings_gate (s : State) (serve : s.CeilingsServe) (g : GateId) :
    s.recomputeCeilings.1.gate g = { s.gate g with ceiling := s.computeCeiling (s.gate g) } := by
  refine (s.sweep_setCeiling_gate _ g).trans ?_
  split
  · rfl
  · rename_i unchanged
    have same : (s.gate g).ceiling = s.computeCeiling (s.gate g) := by
      cases served : (s.record g).inService with
      | false => exact (serve g served).trans (s.computeCeiling_unserved served).symm
      | true => simpa [mem_allGates, served] using unchanged
    rw [← same]

theorem State.recomputeCeilings_settles (s : State) (serve : s.CeilingsServe) :
    s.recomputeCeilings.1.CeilingsSettled := by
  intro g
  have kept := s.leaves_recomputeCeilings (P := {.ceilings}) rfl
  obtain ⟨-, -, head, mode⟩ := kept .levels (by simp)
  rw [s.recomputeCeilings_gate serve]
  exact (State.computeCeiling_congr s mode head (kept .curves (by simp)) rfl).symm

theorem State.ceilingPath_settles (s : State) (serve : s.CeilingsServe) : s.ceilingPath.CeilingsSettled :=
  (s.recomputeCeilings_settles serve).of_reach s.reach_ceilingPath

/-! ### A new head pair -/

theorem modeAfter_none (k : Settings) (held : Mode) : modeAfter k held none = .noHead := rfl

theorem modeAfter_some {k : Settings} {held : Mode} (h : Head) :
    (held ≠ .reverse → modeAfter k held (some h) = if (k.reverseLimit : Int) ≤ h.rev then .reverse else .curve) ∧
      (held = .reverse → modeAfter k held (some h) =
        if (k.reverseLimit : Int) - k.reverseHyst ≤ h.rev then .reverse else .curve) := by
  cases held <;> simp [modeAfter]

/-- The mode that a head pair gives is kept under the same head pair (R29). -/
theorem modeAfter_modeAfter (k : Settings) (held : Mode) (head : Option Head) :
    modeAfter k (modeAfter k held head) head = modeAfter k held head := by
  cases head with
  | none => rfl
  | some h =>
    obtain ⟨other, reverse⟩ := modeAfter_some (k := k) (held := held) h
    by_cases e : held = .reverse
    · rw [reverse e]
      split
      · rename_i le
        rw [(modeAfter_some h).2 rfl, if_pos le]
      · rw [(modeAfter_some h).1 (by decide), if_neg (by omega)]
    · rw [other e]
      split
      · rw [(modeAfter_some h).2 rfl, if_pos (by omega)]
      · rename_i lt
        rw [(modeAfter_some h).1 (by decide), if_neg lt]

theorem modeNotices_self (m : Mode) (old new : Option Head) : modeNotices m m old new = [] := by
  cases m <;> rfl

theorem modeNotices_length (m n : Mode) (old new : Option Head) : (modeNotices m n old new).length ≤ 2 := by
  cases m <;> cases n <;> simp [modeNotices]

/-- A new head pair stored, with the mode it gives and the notices of a change (R28 to R30). -/
def State.headed (s : State) (head : Option Head) : State :=
  { s.postAll (modeNotices s.mode (modeAfter s.settings s.mode head) s.head head) with
    head := head, mode := modeAfter s.settings s.mode head }

section
variable (s : State) (head : Option Head)

theorem State.headed_still :
    (s.headed head).still = { s with head := head, mode := modeAfter s.settings s.mode head }.still := by
  have posted (ns : List Notice) : (s.postAll ns).still = s.still := by
    unfold State.postAll
    induction ns generalizing s with
    | nil => rfl
    | cons n ns ih => exact (ih _).trans (State.Reach.post n .refl).still
  exact congrArg (fun t : State => { t with head := head, mode := modeAfter s.settings s.mode head }) (posted _)

theorem State.headed_gate (g : GateId) : (s.headed head).gate g = s.gate g := by
  have posted (ns : List Notice) : (s.postAll ns).gate g = s.gate g := by
    unfold State.postAll
    induction ns generalizing s with
    | nil => rfl
    | cons n ns ih => exact (ih _).trans (s.post_gate n g)
  exact posted _

variable {head}

/-- The same head pair and mode change nothing. -/
theorem State.newHead_same (sameHead : s.head = head) (sameMode : s.mode = modeAfter s.settings s.mode head) :
    s.newHead head = s := by
  subst sameHead
  simp only [State.newHead, ← sameMode, modeNotices_self, and_self, if_true]
  rfl

/-- A change of head pair or mode goes along the ceiling path, and a change of mode to the Arbiter (R31). -/
theorem State.newHead_changed (changed : ¬ (s.head = head ∧ s.mode = modeAfter s.settings s.mode head)) :
    s.newHead head = (s.headed head).ceilingPath ∨ s.newHead head = (s.headed head).ceilingPath.evaluateNow := by
  unfold State.newHead
  simp only [if_neg changed]
  split
  · exact .inl rfl
  · exact .inr rfl

variable (head)

theorem State.newHead_still :
    (s.newHead head).still = { s with head := head, mode := modeAfter s.settings s.mode head }.still := by
  by_cases same : s.head = head ∧ s.mode = modeAfter s.settings s.mode head
  · obtain ⟨sameHead, sameMode⟩ := same
    rw [s.newHead_same sameHead sameMode, ← sameMode, ← sameHead]
  · obtain e | e := s.newHead_changed same <;> rw [e]
    · exact (State.ceilingPath_still _).trans (s.headed_still head)
    · exact (State.reach_evaluateNow _).still.trans ((State.ceilingPath_still _).trans (s.headed_still head))

theorem State.newHead_head : (s.newHead head).head = head := congrArg State.head (s.newHead_still head)

theorem State.newHead_mode : (s.newHead head).mode = modeAfter s.settings s.mode head :=
  congrArg State.mode (s.newHead_still head)

/-- What follows the mode's own notices tells of motion. -/
theorem State.tells_newHead : (s.headed head).Tells (s.newHead head) := by
  by_cases same : s.head = head ∧ s.mode = modeAfter s.settings s.mode head
  · obtain ⟨sameHead, sameMode⟩ := same
    refine .of_eq ?_
    rw [s.newHead_same sameHead sameMode, State.headed, ← sameMode, modeNotices_self]
    rfl
  · obtain e | e := s.newHead_changed same <;> rw [e]
    · exact State.tells_ceilingPath _
    · exact (State.tells_ceilingPath _).trans (State.tells_evaluateNow _)

theorem State.newHead_notices : s.notices <+: (s.newHead head).notices := by
  have posted : s.Posts (fun _ => True) (s.headed head) := s.posts_postAll _ fun _ _ => trivial
  exact (posted.trans ((s.tells_newHead head).mono fun _ _ => trivial)).notices_prefix

end

theorem State.CeilingsSettled.newHead {s : State} (h : s.CeilingsSettled) (head : Option Head) :
    (s.newHead head).CeilingsSettled := by
  by_cases same : s.head = head ∧ s.mode = modeAfter s.settings s.mode head
  · obtain ⟨sameHead, sameMode⟩ := same
    rwa [s.newHead_same sameHead sameMode]
  · have serve : (s.headed head).CeilingsServe := by
      intro g out
      rw [State.record, s.headed_gate] at out
      rw [s.headed_gate]
      exact h.serve g out
    have settled := (s.headed head).ceilingPath_settles serve
    obtain e | e := s.newHead_changed same <;> rw [e]
    · exact settled
    · exact settled.of_reach (State.reach_evaluateNow _)

/-! ### The tables of R28 to R30 and R38 -/

theorem headOf_eq_none (up down : Option Levels) : headOf up down = none ↔ up = none ∨ down = none := by
  cases up <;> cases down <;> simp [headOf]

theorem State.postAll_notices (s : State) (ns : List Notice) (room : s.notices.length + ns.length ≤ 16) :
    (s.postAll ns).notices = s.notices ++ ns.map (fun n => { notice := n, stamp := s.tideClock }) := by
  unfold State.postAll
  induction ns generalizing s with
  | nil => simp
  | cons n ns ih =>
    rw [List.length_cons] at room
    rw [List.foldl_cons, s.post_of_room n (by omega), ih _ (by simp only [List.length_append, List.length_singleton]; omega)]
    simp

/-- The notices of a mode change stand after those that wait, where there is room for two (R30, R179). -/
theorem State.newHead_posts (s : State) (head : Option Head) (room : s.notices.length < 15) :
    s.notices ++ (modeNotices s.mode (s.newHead head).mode s.head head).map
      (fun n => { notice := n, stamp := s.tideClock }) <+: (s.newHead head).notices := by
  have short := modeNotices_length s.mode (modeAfter s.settings s.mode head) s.head head
  rw [s.newHead_mode, ← s.postAll_notices _ (by omega)]
  exact (s.tells_newHead head).notices_prefix

/-- A notice of a change of mode (R30, R182). -/
def Notice.ofMode (n : Notice) : Prop :=
  (∃ v, n = .reverseOn v) ∨ (∃ v, n = .reverseOff v) ∨ n = .noHeadOn ∨ n = .noHeadOff

theorem Notice.not_ofMode (n : Notice) : ¬ n.ofMode ↔
    (∀ v, n ≠ .reverseOn v) ∧ (∀ v, n ≠ .reverseOff v) ∧ n ≠ .noHeadOn ∧ n ≠ .noHeadOff := by
  simp [Notice.ofMode]

theorem Notice.ofMotion.not_ofMode {n : Notice} (h : n.ofMotion) : ¬ n.ofMode := by
  rintro (⟨v, rfl⟩ | ⟨v, rfl⟩ | rfl | rfl) <;> exact h

/-- Without a change of mode none of its notices is posted. -/
theorem State.newHead_mem_notices {s : State} {head : Option Head} (same : (s.newHead head).mode = s.mode)
    {n : PostedNotice} (posted : n ∈ (s.newHead head).notices) : n ∈ s.notices ∨ ¬ n.notice.ofMode := by
  rw [s.newHead_mode] at same
  obtain old | new := (s.tells_newHead head).mem posted
  · rw [State.headed, same, modeNotices_self] at old
    exact .inl old
  · exact .inr new.not_ofMode

theorem State.computeCeiling_mode (s : State) (x : Gate) :
    (x.record.inService = false ∨ s.mode = .noHead → s.computeCeiling x = none) ∧
    (x.record.inService = true → s.mode = .reverse → s.computeCeiling x = some 0) ∧
    ∀ h, x.record.inService = true → s.mode = .curve → s.head = some h → s.computeCeiling x =
      (curveValue (s.curve x.record.curve).points h.fwd).map fun v => min v x.record.fullTravel := by
  refine ⟨fun out => ?_, fun served mode => ?_, fun h served mode head => ?_⟩
  · obtain out | mode := out
    · exact s.computeCeiling_unserved out
    · simp [State.computeCeiling, mode]
  · simp [State.computeCeiling, served, mode]
  · simp [State.computeCeiling, served, mode, head]

/-- Settles O39: the state after a new head pair is that of the tables (`State.newHead_still`), its first notices are those
of the change of mode, and the ceiling path leaves every ceiling settled. -/
theorem headModeAndCeilingsFollowTheTables : Obligations.HeadModeAndCeilingsFollowTheTables := by
  refine ⟨headOf_eq_none, fun u d => rfl, ?_⟩
  rintro s _ head rfl
  have mode := s.newHead_mode head
  refine ⟨s.newHead_head head, ?_, ?_, fun room => ?_, fun sameMode sameHead => ?_, fun n posted => ?_,
    fun settled g => ?_⟩
  · rintro rfl
    exact mode
  · rintro h rfl
    rw [mode]
    exact modeAfter_some h
  · have posts := s.newHead_posts head room
    refine ⟨?_, fun old new => ?_, fun h old had new => ?_⟩
    · rintro h rfl
      refine ⟨fun old new => ?_, fun old new => ?_, fun old new => ?_, fun old new => ?_⟩ <;>
        (rw [old, new] at posts; exact posts)
    · rw [old, new] at posts
      exact posts
    · rw [old, new, had] at posts
      exact posts
  · exact s.newHead_same sameHead.symm (by rw [← mode, sameMode])
  · by_cases same : (s.newHead head).mode = s.mode
    · exact (State.newHead_mem_notices same posted).imp_right fun other => .inr ((Notice.not_ofMode _).mp other)
    · by_cases of : n.notice.ofMode
      · exact .inr (.inl ⟨fun e => same e.symm, of⟩)
      · exact .inr (.inr ((Notice.not_ofMode _).mp of))
  · have kept := s.leaves_newHead head (P := Part.ofHead) le_rfl
    have record := (kept .gateRecords (by simp) g).1
    have curves : (s.newHead head).curves = s.curves := kept .curves (by simp)
    have curve (c : Fin 4) : (s.newHead head).curve c = s.curve c := by rw [State.curve, curves, State.curve]
    have table := (s.newHead head).computeCeiling_mode ((s.newHead head).gate g)
    rw [← State.CeilingsSettled.newHead settled head g, curve, s.newHead_head head] at table
    rw [← record]
    exact table

end Sys2Proof.Machine

/-! ## Side values (R24 to R27) -/

namespace Sys2Proof.Machine

/-! ### The order of freshness -/

/-- A gauge goes before another: by the smaller age, then by the lower number (R25). -/
def Fresher (x y : GaugeId × Reading) : Prop := x.2.age < y.2.age ∨ x.2.age = y.2.age ∧ x.1 < y.1

theorem Fresher.trans {x y z : GaugeId × Reading} (h : Fresher x y) (k : Fresher y z) : Fresher x z := by
  simp only [Fresher, Fin.lt_def] at *
  omega

theorem Fresher.asymm {x y : GaugeId × Reading} (h : Fresher x y) : ¬ Fresher y x := by
  simp only [Fresher, Fin.lt_def] at *
  omega

theorem mem_insertFresh (x y : GaugeId × Reading) (l : List (GaugeId × Reading)) :
    y ∈ insertFresh x l ↔ y = x ∨ y ∈ l := by
  induction l with
  | nil => simp [insertFresh]
  | cons z l ih =>
    unfold insertFresh
    split
    · rw [List.mem_cons, ih, List.mem_cons]
      tauto
    · rw [List.mem_cons]

/-- A gauge of a higher number than those in order takes its place among them. -/
theorem insertFresh_pairwise {x : GaugeId × Reading} {l : List (GaugeId × Reading)} (sorted : l.Pairwise Fresher)
    (higher : ∀ y ∈ l, y.1 < x.1) : (insertFresh x l).Pairwise Fresher := by
  induction l with
  | nil => simp [insertFresh]
  | cons z l ih =>
    obtain ⟨first, rest⟩ := List.pairwise_cons.mp sorted
    obtain ⟨lower, lowers⟩ := List.forall_mem_cons.mp higher
    unfold insertFresh
    split
    · rename_i le
      refine List.pairwise_cons.mpr ⟨fun y hy => ?_, ih rest lowers⟩
      obtain rfl | old := (mem_insertFresh x y l).mp hy
      · exact (Nat.lt_or_eq_of_le le).imp id fun e => ⟨e, lower⟩
      · exact first y old
    · rename_i lt
      have before : Fresher x z := .inl (by omega)
      refine List.pairwise_cons.mpr ⟨fun y hy => ?_, sorted⟩
      obtain rfl | later := List.mem_cons.mp hy
      · exact before
      · exact before.trans (first y later)

/-- Gauges in ascending order of their numbers are put in the order of freshness. -/
theorem foldl_insertFresh (xs sorted : List (GaugeId × Reading)) (ascending : xs.Pairwise fun x y => x.1 < y.1)
    (order : sorted.Pairwise Fresher) (lower : ∀ y ∈ sorted, ∀ x ∈ xs, y.1 < x.1) :
    (xs.foldl (fun sorted x => insertFresh x sorted) sorted).Pairwise Fresher ∧
      ∀ y, y ∈ xs.foldl (fun sorted x => insertFresh x sorted) sorted ↔ y ∈ sorted ∨ y ∈ xs := by
  induction xs generalizing sorted with
  | nil => exact ⟨order, by simp⟩
  | cons x xs ih =>
    obtain ⟨first, rest⟩ := List.pairwise_cons.mp ascending
    obtain ⟨pairwise, mem⟩ := ih (insertFresh x sorted) rest
      (insertFresh_pairwise order fun y hy => lower y hy x List.mem_cons_self) fun y hy z hz => by
        obtain rfl | old := (mem_insertFresh x y sorted).mp hy
        · exact first z hz
        · exact lower y old z (List.mem_cons_of_mem x hz)
    refine ⟨pairwise, fun y => (mem y).trans ?_⟩
    rw [mem_insertFresh, List.mem_cons]
    tauto

theorem Gauge.fresh_eq_some (x : Gauge) (r : Reading) : x.fresh = some r ↔
    x.record.enabled = true ∧ x.value = some r.value ∧ x.age = r.age ∧ r.age ≤ x.record.sampleWindow := by
  obtain ⟨value, age⟩ := r
  unfold Gauge.fresh
  cases x.value with
  | none => simp
  | some v =>
    simp only [Bool.and_eq_true, decide_eq_true_eq, Option.ite_none_right_eq_some, Option.some.injEq, Reading.mk.injEq]
    constructor
    · rintro ⟨⟨enabled, young⟩, rfl, rfl⟩
      exact ⟨enabled, rfl, rfl, young⟩
    · rintro ⟨enabled, rfl, rfl, young⟩
      exact ⟨⟨enabled, young⟩, rfl, rfl⟩

theorem State.freshAt_iff (s : State) (b : Bank) (n : GaugeId) (value : Int) (age : Nat) :
    s.FreshAt b n value age ↔ (s.gauge n).record.bank = b ∧ (s.gauge n).fresh = some ⟨value, age⟩ := by
  rw [Gauge.fresh_eq_some]
  exact Iff.rfl

/-- The fresh gauges of a side, in the order of freshness (R24, R25). -/
theorem State.freshGauges_spec (s : State) (b : Bank) : (s.freshGauges b).Pairwise Fresher ∧
    ∀ n r, (n, r) ∈ s.freshGauges b ↔ s.FreshAt b n r.value r.age := by
  let fresh (n : GaugeId) : Option (GaugeId × Reading) :=
    if (s.gauge n).record.bank = b then (s.gauge n).fresh.map fun r => (n, r) else none
  have fresh_iff (n m : GaugeId) (r : Reading) : fresh m = some (n, r) ↔ m = n ∧ s.FreshAt b n r.value r.age := by
    rw [State.freshAt_iff]
    simp only [fresh, Option.ite_none_right_eq_some, Option.map_eq_some_iff, Prod.mk.injEq]
    constructor
    · rintro ⟨bank, q, freshQ, rfl, rfl⟩
      exact ⟨rfl, bank, freshQ⟩
    · rintro ⟨rfl, bank, freshR⟩
      exact ⟨bank, r, freshR, rfl, rfl⟩
  have ascending : (allGauges.filterMap fresh).Pairwise fun x y => x.1 < y.1 := by
    refine List.Pairwise.filterMap fresh (R := (· < ·)) ?_ (by decide)
    rintro m n lt ⟨m', r⟩ hm ⟨n', q⟩ hn
    obtain ⟨rfl, -⟩ := (fresh_iff m' m r).mp hm
    obtain ⟨rfl, -⟩ := (fresh_iff n' n q).mp hn
    exact lt
  obtain ⟨order, mem⟩ := foldl_insertFresh _ [] ascending List.Pairwise.nil (by simp)
  refine ⟨order, fun n r => (mem (n, r)).trans ?_⟩
  simp only [List.not_mem_nil, false_or, List.mem_filterMap, fresh_iff]
  exact ⟨fun ⟨_, _, _, h⟩ => h, fun h => ⟨n, mem_allGauges n, rfl, h⟩⟩

theorem State.FreshAt.unique {s : State} {b : Bank} {n : GaugeId} {v w : Int} {a e : Nat} (h : s.FreshAt b n v a)
    (k : s.FreshAt b n w e) : w = v ∧ e = a := by
  obtain ⟨-, -, value, age, -⟩ := h
  obtain ⟨-, -, value', age', -⟩ := k
  exact ⟨Option.some.inj (value'.symm.trans value), age'.symm.trans age⟩

theorem State.freshGauges_none {s : State} {b : Bank} (none : ∀ n v a, ¬ s.FreshAt b n v a) : s.freshGauges b = [] := by
  obtain ⟨-, mem⟩ := s.freshGauges_spec b
  exact List.eq_nil_iff_forall_not_mem.mpr fun x hx => none x.1 x.2.value x.2.age ((mem x.1 x.2).mp hx)

theorem State.freshGauges_one {s : State} {b : Bank} {n : GaugeId} {v : Int} {a : Nat} (fresh : s.FreshAt b n v a)
    (alone : ∀ m w e, s.FreshAt b m w e → m = n) : s.freshGauges b = [(n, ⟨v, a⟩)] := by
  obtain ⟨order, mem⟩ := s.freshGauges_spec b
  have only : ∀ x ∈ s.freshGauges b, x = (n, ⟨v, a⟩) := by
    rintro ⟨m, r⟩ hx
    have h := (mem m r).mp hx
    obtain rfl := alone m _ _ h
    obtain ⟨value, age⟩ := fresh.unique h
    simp [← value, ← age]
  have here := (mem n ⟨v, a⟩).mpr fresh
  cases l : s.freshGauges b with
  | nil => rw [l] at here; cases here
  | cons x rest =>
    rw [l] at only order
    obtain ⟨rfl, others⟩ := List.forall_mem_cons.mp only
    cases rest with
    | nil => rfl
    | cons y rest =>
      obtain rfl := others y List.mem_cons_self
      have after := (List.pairwise_cons.mp order).1 _ List.mem_cons_self
      exact absurd after after.asymm

/-- In a list in the order of freshness, an element before which only itself comes is the first. -/
theorem head_of_fresher {x y : GaugeId × Reading} {rest : List (GaugeId × Reading)}
    (order : (y :: rest).Pairwise Fresher) (here : x ∈ y :: rest) (first : ∀ z ∈ y :: rest, z = x ∨ Fresher x z) :
    y = x := by
  obtain e | after := first y List.mem_cons_self
  · exact e
  · obtain rfl | later := List.mem_cons.mp here
    · rfl
    · exact absurd ((List.pairwise_cons.mp order).1 x later) after.asymm

/-- The two gauges before which no others come stand first. -/
theorem State.freshGauges_two {s : State} {b : Bank} {m n : GaugeId} {v w : Int} {a e : Nat} (hm : s.FreshAt b m v a)
    (hn : s.FreshAt b n w e) (lt : m < n) (freshest : ∀ k x i, s.FreshAt b k x i →
      k = m ∨ k = n ∨ ((a < i ∨ a = i ∧ m < k) ∧ (e < i ∨ e = i ∧ n < k))) :
    ∃ rest, s.freshGauges b = (m, ⟨v, a⟩) :: (n, ⟨w, e⟩) :: rest ∨
      s.freshGauges b = (n, ⟨w, e⟩) :: (m, ⟨v, a⟩) :: rest := by
  obtain ⟨order, mem⟩ := s.freshGauges_spec b
  let p : GaugeId × Reading := (m, ⟨v, a⟩)
  let q : GaugeId × Reading := (n, ⟨w, e⟩)
  have inP : p ∈ s.freshGauges b := (mem m ⟨v, a⟩).mpr hm
  have inQ : q ∈ s.freshGauges b := (mem n ⟨w, e⟩).mpr hn
  have others : ∀ z ∈ s.freshGauges b, z = p ∨ z = q ∨ Fresher p z ∧ Fresher q z := by
    rintro ⟨k, r⟩ hz
    have h := (mem k r).mp hz
    obtain rfl | rfl | later := freshest k _ _ h
    · obtain ⟨value, age⟩ := hm.unique h
      exact .inl (by simp [p, ← value, ← age])
    · obtain ⟨value, age⟩ := hn.unique h
      exact .inr (.inl (by simp [q, ← value, ← age]))
    · exact .inr (.inr later)
  have sorted {x y : GaugeId × Reading} (hx : x ∈ s.freshGauges b) (hy : y ∈ s.freshGauges b) (before : Fresher x y)
      (all : ∀ z ∈ s.freshGauges b, z = x ∨ z = y ∨ Fresher x z ∧ Fresher y z) :
      ∃ rest, s.freshGauges b = x :: y :: rest := by
    generalize s.freshGauges b = l at order hx hy all
    cases l with
    | nil => cases hx
    | cons c l =>
      obtain rfl : c = x := head_of_fresher order hx fun z hz =>
        (all z hz).imp_right fun k => k.elim (· ▸ before) And.left
      have inRest : y ∈ l := (List.mem_cons.mp hy).resolve_left fun same => (same ▸ before).asymm (same ▸ before)
      obtain ⟨first, tail⟩ := List.pairwise_cons.mp order
      cases l with
      | nil => cases inRest
      | cons d l =>
        obtain rfl : d = y := head_of_fresher tail inRest fun z hz => by
          obtain rfl | same | ⟨-, after⟩ := all z (List.mem_cons_of_mem c hz)
          · exact absurd (first z hz) (first z hz).asymm
          · exact .inl same
          · exact .inr after
        exact ⟨l, rfl⟩
  have ne : p.1 ≠ q.1 := ne_of_lt lt
  by_cases before : Fresher p q
  · obtain ⟨rest, eq⟩ := sorted inP inQ before others
    exact ⟨rest, .inl eq⟩
  · have after : Fresher q p := by
      simp only [Fresher, Fin.lt_def] at before lt ⊢
      simp only [p, q] at before ⊢
      omega
    obtain ⟨rest, eq⟩ := sorted inQ inP after fun z hz => by
      have := others z hz
      tauto
    exact ⟨rest, .inr eq⟩

/-! ### The side value stored -/

/-- What R26 and R27 give for a side: its value, and whether two gauges disagree. -/
def State.formed (s : State) (b : Bank) : BankState where
  value := (sideValue s.settings.gaugeAgree (s.freshGauges b)).1
  disagree := (sideValue s.settings.gaugeAgree (s.freshGauges b)).2.isSome

theorem State.recomputeBank_agree {s : State} {b : Bank} {value : Option Levels}
    (e : sideValue s.settings.gaugeAgree (s.freshGauges b) = (value, none)) :
    s.recomputeBank b = s.setBank b { value := value, disagree := false } := by
  simp [State.recomputeBank, e]

theorem State.recomputeBank_apart {s : State} {b : Bank} {value : Option Levels} {x y : Int}
    (e : sideValue s.settings.gaugeAgree (s.freshGauges b) = (value, some (x, y))) :
    s.recomputeBank b = if (s.bank b).disagree then s.setBank b { value := value, disagree := true }
      else (s.setBank b { value := value, disagree := true }).post (.gaugeDisagree b x y) := by
  simp [State.recomputeBank, e]

/-- A side recomputed holds what is formed for it, and at most one notice is posted (R26, R27). -/
theorem State.recomputeBank_cases (s : State) (b : Bank) :
    s.recomputeBank b = s.setBank b (s.formed b) ∨ ∃ n, s.recomputeBank b = (s.setBank b (s.formed b)).post n := by
  rcases e : sideValue s.settings.gaugeAgree (s.freshGauges b) with ⟨value, apart⟩
  cases apart with
  | none => exact .inl (by rw [State.recomputeBank_agree e, State.formed, e]; rfl)
  | some levels =>
    obtain ⟨x, y⟩ := levels
    rw [State.recomputeBank_apart e, State.formed, e]
    split
    · exact .inl rfl
    · exact .inr ⟨_, rfl⟩

/-- The levels of two gauges too far apart: the interval between them, and the lower-numbered gauge's first (R26, R27). -/
theorem sideValue_apart {agree : Nat} {m n : GaugeId} {a b : Reading} (rest : List (GaugeId × Reading))
    (apart : agree < (a.value - b.value).natAbs) : sideValue agree ((m, a) :: (n, b) :: rest) =
      (some { hi := max a.value b.value, lo := min a.value b.value },
        some (if m < n then (a.value, b.value) else (b.value, a.value))) := by
  simp only [sideValue]
  rw [if_neg (by omega)]

theorem sideValue_agree {agree : Nat} {m n : GaugeId} {a b : Reading} (rest : List (GaugeId × Reading))
    (near : (a.value - b.value).natAbs ≤ agree) : sideValue agree ((m, a) :: (n, b) :: rest) =
      (some { hi := (a.value + b.value) / 2, lo := (a.value + b.value) / 2 }, none) := by
  simp only [sideValue]
  rw [if_pos near]

/-- Settles O37: the fresh gauges stand in the order of R25 (`State.freshGauges_spec`), so the side value is formed from
none, one, or the two first of them, in either order. -/
theorem sideValuesFollowTheFreshestGauges : Obligations.SideValuesFollowTheFreshestGauges := by
  refine fun s b => ⟨fun none => ?_, fun n v a fresh alone => ?_, fun m n v w a e hm hn lt freshest => ?_⟩
  · exact State.recomputeBank_agree (by rw [State.freshGauges_none none]; rfl)
  · exact State.recomputeBank_agree (by rw [State.freshGauges_one fresh alone]; rfl)
  · obtain ⟨rest, order⟩ := State.freshGauges_two hm hn lt freshest
    refine ⟨fun near => ⟨(v + w) / 2, by omega, by omega, State.recomputeBank_agree ?_⟩,
      fun apart => State.recomputeBank_apart ?_⟩
    · obtain order | order := order <;> rw [order, sideValue_agree]
      · exact near
      · rw [add_comm]
      · simp only
        omega
    · obtain order | order := order <;> rw [order, sideValue_apart]
      · rw [if_pos lt]
      · exact apart
      · rw [if_neg lt.asymm, max_comm, min_comm]
      · simp only
        omega

end Sys2Proof.Machine

/-! ## Sides recomputed, and every step keeps the levels in agreement -/

namespace Sys2Proof.Machine

/-- What is read of a state apart from its motion is read of its still. -/
theorem State.eq_of_still {α : Type} {s t : State} (h : t.still = s.still) (read : State → α)
    (blank : ∀ u : State, read u.still = read u) : read t = read s := by
  rw [← blank t, h, blank]

/-! ### Sides recomputed (R26 to R28) -/

theorem State.setBank_bank (s : State) (b c : Bank) (x : BankState) :
    (s.setBank b x).bank c = if c = b then x else s.bank c := by
  cases b <;> cases c <;> rfl

theorem State.recomputeBank_still (s : State) (b : Bank) : (s.recomputeBank b).still = (s.setBank b (s.formed b)).still := by
  obtain e | ⟨n, e⟩ := s.recomputeBank_cases b <;> rw [e]
  exact (State.Reach.post n .refl).still

theorem State.recomputeBank_bank (s : State) (b c : Bank) :
    (s.recomputeBank b).bank c = if c = b then s.formed b else s.bank c := by
  rw [State.eq_of_still (s.recomputeBank_still b) (·.bank c) fun _ => by cases c <;> rfl, State.setBank_bank]

theorem State.recomputeBank_gates (s : State) (b : Bank) : (s.recomputeBank b).gates = s.gates := by
  obtain e | ⟨n, e⟩ := s.recomputeBank_cases b <;> simp [e]

/-- What is formed for a side depends on gauges and gauge_agree alone (R25 to R27). -/
theorem State.formed_congr {s t : State} (gauges : t.gauges = s.gauges)
    (agree : t.settings.gaugeAgree = s.settings.gaugeAgree) (b : Bank) : t.formed b = s.formed b := by
  have gauge : t.gauge = s.gauge := funext fun n => by rw [State.gauge, State.gauge, gauges]
  rw [State.formed, State.formed, State.freshGauges, State.freshGauges, gauge, agree]

theorem State.formed_none {s : State} {b : Bank} (none : ∀ n v a, ¬ s.FreshAt b n v a) :
    s.formed b = { value := .none, disagree := false } := by
  rw [State.formed, State.freshGauges_none none]
  rfl

/-- Some sides recomputed, one after the other. -/
def State.rebanked (s : State) (bs : List Bank) : State := bs.foldl State.recomputeBank s

theorem State.relevel_eq (s : State) (bs : List Bank) : s.relevel bs =
    (s.rebanked bs).newHead (headOf (s.rebanked bs).upstream.value (s.rebanked bs).downstream.value) := rfl

section
variable (s : State) (bs : List Bank)

theorem State.rebanked_gates : (s.rebanked bs).gates = s.gates := by
  unfold State.rebanked
  induction bs generalizing s with
  | nil => rfl
  | cons b bs ih => exact (ih _).trans (s.recomputeBank_gates b)

theorem State.rebanked_still : (s.rebanked bs).still =
    { s with upstream := (s.rebanked bs).upstream, downstream := (s.rebanked bs).downstream }.still := by
  unfold State.rebanked
  induction bs generalizing s with
  | nil => rfl
  | cons b bs ih =>
    have one (up down : BankState) : { s.recomputeBank b with upstream := up, downstream := down }.still =
        { s with upstream := up, downstream := down }.still := by
      refine (congrArg (fun t : State => { t with upstream := up, downstream := down }) (s.recomputeBank_still b)).trans ?_
      cases b <;> rfl
    exact (ih _).trans (one _ _)

theorem State.rebanked_gauges : (s.rebanked bs).gauges = s.gauges :=
  State.eq_of_still (s.rebanked_still bs) State.gauges fun _ => rfl

theorem State.rebanked_settings : (s.rebanked bs).settings = s.settings :=
  State.eq_of_still (s.rebanked_still bs) State.settings fun _ => rfl

theorem State.rebanked_bank (c : Bank) : (s.rebanked bs).bank c = if c ∈ bs then s.formed c else s.bank c := by
  unfold State.rebanked
  induction bs generalizing s with
  | nil => rfl
  | cons b bs ih =>
    have gauges : (s.recomputeBank b).gauges = s.gauges := s.rebanked_gauges [b]
    have settings : (s.recomputeBank b).settings = s.settings := s.rebanked_settings [b]
    rw [List.foldl_cons, ih, State.formed_congr gauges (by rw [settings]), s.recomputeBank_bank]
    by_cases e : c = b
    · subst e
      simp
    · simp [e]

theorem State.relevel_still : (s.relevel bs).still = { s with
    upstream := (s.relevel bs).upstream, downstream := (s.relevel bs).downstream
    head := (s.relevel bs).head, mode := (s.relevel bs).mode }.still := by
  have headed := (s.rebanked bs).newHead_still (headOf (s.rebanked bs).upstream.value (s.rebanked bs).downstream.value)
  rw [← s.relevel_eq bs] at headed
  have up : (s.relevel bs).upstream = (s.rebanked bs).upstream := State.eq_of_still headed State.upstream fun _ => rfl
  have down : (s.relevel bs).downstream = (s.rebanked bs).downstream :=
    State.eq_of_still headed State.downstream fun _ => rfl
  have head := State.eq_of_still headed State.head fun _ => rfl
  have mode := State.eq_of_still headed State.mode fun _ => rfl
  rw [up, down, head, mode, headed]
  exact congrArg (fun t : State => { t with
    head := headOf (s.rebanked bs).upstream.value (s.rebanked bs).downstream.value
    mode := modeAfter (s.rebanked bs).settings (s.rebanked bs).mode
      (headOf (s.rebanked bs).upstream.value (s.rebanked bs).downstream.value) }) (s.rebanked_still bs)

theorem State.relevel_bank (c : Bank) : (s.relevel bs).bank c = if c ∈ bs then s.formed c else s.bank c := by
  rw [← s.rebanked_bank bs c, s.relevel_eq bs]
  exact State.eq_of_still ((s.rebanked bs).newHead_still _) (·.bank c) fun _ => by cases c <;> rfl

theorem State.relevel_head :
    (s.relevel bs).head = headOf (s.relevel bs).upstream.value (s.relevel bs).downstream.value := by
  have up : (s.relevel bs).upstream = (s.rebanked bs).upstream :=
    State.eq_of_still ((s.rebanked bs).newHead_still _) State.upstream fun _ => rfl
  have down : (s.relevel bs).downstream = (s.rebanked bs).downstream :=
    State.eq_of_still ((s.rebanked bs).newHead_still _) State.downstream fun _ => rfl
  rw [up, down]
  exact State.newHead_head _ _

theorem State.relevel_mode : (s.relevel bs).mode = modeAfter s.settings s.mode (s.relevel bs).head := by
  have mode : (s.rebanked bs).mode = s.mode := State.eq_of_still (s.rebanked_still bs) State.mode fun _ => rfl
  rw [s.relevel_eq bs, State.newHead_mode, State.newHead_head, s.rebanked_settings, mode]

theorem State.relevel_notices : (s.rebanked bs).notices <+: (s.relevel bs).notices := State.newHead_notices _ _

theorem State.relevel_gauges : (s.relevel bs).gauges = s.gauges :=
  State.eq_of_still (s.relevel_still bs) State.gauges fun _ => rfl

theorem State.relevel_replies : (s.relevel bs).replies = s.replies :=
  State.eq_of_still (s.relevel_still bs) State.replies fun _ => rfl

theorem State.relevel_routes : (s.relevel bs).routes = s.routes :=
  State.eq_of_still (s.relevel_still bs) State.routes fun _ => rfl

end

/-! ### Levels settled -/

theorem State.CeilingsSettled.congr {s t : State} (h : s.CeilingsSettled) (gates : t.gates = s.gates)
    (curves : t.curves = s.curves) (head : t.head = s.head) (mode : t.mode = s.mode) : t.CeilingsSettled := by
  intro g
  have gate : t.gate g = s.gate g := by rw [State.gate, State.gate, gates]
  rw [gate, h g, State.computeCeiling_congr s mode head curves rfl]

/-- A head pair that is that of the side values settles the levels (R28 to R31). -/
theorem State.CeilingsSettled.newHead_levels {s : State} (h : s.CeilingsSettled) {head : Option Head}
    (e : head = headOf s.upstream.value s.downstream.value) : (s.newHead head).LevelsSettled where
  head := by
    rw [s.newHead_head, State.eq_of_still (s.newHead_still head) State.upstream fun _ => rfl,
      State.eq_of_still (s.newHead_still head) State.downstream fun _ => rfl]
    exact e
  mode := by
    have settings := State.eq_of_still (s.newHead_still head) State.settings fun _ => rfl
    rw [settings, s.newHead_mode, s.newHead_head]
    exact modeAfter_modeAfter _ _ _
  ceilings := h.newHead head

theorem State.CeilingsSettled.relevel {s : State} (h : s.CeilingsSettled) (bs : List Bank) :
    (s.relevel bs).LevelsSettled := by
  have still := s.rebanked_still bs
  have banked : (s.rebanked bs).CeilingsSettled := h.congr (s.rebanked_gates bs)
    (State.eq_of_still still State.curves fun _ => rfl) (State.eq_of_still still State.head fun _ => rfl)
    (State.eq_of_still still State.mode fun _ => rfl)
  exact banked.newHead_levels rfl

theorem State.LevelsSettled.settled {s : State} (h : s.LevelsSettled) : s.CeilingsSettled := h.ceilings

/-- The parts that the agreement of levels speaks of. -/
def Part.ofLevels : Set Part := {.gateRecords, .ceilings, .curves, .settings, .levels}

theorem State.LevelsSettled.of_leaves {s t : State} {P : Set Part} (h : s.LevelsSettled) (k : s.Leaves P t)
    (apart : ∀ p ∈ Part.ofLevels, p ∉ P) : t.LevelsSettled := by
  obtain ⟨up, down, head, mode⟩ := k .levels (apart _ (by simp [Part.ofLevels]))
  obtain ⟨settings, -⟩ := k .settings (apart _ (by simp [Part.ofLevels]))
  refine ⟨by rw [head, up, down, h.head], by rw [settings, mode, head, h.mode], ?_⟩
  exact h.settled.of_leaves k fun p hp => apart p (by
    simp only [Part.ofCeilings, Set.mem_insert_iff, Set.mem_singleton_iff] at hp
    simp only [Part.ofLevels, Set.mem_insert_iff, Set.mem_singleton_iff]
    tauto)

theorem State.LevelsSettled.of_reach {s t : State} (h : s.LevelsSettled) (k : s.Reach t) : t.LevelsSettled :=
  h.of_leaves (k.leaves ∅) (by simp)

/-- A change of curves alone, followed by the ceiling path (R37, R40). -/
theorem State.LevelsSettled.ceilingPath {s t : State} (h : s.LevelsSettled) (k : s.Leaves {.curves} t) :
    t.ceilingPath.LevelsSettled := by
  obtain ⟨up, down, head, mode⟩ := k .levels (by simp)
  obtain ⟨settings, -⟩ := k .settings (by simp)
  have serve : t.CeilingsServe := by
    intro g out
    rw [(k .gateRecords (by simp) g).1] at out
    rw [k .ceilings (by simp) g]
    exact h.settled.serve g out
  have path := t.leaves_ceilingPath (P := {.ceilings}) rfl
  obtain ⟨up', down', head', mode'⟩ := path .levels (by simp)
  obtain ⟨settings', -⟩ := path .settings (by simp)
  refine ⟨?_, ?_, t.ceilingPath_settles serve⟩
  · rw [head', up', down', head, up, down, h.head]
  · rw [settings', mode', head', settings, mode, head, h.mode]

section
variable {s : State} (h : s.LevelsSettled)
include h

theorem State.LevelsSettled.takeStation (row : StationRow) (handle : State → RxFrame → State)
    (keeps : ∀ (t : State) f, t.LevelsSettled → (handle t f).LevelsSettled) :
    (s.takeStation row handle).LevelsSettled := by
  obtain e | ⟨f, rest, e⟩ := s.takeStation_cases row handle <;> rw [e]
  · exact h
  · exact keeps _ f ⟨h.head, h.mode, h.ceilings⟩

theorem State.LevelsSettled.writeReply (p : List Byte) (r : Result) (d : Nat) (gen : CountWord) :
    (s.writeReply p r d gen).LevelsSettled := h.of_leaves (s.leaves_writeReply p r d gen ∅) (by simp)

theorem State.LevelsSettled.writeNoRecord (p : List Byte) : (s.writeNoRecord p).LevelsSettled :=
  h.of_leaves (s.leaves_writeNoRecord p ∅) (by simp)

/-! ### The commands that change levels or what they rest on -/

theorem State.LevelsSettled.takeLevel (n : GaugeId) (p : List Byte) : (s.takeLevel n p).LevelsSettled := by
  unfold State.takeLevel
  split
  · split
    · exact (h.settled.congr (by simp) (by simp) (by simp) (by simp)).relevel _
    · exact h
  · exact h

theorem State.LevelsSettled.level : (s.takeReport levelOwner).LevelsSettled := by
  unfold State.takeReport
  split
  · exact h
  · rename_i f rest _
    split
    · rename_i act e
      have taken : { s with fpRx := rest }.LevelsSettled := ⟨h.head, h.mode, h.ceilings⟩
      generalize s.fieldRow f.frame = row at e
      cases row <;> simp only [levelOwner, reduceCtorEq, Option.some.injEq] at e
      subst e
      exact (taken.takeLevel _ _).of_leaves (State.leaves_passReport _ _ _ (P := Part.relayCounts .fp) le_rfl)
        (by simp [Part.ofLevels])
    · exact h

theorem State.LevelsSettled.gaugeGoesStale (n : GaugeId) : (s.gaugeGoesStale n).LevelsSettled := by
  unfold State.gaugeGoesStale
  split
  · exact h.settled.relevel _
  · exact h

/-- An accepted gate record write recomputes its gate's ceiling, and touches no other (R40). -/
theorem State.LevelsSettled.writeGate (g : GateId) (new : GateRecord) : (s.writeGate g new).LevelsSettled := by
  have kept : s.Leaves {.gateRecords, .samples, .ceilings, .routes} (s.writeGate g new) :=
    ((s.leaves_withRecord g new).mono (by simp)).trans ((s.leaves_writeGate g new).mono (by simp))
  obtain ⟨up, down, head, mode⟩ := kept .levels (by simp)
  obtain ⟨settings, -⟩ := kept .settings (by simp)
  refine ⟨by rw [head, up, down, h.head], by rw [settings, mode, head, h.mode], fun j => ?_⟩
  by_cases own : j = g
  · subst own
    exact s.writeGate_ceiling j new
  · obtain ⟨-, -, others⟩ := s.writeGate_record g new
    have ceiling : ((s.writeGate g new).gate j).ceiling = (s.gate j).ceiling := by
      rw [(s.reach_writeGate g new).gate j, State.receilinged, State.setCeiling_gate, if_neg own,
        (s.reach_reserved g new).gate j, State.remeasured_gate, if_neg own]
    rw [ceiling, h.ceilings j, State.computeCeiling_congr s mode head (kept .curves (by simp)) (others j own).1]

theorem State.LevelsSettled.takeWriteGate (p : List Byte) : (s.takeWriteGate p).LevelsSettled := by
  unfold State.takeWriteGate
  split
  · exact h.writeNoRecord p
  · split
    · exact h.writeReply _ _ _ _
    · exact (h.writeGate _ _).writeReply _ _ _ _

theorem State.LevelsSettled.writeCurve (c : Fin 4) (points : List Breakpoint) : (s.writeCurve c points).LevelsSettled :=
  h.ceilingPath (s.leaves_withCurve c points)

theorem State.LevelsSettled.staged (x : Option Staging) : { s with staging := x }.LevelsSettled :=
  ⟨h.head, h.mode, h.ceilings⟩

theorem State.LevelsSettled.takeWriteFirstPart (p : List Byte) : (s.takeWriteFirstPart p).LevelsSettled := by
  unfold State.takeWriteFirstPart
  split
  · exact h.writeNoRecord p
  · split
    · exact h.writeReply _ _ _ _
    · split
      · exact (h.writeCurve _ _).writeReply _ _ _ _
      · exact (h.staged _).writeReply _ _ _ _

theorem State.LevelsSettled.takeWriteSecondPart (p : List Byte) : (s.takeWriteSecondPart p).LevelsSettled := by
  unfold State.takeWriteSecondPart
  split
  · exact h.writeNoRecord p
  · split
    · exact h.writeReply _ _ _ _
    · split
      · exact (h.staged none).writeReply _ _ _ _
      · exact ((h.staged none).writeCurve _ _).writeReply _ _ _ _

theorem State.LevelsSettled.writeGauge (n : GaugeId) (new : GaugeRecord) : (s.writeGauge n new).LevelsSettled := by
  have bound := h.settled.of_leaves (s.leaves_rebind (s.gauge n).record.address new.address .gauge (.gauge n)
    (P := {.routes}) rfl) (by simp [Part.ofCeilings])
  exact (bound.congr (by simp) (by simp) (by simp) (by simp)).relevel _

theorem State.LevelsSettled.takeWriteGauge (p : List Byte) : (s.takeWriteGauge p).LevelsSettled := by
  unfold State.takeWriteGauge
  split
  · exact h.writeNoRecord p
  · split
    · exact h.writeReply _ _ _ _
    · exact (h.writeGauge _ _).writeReply _ _ _ _

/-- New settings settle the levels anew where gauge_agree or the limits of REVERSE changed; others have no part in them
(R32). -/
theorem State.LevelsSettled.writeSettings (new : Settings) : (s.writeSettings new).LevelsSettled := by
  have levelled (gen : CountWord) (silence : Silence) :
      ({ s with settings := new, settingsGen := gen, silence := silence }.relevelFor s.settings new).LevelsSettled := by
    have stored : { s with settings := new, settingsGen := gen, silence := silence }.CeilingsSettled := h.ceilings
    unfold State.relevelFor
    split
    · exact stored.relevel _
    · split
      · exact stored.newHead_levels h.head
      · rename_i same
        rw [not_or, not_not, not_not] at same
        obtain ⟨limit, hyst⟩ := same
        have mode : modeAfter new s.mode s.head = modeAfter s.settings s.mode s.head := by
          simp only [modeAfter, limit, hyst]
        exact ⟨h.head, mode.trans h.mode, h.ceilings⟩
  unfold State.writeSettings
  simp only
  split
  · exact levelled _ _
  · exact (levelled _ _).of_reach (State.reach_evaluateNow _)

theorem State.LevelsSettled.takeWriteSettings (p : List Byte) : (s.takeWriteSettings p).LevelsSettled := by
  unfold State.takeWriteSettings
  split
  · split
    · exact h.writeReply _ _ _ _
    · exact (h.writeSettings _).writeReply _ _ _ _
  · exact h.writeNoRecord p

/-- A warm restart keeps side values and head pair, and evaluates mode and ceilings from them (R34, R42). -/
theorem State.LevelsSettled.warmRestart : s.warmRestart.LevelsSettled := by
  have emptied : s.emptied.LevelsSettled := ⟨h.head, h.mode, h.ceilings⟩
  have gates : ((s.emptied.sweep (allGates.filter fun g => (s.gate g).motion.holdsSlot) State.haltGate).sweep
      allGates State.restartGate).LevelsSettled :=
    emptied.of_reach ((State.reach_sweep _ _ _ State.reach_haltGate).trans
      (State.reach_sweep _ _ _ State.reach_restartGate))
  have levelled {t : State} (k : t.LevelsSettled) : t.restartLevel.LevelsSettled :=
    State.CeilingsSettled.newHead_levels (s := { t with
      upstream := { t.upstream with disagree := false }
      downstream := { t.downstream with disagree := false } }) k.ceilings k.head
  have recomputed {t : State} (k : t.LevelsSettled) : t.recomputeCeilings.1.LevelsSettled := by
    have kept := t.leaves_recomputeCeilings (P := {.ceilings}) rfl
    obtain ⟨up, down, head, mode⟩ := kept .levels (by simp)
    obtain ⟨settings, -⟩ := kept .settings (by simp)
    exact ⟨by rw [head, up, down, k.head], by rw [settings, mode, head, k.mode],
      t.recomputeCeilings_settles k.settled.serve⟩
  exact (recomputed (levelled gates)).of_reach (State.reach_sweep _ _ _ State.reach_checkExcursionOf)

end

/-- The commands that change levels, ceilings, or the records they rest on. -/
def setsLevels : Instr → Bool
  | .coldReset _ _ _ => true
  | .level => true
  | .gaugeStale _ => true
  | .tableWriteGate => true
  | .tableWriteCurveFirstPart => true
  | .tableWriteCurveSecondPart => true
  | .tableWriteGauge => true
  | .tableWriteSettings => true
  | .restart => true
  | _ => false

theorem exec_levelsSettled (c : Instr) (s t : State) (h : s.LevelsSettled) (e : exec c s = .next t) : t.LevelsSettled := by
  by_cases sets : setsLevels c = false
  · exact h.of_leaves (exec_leaves c s t e) (by cases c <;> simp_all [setsLevels, Part.ofLevels])
  · cases c <;> simp only [setsLevels, not_true_eq_false] at sets
    case coldReset a b d =>
      cases e
      have cold := State.cold_levelsSettled a b d
      exact ⟨cold.head, cold.mode, cold.ceilings⟩
    case level => cases e; exact h.level
    case gaugeStale => cases e; exact h.gaugeGoesStale _
    case tableWriteGate => cases e; exact h.takeStation _ _ fun _ _ k => k.takeWriteGate _
    case tableWriteCurveFirstPart => cases e; exact h.takeStation _ _ fun _ _ k => k.takeWriteFirstPart _
    case tableWriteCurveSecondPart => cases e; exact h.takeStation _ _ fun _ _ k => k.takeWriteSecondPart _
    case tableWriteGauge => cases e; exact h.takeStation _ _ fun _ _ k => k.takeWriteGauge _
    case tableWriteSettings => cases e; exact h.takeStation _ _ fun _ _ k => k.takeWriteSettings _
    case restart =>
      cases e
      exact h.takeStation _ _ fun _ _ k => k.warmRestart.of_leaves (State.leaves_reply _ _ _ _ _ ∅) (by simp)

/-- Settles O11: a millisecond touches neither levels nor ceilings, and a command keeps them in agreement
(`exec_levelsSettled`). -/
theorem levelsStaySettled : Obligations.LevelsStaySettled := by
  intro s t h e
  unfold step at e
  split at e
  · cases e
    exact h.of_leaves s.leaves_elapse (by simp [Part.ofLevels])
  · rename_i c rest _
    exact exec_levelsSettled c { s with pending := rest } t ⟨h.head, h.mode, h.ceilings⟩ e

end Sys2Proof.Machine

/-! ## LEVEL reports and gauges that go stale (R22 to R24) -/

namespace Sys2Proof.Machine

/-! ### A report handed to the Level Unit -/

/-- Sending a report on changes the up queue and the counters of FP alone (R143). -/
theorem State.sentOn_read {α : Type} (s t : State) (f : Frame) (read : State → α)
    (apart : ∀ u queue counters, read { u with upQueue := queue, fpCounters := counters } = read u) :
    read (s.sentOn t f) = read t := by
  unfold State.sentOn
  split
  · split
    · exact apart t _ _
    · exact apart t t.upQueue _
  · rfl

theorem State.HasLevelReport.fieldRow {s : State} {f : RxFrame} {rest : List RxFrame} {n : GaugeId}
    (h : s.HasLevelReport f rest n) : s.fieldRow f.frame = .level n := by
  obtain ⟨-, kind, dest, role, binding⟩ := h
  have owned : s.reportDest f.frame = true := by simpa [State.reportDest] using dest
  simp [State.fieldRow, owned, role, binding, kind, Config.kindLevel]

/-- The command that takes a LEVEL report hands it to the Level Unit and sends it on (R155). -/
theorem exec_level {s : State} {f : RxFrame} {rest : List RxFrame} {n : GaugeId} (h : s.HasLevelReport f rest n) :
    exec .level s = .next (s.sentOn ({ s with fpRx := rest }.takeLevel n f.frame.payload) f.frame) := by
  obtain ⟨waits, -⟩ := id h
  change Host.Outcome.next (s.takeReport levelOwner) = _
  rw [State.sentOn_eq_passReport, State.takeReport, waits]
  simp only [h.fieldRow, levelOwner]

/-- Which samples a gauge record accepts, and with which level (R22, R23). -/
theorem GaugeRecord.accepts_eq (r : GaugeRecord) (raw : Int) (status : Nat) :
    (r.enabled = true → status = 0 → r.lowPlaus ≤ raw + r.datumOffset → raw + r.datumOffset ≤ r.highPlaus →
      r.accepts raw status = some (raw + r.datumOffset)) ∧
    (r.enabled = false ∨ status ≠ 0 ∨ raw + r.datumOffset < r.lowPlaus ∨ r.highPlaus < raw + r.datumOffset →
      r.accepts raw status = none) := by
  refine ⟨fun enabled ok low high => ?_, fun refused => ?_⟩
  · exact if_pos ⟨enabled, ok, low, high⟩
  · refine if_neg ?_
    rintro ⟨enabled, ok, low, high⟩
    obtain off | bad | below | above := refused
    · exact absurd enabled (by simp [off])
    · exact bad ok
    · omega
    · omega

/-- The state with a gauge's good value and its age 0 (R22). -/
def State.gauged (s : State) (n : GaugeId) (v : Int) : State := s.setGauge n { s.gauge n with value := some v, age := 0 }

theorem State.takeLevel_accepted {s : State} {n : GaugeId} {p : List Byte} {v : Int} (three : p.length = 3)
    (accepted : (s.gauge n).record.accepts (s16At p 0) (byteAt p 2) = some v) :
    s.takeLevel n p = (s.gauged n v).relevel [(s.gauge n).record.bank] := by
  simp only [State.takeLevel, three, accepted, if_true]
  rfl

theorem State.takeLevel_rejected {s : State} {n : GaugeId} {p : List Byte}
    (rejected : (s.gauge n).record.accepts (s16At p 0) (byteAt p 2) = none) : s.takeLevel n p = s := by
  simp [State.takeLevel, rejected]

theorem State.takeLevel_length {s : State} {n : GaugeId} {p : List Byte} (length : p.length ≠ 3) :
    s.takeLevel n p = s := by
  simp [State.takeLevel, length]

/-- A single side recomputed, as a state and as the Level Unit does it. -/
theorem State.relevel_one_bank (s : State) (b c : Bank) :
    (s.relevel [b]).bank c = if c = b then (s.recomputeBank c).bank c else s.bank c := by
  rw [s.relevel_bank, s.recomputeBank_bank, if_pos rfl]
  simp only [List.mem_singleton]

/-- Settles O38: an accepted sample recomputes its side (`State.takeLevel_accepted`), and of what follows it sending on
changes no level (`State.sentOn_read`); any other sample leaves the state as it is. -/
theorem levelSamplesAreAcceptedOrRejected : Obligations.LevelSamplesAreAcceptedOrRejected := by
  intro s f rest n h
  simp only
  refine ⟨fun hi lo v payload value enabled low high => ?_, fun hi lo st v payload value refused => ?_, fun length => ?_⟩
  · subst value
    let taken : State := { s with fpRx := rest }
    set v : Int := signed16 (hi.toNat * 256 + lo.toNat) + (s.gauge n).record.datumOffset
    have accepted : (taken.gauge n).record.accepts (s16At [hi, lo, 0] 0) (byteAt [hi, lo, 0] 2) = some v :=
      ((s.gauge n).record.accepts_eq _ _).1 enabled rfl low high
    let t : State := (taken.gauged n v).relevel [(s.gauge n).record.bank]
    have levelled : exec .level s = .next (s.sentOn t f.frame) := by
      rw [exec_level h, payload, State.takeLevel_accepted (s := taken) rfl accepted]
      rfl
    have gauge (m : GaugeId) : t.gauge m = if m = n then { s.gauge n with value := some v, age := 0 } else s.gauge m := by
      rw [State.gauge, State.relevel_gauges]
      exact taken.setGauge_gauge n m _
    have read {α : Type} := s.sentOn_read (α := α) t f.frame
    refine ⟨_, levelled, ?_, ⟨fun b => ?_, ?_⟩, fun m other => ?_, ?_, ?_⟩
    · rw [read (·.gauge n) fun _ _ _ => rfl, gauge, if_pos rfl]
    · rw [read (·.bank b) fun _ _ _ => by cases b <;> rfl]
      have kept : (taken.gauged n v).bank b = s.bank b := by cases b <;> rfl
      rw [← kept]
      exact State.relevel_one_bank _ _ b
    · rw [read State.notices fun _ _ _ => rfl]
      exact State.relevel_notices _ [(s.gauge n).record.bank]
    · rw [read (·.gauge m) fun _ _ _ => rfl, gauge, if_neg other]
    · rw [read State.head fun _ _ _ => rfl, read State.upstream fun _ _ _ => rfl, read State.downstream fun _ _ _ => rfl]
      exact State.relevel_head _ _
    · rw [read State.head fun _ _ _ => rfl, read State.mode fun _ _ _ => rfl]
      exact State.relevel_mode _ _
  · subst value
    have refused' : (s.gauge n).record.accepts (s16At [hi, lo, st] 0) (byteAt [hi, lo, st] 2) = none := by
      refine ((s.gauge n).record.accepts_eq _ _).2 (refused.imp_right (Or.imp_left fun bad zero => bad ?_))
      exact BitVec.eq_of_toNat_eq zero
    rw [exec_level h, payload]
    exact congrArg (fun t => Host.Outcome.next (s.sentOn t f.frame))
      (State.takeLevel_rejected (s := { s with fpRx := rest }) refused')
  · rw [exec_level h, State.takeLevel_length length]

/-! ### A gauge that goes stale -/

theorem Gauge.overdue_iff {x : Gauge} (valued : x.value ≠ none) (enabled : x.record.enabled = true) :
    x.overdue = true ↔ x.record.sampleWindow < x.age := by
  simp [Gauge.overdue, enabled, Option.isSome_iff_ne_none.mpr valued]

theorem exec_gaugeStale (n : GaugeId) (s : State) : exec (.gaugeStale n) s = .next (s.gaugeGoesStale n) := rfl

/-- A side without a value leaves no head pair (R28). -/
theorem headOf_of_bank {s : State} {b : Bank} (empty : (s.bank b).value = none) :
    headOf s.upstream.value s.downstream.value = none := by
  rw [headOf_eq_none]
  cases b
  · exact .inl empty
  · exact .inr empty

/-- The last fresh gauge of a side gone, nothing is formed for it (R24, R26). -/
theorem State.formed_of_stale {s : State} {n : GaugeId} (old : (s.gauge n).record.sampleWindow < (s.gauge n).age)
    (others : ∀ m, m ≠ n → (s.gauge m).record.bank = (s.gauge n).record.bank → (s.gauge m).fresh = none) :
    s.formed (s.gauge n).record.bank = { value := none, disagree := false } := by
  refine State.formed_none fun m v a fresh => ?_
  by_cases own : m = n
  · subst own
    obtain ⟨-, -, -, age, young⟩ := fresh
    omega
  · obtain ⟨bank, reading⟩ := (s.freshAt_iff _ m v a).mp fresh
    rw [others m own bank] at reading
    cases reading

/-- Settles O40: a gauge over its window has its side recomputed (`State.relevel_one_bank`); where nothing is formed for it
the levels that settle are those without a head pair. -/
theorem staleGaugesRemoveTheHead : Obligations.StaleGaugesRemoveTheHead := by
  intro s n valued enabled
  have overdue := Gauge.overdue_iff valued enabled
  rw [exec_gaugeStale]
  have stale (old : (s.gauge n).record.sampleWindow < (s.gauge n).age) :
      s.gaugeGoesStale n = s.relevel [(s.gauge n).record.bank] := if_pos (overdue.mpr old)
  refine ⟨fun old => ?_, fun old settled others => ?_, fun young => ?_⟩
  · refine ⟨_, rfl, ?_⟩
    rw [stale old]
    exact ⟨s.relevel_one_bank _, s.relevel_notices [_], s.relevel_head _, s.relevel_mode _, s.relevel_gauges _⟩
  · refine ⟨_, rfl, ?_⟩
    rw [stale old]
    have bank : (s.relevel [(s.gauge n).record.bank]).bank (s.gauge n).record.bank =
        { value := none, disagree := false } := by
      rw [s.relevel_bank, if_pos List.mem_cons_self, State.formed_of_stale old others]
    have head : (s.relevel [(s.gauge n).record.bank]).head = none := by
      rw [s.relevel_head]
      exact headOf_of_bank (b := (s.gauge n).record.bank) (by rw [bank])
    have mode : (s.relevel [(s.gauge n).record.bank]).mode = .noHead := by
      rw [s.relevel_mode, head, modeAfter_none]
    refine ⟨bank, head, mode, fun g => ?_, s.relevel_gauges _⟩
    obtain ⟨blank, -⟩ := (s.relevel [(s.gauge n).record.bank]).computeCeiling_mode
      ((s.relevel [(s.gauge n).record.bank]).gate g)
    exact ((settled.settled.relevel _).ceilings g).trans (blank (.inr mode))
  · exact congrArg Host.Outcome.next (if_neg fun k => by have := overdue.mp k; omega)

end Sys2Proof.Machine

/-! ## Accepted gauge, route and settings writes (R21, R149, R163, R166, R167) -/

namespace Sys2Proof.Machine

/-! ### Gauge records -/

theorem State.takeWriteGauge_accepted {s : State} {n : GaugeId} {p : List Byte}
    (named : (if byteAt p 0 = 3 then indexOf 4 (byteAt p 1) else none) = some n) (h : s.judgeGauge n p = none) :
    s.takeWriteGauge p =
      (s.writeGauge n (RawGauge.parse (recordBytes p)).record).writeReply p .accepted 0 ((s.gauge n).generation + 1) := by
  simp only [State.takeWriteGauge, named, h]

theorem mem_banksOf (a b c : Bank) : c ∈ banksOf a b ↔ c = a ∨ c = b := by
  cases a <;> cases b <;> cases c <;> decide

/-- The gauge that a record write leaves: the good value kept where only sample_window changed (R21; log 18). -/
def Gauge.rewritten (x : Gauge) (new : GaugeRecord) : Gauge where
  record := new
  generation := x.generation + 1
  value := if { x.record with sampleWindow := new.sampleWindow } = new then x.value else none
  age := if { x.record with sampleWindow := new.sampleWindow } = new then x.age else 0

/-- Binding and gauge of a record write in place, before the sides are recomputed (R21). -/
def State.regauged (s : State) (n : GaugeId) (new : GaugeRecord) : State :=
  (s.rebind (s.gauge n).record.address new.address .gauge (.gauge n)).setGauge n ((s.gauge n).rewritten new)

theorem State.writeGauge_eq (s : State) (n : GaugeId) (new : GaugeRecord) :
    s.writeGauge n new = (s.regauged n new).relevel (banksOf (s.gauge n).record.bank new.bank) := by
  simp only [State.writeGauge, GaugeRecord.keepsValue, decide_eq_true_eq]
  rfl

/-- A change of bindings is a change of the Route Table alone. -/
theorem State.rebind_routes (s : State) (old new : Option LinkAddr) (role : Role) (b : Binding) :
    s.rebind old new role b = { s with routes := (s.rebind old new role b).routes } := by
  unfold State.rebind
  split
  · rfl
  · cases old <;> cases new <;> rfl

section
variable (s : State) (n : GaugeId) (new : GaugeRecord)

theorem State.regauged_eq : s.regauged n new = { s with
    routes := (s.rebind (s.gauge n).record.address new.address .gauge (.gauge n)).routes
    gauges := s.gauges.set n ((s.gauge n).rewritten new) } := by
  unfold State.regauged
  rw [State.rebind_routes]
  rfl

theorem State.writeGauge_gauge (m : GaugeId) :
    (s.writeGauge n new).gauge m = if m = n then (s.gauge n).rewritten new else s.gauge m := by
  rw [State.gauge, s.writeGauge_eq, State.relevel_gauges, s.regauged_eq]
  exact s.setGauge_gauge n m _

theorem State.writeGauge_bank (b : Bank) : (s.writeGauge n new).bank b =
    if b = (s.gauge n).record.bank ∨ b = new.bank then
      { s with gauges := (s.writeGauge n new).gauges }.formed b else s.bank b := by
  have settings : (s.regauged n new).settings = s.settings := by rw [s.regauged_eq]
  rw [s.writeGauge_eq, State.relevel_bank, State.relevel_gauges]
  simp only [mem_banksOf]
  split
  · exact State.formed_congr (s := { s with gauges := (s.regauged n new).gauges }) (t := s.regauged n new) rfl
      (congrArg Settings.gaugeAgree settings) b
  · rw [s.regauged_eq]
    cases b <;> rfl

theorem State.writeGauge_route {a : LinkAddr} (names : new.address = some a)
    (differs : (s.gauge n).record.address ≠ some a) : ((s.writeGauge n new).route a).role = .gauge ∧
      ((s.writeGauge n new).route a).binding = some (.gauge n) := by
  have route : (s.writeGauge n new).route a =
      (s.rebind (s.gauge n).record.address (some a) .gauge (.gauge n)).route a := by
    rw [State.route, s.writeGauge_eq, State.relevel_routes, s.regauged_eq, ← names]
    rfl
  rw [route]
  exact s.rebind_bound differs _ _

theorem State.writeGauge_head : (s.writeGauge n new).head =
    headOf (s.writeGauge n new).upstream.value (s.writeGauge n new).downstream.value := by
  rw [s.writeGauge_eq]
  exact State.relevel_head _ _

theorem State.writeGauge_replies : (s.writeGauge n new).replies = s.replies := by
  rw [s.writeGauge_eq, State.relevel_replies, s.regauged_eq]

end

/-- Settles O55: the reply apart, the command is `State.writeGauge`, the record put in place and its sides recomputed
(`State.writeGauge_eq`). -/
theorem acceptedGaugeWritesTakeEffect : Obligations.AcceptedGaugeWritesTakeEffect := by
  intro s n flag e1 e0 r rest length h accepted
  simp only
  let taken : State := { s with spRx := rest }
  let new := (RawGauge.parse r).record
  have row : writeRow (3 :: byte n.val :: flag :: e1 :: e0 :: r) = some .writeGauge :=
    (writeRow_table 3 (byte n.val) (flag :: e1 :: e0 :: r)).2.2.2.1 rfl (by simp [length])
  have answered : taken.takeWriteGauge (3 :: byte n.val :: flag :: e1 :: e0 :: r) =
      (taken.writeGauge n new).writeReply (3 :: byte n.val :: flag :: e1 :: e0 :: r) .accepted 0
        ((s.gauge n).generation + 1) :=
    State.takeWriteGauge_accepted (s := taken) (namesRecord n _ rfl (by decide)) accepted
  have gauge := taken.writeGauge_gauge n new
  have route (a : LinkAddr) := taken.writeGauge_route n new (a := a)
  have bank := taken.writeGauge_bank n new
  have head := taken.writeGauge_head n new
  have replies := taken.writeGauge_replies n new
  generalize taken.writeGauge n new = written at answered gauge route bank head replies
  refine ⟨_, congrArg Host.Outcome.next ((h.takeWrite row State.takeWriteGauge).trans answered), ?_, fun m other => ?_,
    route, fun b => ?_, head, ?_⟩
  · exact (gauge n).trans (if_pos rfl)
  · exact (gauge m).trans (if_neg other)
  · rw [State.recomputeBank_bank, if_pos rfl]
    have reply : (written.writeReply (3 :: byte n.val :: flag :: e1 :: e0 :: r) .accepted 0
        ((s.gauge n).generation + 1)).bank b = written.bank b := by cases b <;> rfl
    have kept : taken.bank b = s.bank b := by cases b <;> rfl
    rw [reply, bank, kept]
    exact if_congr Iff.rfl (State.formed_congr rfl rfl b) rfl
  · rw [State.writeReply_cons, State.reply_replies, replies]
    rfl

/-! ### The checks that a write passes -/

theorem append_eq_ofNat (a b : Byte) : (a ++ b : BitVec 16) = BitVec.ofNat 16 (a.toNat * 256 + b.toNat) := by
  refine BitVec.eq_of_toNat_eq ?_
  have := a.isLt
  have := b.isLt
  rw [BitVec.toNat_append, BitVec.toNat_ofNat, Nat.mod_eq_of_lt (by omega), ← Nat.shiftLeft_add_eq_or_of_lt b.isLt,
    Nat.shiftLeft_eq]

/-- A write that is unconditional, or expects the present generation, passes its check (R165, R166). -/
theorem generationCheck_passes {id ix flag e1 e0 : Byte} {r : List Byte} {gen : CountWord}
    (expected : flag = 0 ∨ e1 ++ e0 = gen) :
    generationCheck (isConditional (id :: ix :: flag :: e1 :: e0 :: r)) (expectedGen (id :: ix :: flag :: e1 :: e0 :: r))
      gen = none := by
  refine if_neg ?_
  rintro ⟨conditional, differs⟩
  obtain rfl | same := expected
  · cases conditional
  · exact differs ((append_eq_ofNat e1 e0).symm.trans same)

/-! ### Route entries -/

theorem roleOf_code (r : Role) : roleOf r.code = some r := by cases r <;> rfl

theorem Role.writable_iff (r : Role) : r.writable = true ↔ r = .unused ∨ r = .other := by
  cases r <;> simp [Role.writable]

/-- A role that the station may write there, and pass settings in range, pass the checks (R149). -/
theorem State.judgeRoute_passes {s : State} {a : LinkAddr} {flag e1 e0 role down up : Byte} {new : Role}
    (names : role.toNat = new.code) (downOk : down.toNat ≤ 1) (upOk : up.toNat ≤ 1)
    (expected : flag = 0 ∨ e1 ++ e0 = (s.route a).generation)
    (may : if (s.route a).role = .unused ∨ (s.route a).role = .other then new = .unused ∨ new = .other
      else new = (s.route a).role) : s.judgeRoute a [4, byte a.val, flag, e1, e0, role, down, up] = none := by
  have named : roleOf role.toNat = some new := by rw [names, roleOf_code]
  simp only [← Role.writable_iff] at may
  unfold State.judgeRoute
  simp only [Option.or_eq_none_iff, fieldCheck_eq_none]
  refine ⟨?_, generationCheck_passes expected, if_neg ?_⟩
  · have roleFits : roleOk (s.route a).role role.toNat = true := by
      simp only [roleOk, named, Bool.or_eq_true, Bool.not_eq_true']
      split at may
      · exact .inr may
      · exact .inl (Bool.eq_false_iff.mpr ‹_›)
    simpa [routeChecks, recordBytes, byteAt, downOk, upOk] using roleFits
  · rintro ⟨fixed, differs⟩
    rw [if_neg (by simpa using fixed)] at may
    exact differs (may ▸ named)

theorem RouteEntry.written_eq (e : RouteEntry) {role : Byte} {new : Role} (names : role.toNat = new.code) (down up : Byte) :
    e.written [role, down, up] =
      { role := new, binding := e.binding, passDown := if down = 0 then .forward else .drop
        passUp := if up = 0 then .forward else .consume, generation := e.generation + 1 } := by
  have zero (b : Byte) : b.toNat = 0 ↔ b = 0 := ⟨fun h => BitVec.eq_of_toNat_eq h, fun h => h ▸ rfl⟩
  have named : roleOf role.toNat = some new := by rw [names, roleOf_code]
  simp [RouteEntry.written, byteAt, named, passDownOf, passUpOf, zero]

theorem State.takeWriteRoute_accepted {s : State} {a : LinkAddr} {p : List Byte}
    (named : (if byteAt p 0 = 4 then indexOf 64 (byteAt p 1) else none) = some a) (h : s.judgeRoute a p = none) :
    s.takeWriteRoute p =
      (s.setRoute a ((s.route a).written (recordBytes p))).writeReply p .accepted 0 ((s.route a).generation + 1) := by
  simp only [State.takeWriteRoute, named, h]

/-! ### Settings -/

theorem State.judgeSettings_passes {s : State} {id ix flag e1 e0 : Byte} {r : List Byte}
    (sound : firstFailing (settingsChecks r) = none) (expected : flag = 0 ∨ e1 ++ e0 = s.settingsGen) :
    s.judgeSettings (id :: ix :: flag :: e1 :: e0 :: r) = s.busyCheck (parseSettings r) := by
  have fields : fieldCheck (settingsChecks r) = none := by rw [fieldCheck, sound]; rfl
  show ((fieldCheck (settingsChecks r)).or ((generationCheck _ _ _).or _)) = _
  rw [fields, generationCheck_passes expected]
  rfl

theorem State.takeWriteSettings_accepted {s : State} {p : List Byte} (named : byteAt p 0 = 5 ∧ byteAt p 1 = 0)
    (h : s.judgeSettings p = none) : s.takeWriteSettings p =
      (s.writeSettings (parseSettings (recordBytes p))).writeReply p .accepted 0 (s.settingsGen + 1) := by
  simp only [State.takeWriteSettings, if_pos named, h]

/-- The settings record with its generation and the silence timer in place, before what they change (R102, R163). -/
def State.resettled (s : State) (new : Settings) : State :=
  { s with
    settings := new, settingsGen := s.settingsGen + 1
    silence := if s.settings.silenceWindow = new.silenceWindow then s.silence else silenceFor new.silenceWindow }

/-- What follows new settings at the Level Unit leaves all but levels as it is, and the levels too unless gauge_agree
changed (R32). -/
theorem State.relevelFor_still (s : State) (old new : Settings) :
    (s.relevelFor old new).still = { s with
      upstream := (s.relevelFor old new).upstream, downstream := (s.relevelFor old new).downstream
      head := (s.relevelFor old new).head, mode := (s.relevelFor old new).mode }.still := by
  unfold State.relevelFor
  split
  · exact s.relevel_still _
  · split
    · have still := s.newHead_still s.head
      rw [still, State.eq_of_still still State.upstream fun _ => rfl, State.eq_of_still still State.downstream fun _ => rfl,
        s.newHead_head, s.newHead_mode]
    · rfl

theorem State.relevelFor_bank (s : State) (old new : Settings) (b : Bank) : (s.relevelFor old new).bank b =
    if new.gaugeAgree = old.gaugeAgree then s.bank b else s.formed b := by
  unfold State.relevelFor
  by_cases same : old.gaugeAgree = new.gaugeAgree
  · rw [if_neg (not_not.mpr same), if_pos same.symm]
    split
    · exact State.eq_of_still (s.newHead_still s.head) (·.bank b) fun _ => by cases b <;> rfl
    · rfl
  · rw [if_pos same, if_neg (Ne.symm same), s.relevel_bank, if_pos (by cases b <;> simp)]

theorem State.writeSettings_reach (s : State) (new : Settings) :
    ((s.resettled new).relevelFor s.settings new).Reach (s.writeSettings new) := by
  unfold State.writeSettings
  simp only
  split
  · exact .refl
  · exact State.reach_evaluateNow _

section
variable (s : State) (new : Settings)

/-- What is read of a state apart from motion and levels is, after the write, what it put in place. -/
theorem State.writeSettings_read {α : Type} (read : State → α) (blank : ∀ u : State, read u.still = read u)
    (level : ∀ (u : State) up down head mode,
      read { u with upstream := up, downstream := down, head := head, mode := mode } = read u) :
    read (s.writeSettings new) = read (s.resettled new) := by
  rw [State.eq_of_still (s.writeSettings_reach new).still read blank,
    State.eq_of_still ((s.resettled new).relevelFor_still s.settings new) read blank, level]

theorem State.writeSettings_bank (b : Bank) : (s.writeSettings new).bank b =
    if new.gaugeAgree = s.settings.gaugeAgree then s.bank b else { s with settings := new }.formed b := by
  rw [State.eq_of_still (s.writeSettings_reach new).still (·.bank b) fun _ => by cases b <;> rfl,
    State.relevelFor_bank]
  refine if_congr Iff.rfl ?_ (State.formed_congr rfl rfl b)
  cases b <;> rfl

end

/-- Settles O56: the writes pass their checks (`State.judgeRoute_passes`, `State.judgeSettings_passes`); what new settings
change after they are in place are levels and motion alone (`State.writeSettings_read`). -/
theorem routeAndSettingsWritesTakeEffect : Obligations.RouteAndSettingsWritesTakeEffect := by
  refine ⟨fun s a flag e1 e0 role down up rest new h names downOk upOk expected may => ?_,
    fun s flag e1 e0 r rest length h sound expected => ?_⟩
  · let taken : State := { s with spRx := rest }
    have row := (writeRow_table 4 (byte a.val) [flag, e1, e0, role, down, up]).2.2.2.2.1 rfl rfl
    have accepted : taken.judgeRoute a [4, byte a.val, flag, e1, e0, role, down, up] = none :=
      State.judgeRoute_passes (s := taken) names downOk upOk expected may
    have answered := State.takeWriteRoute_accepted (s := taken) (namesRecord a _ rfl (by decide)) accepted
    refine congrArg Host.Outcome.next ((h.takeWrite row State.takeWriteRoute).trans (answered.trans ?_))
    rw [State.writeReply_cons]
    exact congrArg (fun e => (taken.setRoute a e).reply 0x21#8 .accepted 0
      ([4, byte a.val] ++ be16 ((s.route a).generation + 1).toNat)) (RouteEntry.written_eq _ names down up)
  · simp only
    let taken : State := { s with spRx := rest }
    let new := parseSettings r
    have row := (writeRow_table 5 0 (flag :: e1 :: e0 :: r)).2.2.2.2.2 rfl (by simp [length])
    have judged : taken.judgeSettings (5 :: 0 :: flag :: e1 :: e0 :: r) = taken.busyCheck new :=
      State.judgeSettings_passes sound expected
    refine ⟨fun fits => ?_, fun busy => ?_⟩
    · have free : taken.busyCheck new = none := if_neg (Nat.not_lt.mpr fits)
      have answered : taken.takeWriteSettings (5 :: 0 :: flag :: e1 :: e0 :: r) =
          (taken.writeSettings new).writeReply (5 :: 0 :: flag :: e1 :: e0 :: r) .accepted 0 (s.settingsGen + 1) :=
        State.takeWriteSettings_accepted ⟨rfl, rfl⟩ (judged.trans free)
      have settings := taken.writeSettings_read new State.settings (fun _ => rfl) fun _ _ _ _ _ => rfl
      have gen := taken.writeSettings_read new State.settingsGen (fun _ => rfl) fun _ _ _ _ _ => rfl
      have silence := taken.writeSettings_read new State.silence (fun _ => rfl) fun _ _ _ _ _ => rfl
      have replies := taken.writeSettings_read new State.replies (fun _ => rfl) fun _ _ _ _ _ => rfl
      have bank := taken.writeSettings_bank new
      generalize taken.writeSettings new = written at answered settings gen silence replies bank
      refine ⟨_, congrArg Host.Outcome.next ((h.takeWrite row State.takeWriteSettings).trans answered), settings, gen,
        fun b => ?_, silence.trans ?_, ?_⟩
      · rw [State.recomputeBank_bank, if_pos rfl]
        have reply : (written.writeReply (5 :: 0 :: flag :: e1 :: e0 :: r) .accepted 0 (s.settingsGen + 1)).bank b =
            written.bank b := by cases b <;> rfl
        rw [reply, bank]
        refine if_congr Iff.rfl ?_ (State.formed_congr rfl rfl b)
        cases b <;> rfl
      · exact if_congr eq_comm rfl rfl
      · rw [State.writeReply_cons, State.reply_replies, replies]
        rfl
    · have refused : taken.busyCheck new = some (.busy, 1) := if_pos busy
      have answered := State.takeWriteSettings_refused (s := taken) ⟨rfl, rfl⟩ (judged.trans refused)
      refine congrArg Host.Outcome.next ((h.takeWrite row State.takeWriteSettings).trans (answered.trans ?_))
      exact State.writeReply_cons _ _ _ _ _ _ _

end Sys2Proof.Machine

/-! ## The curve value at a head (R39) -/

namespace Sys2Proof.Machine

/-- A part `k` of a length `n` of a slope `d`, rounded toward minus infinity, stays between 0 and the slope. -/
theorem part_of_slope_bounds {d k n : Int} (k0 : 0 ≤ k) (kn : k < n) : min 0 d ≤ d * k / n ∧ d * k / n ≤ max 0 d := by
  have n0 : 0 < n := by omega
  rw [Int.le_ediv_iff_mul_le n0]
  obtain rising | falling := le_total 0 d
  · rw [min_eq_left rising, max_eq_right rising]
    exact ⟨by nlinarith, Int.ediv_le_of_le_mul n0 (by nlinarith)⟩
  · rw [min_eq_right falling, max_eq_left falling]
    exact ⟨by nlinarith, Int.ediv_le_of_le_mul n0 (by nlinarith)⟩

/-- Between two breakpoints the curve value is the line between them, rounded toward minus infinity. -/
theorem interpolate_spec {b c : Breakpoint} {h : Int} (low : b.head ≤ h) (high : h < c.head) :
    (interpolate b c h : Int) = b.ceiling + (((c.ceiling : Int) - b.ceiling) * (h - b.head)) / (c.head - b.head) ∧
      min b.ceiling c.ceiling ≤ interpolate b c h ∧ interpolate b c h ≤ max b.ceiling c.ceiling := by
  have bounds := part_of_slope_bounds (d := (c.ceiling : Int) - b.ceiling) (k := h - b.head) (n := c.head - b.head)
    (by omega) (by omega)
  unfold interpolate
  generalize ((c.ceiling : Int) - b.ceiling) * (h - b.head) / (c.head - b.head) = rise at bounds ⊢
  omega

theorem segmentValue_last {b z : Breakpoint} {rest : List Breakpoint} {h : Int}
    (sorted : (b :: rest).Pairwise fun x y => x.head < y.head) (last : (b :: rest).getLast? = some z) (above : z.head ≤ h) :
    segmentValue b rest h = z.ceiling := by
  induction rest generalizing b with
  | nil =>
    obtain rfl : b = z := by simpa using last
    rfl
  | cons c rest ih =>
    rw [List.getLast?_cons_cons] at last
    obtain ⟨-, tail⟩ := List.pairwise_cons.mp sorted
    have upTo : c.head ≤ z.head := by
      obtain rfl | later := List.mem_cons.mp (List.mem_of_getLast? last)
      · exact le_refl _
      · exact le_of_lt ((List.pairwise_cons.mp tail).1 z later)
    rw [segmentValue, if_neg (by omega)]
    exact ih tail last

theorem segmentValue_between {a b c : Breakpoint} {before after : List Breakpoint} {h : Int}
    (sorted : (a :: before ++ b :: c :: after).Pairwise fun x y => x.head < y.head) (low : b.head ≤ h) (high : h < c.head) :
    segmentValue a (before ++ b :: c :: after) h = interpolate b c h := by
  induction before generalizing a with
  | nil => simp [segmentValue, high, not_lt.mpr low]
  | cons x before ih =>
    obtain ⟨-, tail⟩ := List.pairwise_cons.mp sorted
    have below : x.head < b.head := (List.pairwise_cons.mp tail).1 b (by simp)
    rw [List.cons_append, segmentValue, if_neg (by omega)]
    exact ih tail

theorem curveValue_last {points : List Breakpoint} {z : Breakpoint} {h : Int}
    (sorted : points.Pairwise fun x y => x.head < y.head) (last : points.getLast? = some z) (above : z.head ≤ h) :
    curveValue points h = some z.ceiling := by
  cases points with
  | nil => cases last
  | cons b rest =>
    rw [curveValue]
    split
    · rename_i below
      obtain rfl | later := List.mem_cons.mp (List.mem_of_getLast? last)
      · rfl
      · have := (List.pairwise_cons.mp sorted).1 z later
        omega
    · rw [segmentValue_last sorted last above]

theorem curveValue_between {b c : Breakpoint} {before after : List Breakpoint} {h : Int}
    (sorted : (before ++ b :: c :: after).Pairwise fun x y => x.head < y.head) (low : b.head ≤ h) (high : h < c.head) :
    curveValue (before ++ b :: c :: after) h = some (interpolate b c h) := by
  cases before with
  | nil =>
    rw [List.nil_append, curveValue]
    split
    · obtain rfl : h = b.head := by omega
      simp [interpolate]
    · rw [segmentValue, if_pos high]
  | cons a before =>
    have below : a.head < b.head := (List.pairwise_cons.mp sorted).1 b (by simp)
    rw [List.cons_append, curveValue, if_neg (by omega), segmentValue_between sorted low high]

/-- Settles O17: the end ceilings by the search along the breakpoints (`curveValue_last`), the line between two of them by
`curveValue_between`, and its bounds by `interpolate_spec`. -/
theorem curveValueFollowsTheBreakpoints : Obligations.CurveValueFollowsTheBreakpoints := by
  intro points h sorted
  refine ⟨?_, fun b last above => curveValue_last sorted last above, ?_⟩
  · rintro b rest rfl below
    rw [curveValue, if_pos below]
  · rintro before b c after rfl low high
    exact ⟨_, curveValue_between sorted low high, interpolate_spec low high⟩

end Sys2Proof.Machine

/-! ## The stages of a decision (R43 to R53) -/

namespace Sys2Proof.Machine

/-! ### The linked neighbours and their band (R45, R46) -/

theorem leftOf_eq_some (g h : GateId) : leftOf g = some h ↔ h.val + 1 = g.val := by
  simp only [leftOf, Option.ite_none_left_eq_some, Option.some.injEq, Fin.ext_iff]
  have := h.isLt
  omega

theorem rightOf_eq_some (g h : GateId) : rightOf g = some h ↔ h.val = g.val + 1 := by
  simp only [rightOf, Option.dite_none_right_eq_some, Option.some.injEq, Fin.ext_iff, exists_prop]
  have := h.isLt
  omega

theorem State.neighbourOpening_eq_some (s : State) (a : Option GateId) (n : Nat) :
    s.neighbourOpening a = some n ↔ ∃ h, a = some h ∧ (s.record h).inService = true ∧ (s.gate h).opening = some n := by
  cases a with
  | none => simp [State.neighbourOpening]
  | some h => simp [State.neighbourOpening]

theorem State.mem_linkedOpenings (s : State) (g : GateId) (n : Nat) : n ∈ s.linkedOpenings g ↔ ∃ h, s.Linked g h n := by
  by_cases free : (s.record g).spread = 0
  · simp [State.linkedOpenings, State.Linked, free]
  · rw [State.linkedOpenings, if_neg free]
    simp only [List.mem_append, List.mem_ite_nil_right, Option.mem_toList,
      State.neighbourOpening_eq_some, leftOf_eq_some, rightOf_eq_some, State.Linked, ne_eq, free, not_false_eq_true,
      true_and]
    constructor
    · rintro (⟨link, h, beside, served⟩ | ⟨link, h, beside, served⟩)
      · exact ⟨h, .inl ⟨link, beside⟩, served⟩
      · exact ⟨h, .inr ⟨link, beside⟩, served⟩
    · rintro ⟨h, ⟨link, beside⟩ | ⟨link, beside⟩, served⟩
      · exact .inl ⟨link, h, beside, served⟩
      · exact .inr ⟨link, h, beside, served⟩

/-- The greatest low end and the least high end among intervals. -/
structure Meets (intervals : List (Int × Int)) (i : Int × Int) : Prop where
  low : ∃ j ∈ intervals, i.1 = j.1
  lows : ∀ j ∈ intervals, j.1 ≤ i.1
  high : ∃ j ∈ intervals, i.2 = j.2
  highs : ∀ j ∈ intervals, i.2 ≤ j.2

theorem foldl_meet_meets (i : Int × Int) (rest : List (Int × Int)) : Meets (i :: rest) (rest.foldl meet i) := by
  induction rest using List.reverseRecOn with
  | nil => exact ⟨⟨i, by simp⟩, by simp, ⟨i, by simp⟩, by simp⟩
  | append_singleton rest j ih =>
    obtain ⟨⟨a, ha, low⟩, lows, ⟨b, hb, high⟩, highs⟩ := ih
    have old {k : Int × Int} (hk : k ∈ i :: rest) : k ∈ i :: (rest ++ [j]) := by
      rw [← List.cons_append]
      exact List.mem_append_left _ hk
    have new : j ∈ i :: (rest ++ [j]) := by simp
    have split {k : Int × Int} (hk : k ∈ i :: (rest ++ [j])) : k ∈ i :: rest ∨ k = j := by
      rw [← List.cons_append] at hk
      simpa using List.mem_append.mp hk
    rw [List.foldl_append, List.foldl_cons, List.foldl_nil]
    refine ⟨?_, fun k hk => ?_, ?_, fun k hk => ?_⟩
    · obtain e | e := max_choice (rest.foldl meet i).1 j.1
      · exact ⟨a, old ha, e.trans low⟩
      · exact ⟨j, new, e⟩
    · obtain hk | rfl := split hk
      · exact (lows k hk).trans (le_max_left _ _)
      · exact le_max_right _ _
    · obtain e | e := min_choice (rest.foldl meet i).2 j.2
      · exact ⟨b, old hb, e.trans high⟩
      · exact ⟨j, new, e⟩
    · obtain hk | rfl := split hk
      · exact (min_le_left _ _).trans (highs k hk)
      · exact min_le_right _ _

theorem neighbourBand_meets (spread opening : Nat) (ns : List Nat) {i : Int × Int}
    (e : neighbourBand spread opening ns = some i) : Meets (ns.map (allowedInterval spread opening)) i := by
  cases ns with
  | nil => cases e
  | cons n rest =>
    obtain rfl := Option.some.inj e
    rw [List.map_cons, ← List.foldl_map (f := allowedInterval spread opening) (g := meet)]
    exact foldl_meet_meets _ _

theorem State.allowedInterval_eq (s : State) (g : GateId) (opening n : Nat) :
    allowedInterval (s.record g).spread opening n = (n - s.allowance g opening n, n + s.allowance g opening n) := by
  simp [allowedInterval, State.allowance]

/-- The band stage finds the band, or no linked neighbour and no band. -/
theorem State.bandStage_spec (s : State) (g : GateId) (opening : Nat) :
    (bandStage (s.record g).spread opening (s.linkedOpenings g) (s.gate g).ceiling = none ∧ ∀ h n, ¬ s.Linked g h n) ∨
      ∃ lo hi, bandStage (s.record g).spread opening (s.linkedOpenings g) (s.gate g).ceiling = some (lo, hi) ∧
        s.Band g opening lo hi := by
  cases e : neighbourBand (s.record g).spread opening (s.linkedOpenings g) with
  | none =>
    refine .inl ⟨by simp [bandStage, e], fun h n linked => ?_⟩
    have counted := (s.mem_linkedOpenings g n).mpr ⟨h, linked⟩
    cases list : s.linkedOpenings g with
    | nil => simp [list] at counted
    | cons m rest => simp [list, neighbourBand] at e
  | some i =>
    obtain ⟨⟨j, hj, low⟩, lows, ⟨k, hk, high⟩, highs⟩ := neighbourBand_meets _ _ _ e
    have interval {h : GateId} {n : Nat} (linked : s.Linked g h n) : allowedInterval (s.record g).spread opening n ∈
        (s.linkedOpenings g).map (allowedInterval (s.record g).spread opening) :=
      List.mem_map_of_mem ((s.mem_linkedOpenings g n).mpr ⟨h, linked⟩)
    have neighbour {j : Int × Int} (hj : j ∈ (s.linkedOpenings g).map (allowedInterval (s.record g).spread opening)) :
        ∃ h n, s.Linked g h n ∧ allowedInterval (s.record g).spread opening n = j := by
      obtain ⟨n, hn, rfl⟩ := List.mem_map.mp hj
      obtain ⟨h, linked⟩ := (s.mem_linkedOpenings g n).mp hn
      exact ⟨h, n, linked, rfl⟩
    obtain ⟨h, m, linkedLow, rfl⟩ := neighbour hj
    obtain ⟨h', m', linkedHigh, rfl⟩ := neighbour hk
    rw [s.allowedInterval_eq] at low high
    have lower (h : GateId) (n : Nat) (linked : s.Linked g h n) : n - s.allowance g opening n ≤ i.1 := by
      simpa only [s.allowedInterval_eq] using lows _ (interval linked)
    have upper (h : GateId) (n : Nat) (linked : s.Linked g h n) : i.2 ≤ n + s.allowance g opening n := by
      simpa only [s.allowedInterval_eq] using highs _ (interval linked)
    refine .inr ⟨_, i.2, ?_, i.1, ⟨h, m, linkedLow, low⟩, lower,
      ⟨h', m', linkedHigh, high⟩, upper, rfl⟩
    cases ceiling : (s.gate g).ceiling <;> simp [bandStage, e]

/-- The opening stands within the band, and the band within the ceiling (R46). -/
theorem State.Band.around {s : State} {g : GateId} {opening : Nat} {lo hi : Int} (band : s.Band g opening lo hi) :
    lo ≤ opening ∧ (opening : Int) ≤ hi ∧ ∀ c, (s.gate g).ceiling = some c → lo ≤ c := by
  obtain ⟨low, ⟨h, n, -, low_eq⟩, -, ⟨k, m, -, high_eq⟩, -, lowered⟩ := band
  have lowest : lo ≤ low := by
    rw [lowered]
    split
    · exact min_le_left _ _
    · exact le_refl _
  simp only [State.allowance, distance] at low_eq high_eq
  refine ⟨by split at low_eq <;> omega, by split at high_eq <;> omega, fun c ceiling => ?_⟩
  rw [lowered, ceiling]
  exact min_le_right _ _

theorem State.Band.unique {s : State} {g : GateId} {opening : Nat} {lo hi lo' hi' : Int} (band : s.Band g opening lo hi)
    (other : s.Band g opening lo' hi') : lo' = lo ∧ hi' = hi := by
  obtain ⟨low, ⟨h, n, linked, rfl⟩, lows, ⟨k, m, linked', rfl⟩, highs, rfl⟩ := band
  obtain ⟨low', ⟨_, _, linked₂, rfl⟩, lows', ⟨_, _, linked₂', rfl⟩, highs', rfl⟩ := other
  have same := le_antisymm (lows _ _ linked₂) (lows' _ _ linked)
  exact ⟨by rw [same], le_antisymm (highs' _ _ linked') (highs _ _ linked₂')⟩

/-! ### The goal and the leg (R44, R47) -/

theorem State.goalStage_eq (s : State) (g : GateId) (target opening : Nat) :
    goalStage target opening (s.gate g).ceiling = (s.goal g target opening,
      if s.goal g target opening = target then none else some (match (s.gate g).ceiling with
        | some _ => .ceiling
        | none => .noHead)) := by
  unfold goalStage State.goal
  cases (s.gate g).ceiling with
  | none =>
    by_cases le : target ≤ opening
    · simp [le]
    · simp [le, le_of_not_ge le, show opening ≠ target by omega]
  | some c =>
    by_cases le : target ≤ c
    · simp [le]
    · simp [le, le_of_not_ge le, show c ≠ target by omega]

/-- The goal clamped into the band, with the term of the leg stage (R47). -/
def State.legStageAt (s : State) (g : GateId) (target opening : Nat) : Nat × Option WaitReason :=
  legStage (s.goal g target opening) (bandStage (s.record g).spread opening (s.linkedOpenings g) (s.gate g).ceiling)

theorem State.legStageAt_clampsTo (s : State) (g : GateId) (target opening : Nat) :
    s.ClampsTo g opening (s.goal g target opening) (s.legStageAt g target opening).1 := by
  obtain ⟨unbounded, alone⟩ | ⟨lo, hi, bounded, band⟩ := s.bandStage_spec g opening
  · exact .inl ⟨alone, by rw [State.legStageAt, unbounded]; rfl⟩
  · refine .inr ⟨lo, hi, band, ?_⟩
    obtain ⟨low, high, -⟩ := band.around
    simp only [State.legStageAt, bounded, legStage]
    split
    · simp only
      omega
    · split <;> simp only <;> omega

/-- The leg stage names SPREAD exactly where the clamp changed the goal (R47). -/
theorem State.legStageAt_term (s : State) (g : GateId) (target opening : Nat)
    (changed : (s.legStageAt g target opening).1 ≠ s.goal g target opening) :
    (s.legStageAt g target opening).2 = some .spread := by
  unfold State.legStageAt legStage at *
  split at changed
  · exact absurd rfl changed
  · split
    · rfl
    · split
      · rfl
      · simp_all

/-- A leg lies between goal and opening, and under the ceiling that the goal is under (R44, R47). -/
theorem State.ClampsTo.between {s : State} {g : GateId} {opening goal : Nat} {leg : Int}
    (h : s.ClampsTo g opening goal leg) : ((min goal opening : Nat) : Int) ≤ leg ∧ leg ≤ (max goal opening : Nat) := by
  obtain ⟨-, rfl⟩ | ⟨lo, hi, band, rfl⟩ := h
  · omega
  · have := band.around
    omega

theorem State.ClampsTo.within_band {s : State} {g : GateId} {opening goal : Nat} {leg : Int}
    (h : s.ClampsTo g opening goal leg) {lo hi : Int} (band : s.Band g opening lo hi) : lo ≤ leg ∧ leg ≤ hi := by
  obtain ⟨alone, -⟩ | ⟨lo', hi', band', rfl⟩ := h
  · obtain ⟨_, ⟨h, n, linked, -⟩, -⟩ := band
    exact absurd linked (alone h n)
  · obtain ⟨rfl, rfl⟩ := band.unique band'
    have := band.around
    omega

theorem State.ClampsTo.le_ceiling {s : State} {g : GateId} {opening goal : Nat} {leg : Int}
    (h : s.ClampsTo g opening goal leg) {c : Nat} (ceiling : (s.gate g).ceiling = some c) (under : goal ≤ c) : leg ≤ c := by
  obtain ⟨-, rfl⟩ | ⟨lo, hi, band, rfl⟩ := h
  · omega
  · have := band.around.2.2 c ceiling
    omega

/-! ### The decision (R48, R49, R52, R53) -/

/-- The leg that a decision plans to a leg target (R49, R52, R53). -/
def State.planAt (s : State) (g : GateId) (leg opening : Nat) : Plan where
  target := leg
  direction := if opening < leg then .raise else .lower
  speed := s.legSpeed (s.record g)
  deadline := legDeadline leg opening (s.legSpeed (s.record g)) (s.record g).startAllowance

section
variable (s : State) (g : GateId) (target opening : Nat)

theorem State.decideAt_eq : s.decideAt g target opening =
    { decision :=
        if distance target opening ≤ (s.record g).arriveTol then .satisfied
        else if distance (s.legStageAt g target opening).1 opening ≤ (s.record g).arriveTol then
          .blocked ((goalStage target opening (s.gate g).ceiling).2.or (s.legStageAt g target opening).2)
        else .legNeeded (s.planAt g (s.legStageAt g target opening).1 opening)
      clampedTo := match (s.gate g).ceiling with
        | some c => if c < target then some c else none
        | none => none } := by
  have clamped : (if (goalStage target opening (s.gate g).ceiling).2 = some .ceiling
      then some (goalStage target opening (s.gate g).ceiling).1 else none) = match (s.gate g).ceiling with
        | some c => if c < target then some c else none
        | none => none := by
    unfold goalStage
    cases (s.gate g).ceiling with
    | none => by_cases le : target ≤ opening <;> simp [le]
    | some c => by_cases le : target ≤ c <;> simp [le, not_lt.mpr, lt_of_not_ge]
  unfold State.decideAt
  simp only [clamped]
  simp only [s.goalStage_eq g target opening]
  simp only [show legStage (s.goal g target opening) _ = s.legStageAt g target opening from rfl]
  split
  · rfl
  · split <;> rfl

theorem State.decideAt_satisfied :
    (s.decideAt g target opening).decision = .satisfied ↔ distance target opening ≤ (s.record g).arriveTol := by
  rw [State.decideAt_eq]
  simp only
  split
  · simp [*]
  · split <;> simp [*]

theorem State.decideAt_blocked (far : (s.record g).arriveTol < distance target opening)
    (short : distance (s.legStageAt g target opening).1 opening ≤ (s.record g).arriveTol) :
    (s.decideAt g target opening).decision = .blocked (some (if s.goal g target opening = target then .spread
      else match (s.gate g).ceiling with
        | some _ => .ceiling
        | none => .noHead)) := by
  rw [State.decideAt_eq]
  simp only [if_neg (not_le.mpr far), if_pos short, s.goalStage_eq]
  by_cases whole : s.goal g target opening = target
  · have changed : (s.legStageAt g target opening).1 ≠ s.goal g target opening := by
      rw [whole]
      rintro same
      rw [same] at short
      omega
    simp [whole, s.legStageAt_term g target opening changed]
  · simp [whole]

theorem State.decideAt_legNeeded (far : (s.record g).arriveTol < distance target opening)
    (long : (s.record g).arriveTol < distance (s.legStageAt g target opening).1 opening) :
    (s.decideAt g target opening).decision = .legNeeded (s.planAt g (s.legStageAt g target opening).1 opening) := by
  rw [State.decideAt_eq]
  simp only [if_neg (not_le.mpr far), if_neg (not_le.mpr long)]

/-- A leg-needed decision goes to the leg stage's target. -/
theorem State.decideAt_plan {p : Plan} (e : (s.decideAt g target opening).decision = .legNeeded p) :
    p = s.planAt g (s.legStageAt g target opening).1 opening := by
  rw [State.decideAt_eq] at e
  simp only at e
  split at e
  · cases e
  · split at e
    · cases e
    · exact (Decision.legNeeded.inj e).symm

end

theorem distance_eq_natAbs (a b : Nat) : distance a b = ((a : Int) - b).natAbs := by
  unfold distance
  split <;> omega

/-- The division of a deadline, rounded up: the least number of milliseconds that cover the distance (R53). -/
theorem legDeadline_least (target opening speed startAllowance : Nat) (moves : 0 < speed) :
    ∃ n, legDeadline target opening speed startAllowance = n + startAllowance ∧
      distance target opening * 60000 ≤ n * speed ∧ ∀ m, distance target opening * 60000 ≤ m * speed → n ≤ m := by
  refine ⟨_, rfl, ?_, fun m covers => ?_⟩
  · have parts := Nat.div_add_mod' (distance target opening * 60000 + (speed - 1)) speed
    have rest := Nat.mod_lt (distance target opening * 60000 + (speed - 1)) moves
    omega
  · rw [Nat.div_le_iff_le_mul_add_pred moves, mul_comm speed]
    exact Nat.add_le_add_right covers _

/-- Settles O18: the leg target is the goal clamped into the band (`State.legStageAt_clampsTo`), and the opening stands
within the band. -/
theorem legsStayWithinTheirBounds : Obligations.LegsStayWithinTheirBounds := by
  intro s g target opening p travel opened needed
  have leg := s.legStageAt_clampsTo g target opening
  have planned : p.target = (s.legStageAt g target opening).1 := by rw [s.decideAt_plan g target opening needed]; rfl
  rw [← planned] at leg
  have between := leg.between
  have under : s.goal g target opening ≤ target := by
    unfold State.goal
    split <;> exact min_le_left _ _
  refine ⟨by omega, fun c ceiling => ?_, fun ceiling => ?_, fun lo hi band => leg.within_band band,
    fun h n linked => ?_, by omega, by omega⟩
  · have goal : s.goal g target opening ≤ c := by simp [State.goal, ceiling]
    exact Int.ofNat_le.mp (leg.le_ceiling ceiling goal)
  · have goal : s.goal g target opening ≤ opening := by simp [State.goal, ceiling]
    omega
  · obtain ⟨alone, -⟩ | ⟨lo, hi, band, -⟩ := id leg
    · exact absurd linked (alone h n)
    · have within := State.ClampsTo.within_band leg band
      obtain ⟨low, -, lows, -, highs, lowered⟩ := band
      refine ⟨within.2.trans (highs h n linked), ?_⟩
      have allowed := lows h n linked
      cases ceiling : (s.gate g).ceiling with
      | none =>
        simp only [ceiling] at lowered
        exact .inl (by omega)
      | some c =>
        simp only [ceiling] at lowered
        have goal : s.goal g target opening ≤ c := by simp [State.goal, ceiling]
        have below := leg.le_ceiling ceiling goal
        obtain le | le := le_total low c
        · rw [min_eq_left le] at lowered
          exact .inl (by omega)
        · rw [min_eq_right le] at lowered
          exact .inr (congrArg some (by omega))

/-! ### A request weighed (R43, R50, R51) -/

/-- The wait reason that a decision gives a request (R50). -/
theorem waitAfter_eq (d : Decision) (old : WaitReason) : waitAfter d old = match d with
    | .blocked (some term) => term
    | .legNeeded _ => .none
    | _ => old := by
  cases d with
  | blocked term => cases term <;> rfl
  | _ => rfl

/-- The CLAMPED notice of a request's first CEILING (R51). -/
def Weighing.clampNotice (w : Weighing) (g : GateId) (r : Request) : Option Notice :=
  match w.clampedTo with
  | some goal => if r.clampReported then none else some (.clamped g r.target goal .ceiling)
  | none => none

/-- A notice posted where there is one. -/
def State.postSome (s : State) : Option Notice → State
  | some n => s.post n
  | none => s

theorem State.weigh_eq (s : State) (g : GateId) (r : Request) :
    s.weigh g r = ((s.decideFor g r.target).decision,
      (s.decideFor g r.target).marks r (waitAfter (s.decideFor g r.target).decision r.waitReason),
      s.postSome ((s.decideFor g r.target).clampNotice g r)) := by
  unfold State.weigh Weighing.clampNotice Weighing.marks
  simp only
  split
  · rename_i e
    by_cases reported : r.clampReported = true <;> simp [e, reported, State.postSome]
  · rename_i e
    simp [e, State.postSome]

/-- Settles O19: a decision is a threefold choice (`State.decideAt_eq`) on the target and on the leg stage's target, which
is the goal clamped into the band (`State.legStageAt_clampsTo`). -/
theorem decisionsFollowTheStages : Obligations.DecisionsFollowTheStages := by
  refine ⟨fun s g target opening => ?_, fun s g r => ⟨fun absent => ?_, fun o present => ?_, ?_⟩⟩
  · refine ⟨_, s.legStageAt_clampsTo g target opening, s.decideAt_satisfied g target opening, fun far short => ?_,
      fun far long => ?_⟩
    · rw [← distance_eq_natAbs] at short
      exact s.decideAt_blocked g target opening far short
    · rw [← distance_eq_natAbs] at long
      refine ⟨_, s.decideAt_legNeeded g target opening far long, rfl, fun up => if_pos up, fun down => if_neg (by exact not_lt.mpr down.le),
        fun noHead => ?_, fun reverse => ?_, fun h curve head => ?_, legDeadline_least _ _ _ _⟩
      · simp [State.planAt, State.legSpeed, noHead]
      · simp [State.planAt, State.legSpeed, reverse]
      · simp [State.planAt, State.legSpeed, curve, head]
  · simp [State.decideFor, absent]
  · have decided : s.decideFor g r.target = s.decideAt g r.target o := by simp [State.decideFor, present]
    exact ⟨decided, congrArg Weighing.clampedTo (decided.trans (s.decideAt_eq g r.target o))⟩
  · rw [s.weigh_eq, waitAfter_eq]
    refine congrArg₂ Prod.mk rfl (congrArg₂ Prod.mk rfl ?_)
    unfold Weighing.clampNotice
    cases (s.decideFor g r.target).clampedTo with
    | none => rfl
    | some goal => by_cases reported : r.clampReported = true <;> simp [reported, State.postSome]

end Sys2Proof.Machine

/-! ## Accepted curve writes (R35, R168, R169) -/

namespace Sys2Proof.Machine

/-- An accepted curve write replaces the curve alone, and ceilings and motion follow. -/
theorem State.writeCurve_still (s : State) (c : Fin 4) (points : List Breakpoint) :
    (s.writeCurve c points).still = (s.withCurve c points).still := State.ceilingPath_still _

theorem State.writeCurve_curve (s : State) (c d : Fin 4) (points : List Breakpoint) :
    (s.writeCurve c points).curve d =
      if d = c then { points := points, generation := (s.curve c).generation + 1 } else s.curve d :=
  (congrFun (congrArg State.curve (s.writeCurve_still c points)) d).trans (s.withCurve_curve c d points)

theorem State.writeCurve_staging (s : State) (c : Fin 4) (points : List Breakpoint) :
    (s.writeCurve c points).staging = s.staging := 
  State.eq_of_still (s.writeCurve_still c points) State.staging fun _ => rfl

theorem State.writeCurve_replies (s : State) (c : Fin 4) (points : List Breakpoint) :
    (s.writeCurve c points).replies = s.replies := 
  State.eq_of_still (s.writeCurve_still c points) State.replies fun _ => rfl

theorem State.takeWriteFirstPart_accepted {s : State} {c : Fin 4} {p : List Byte}
    (named : (if byteAt p 0 = 1 then indexOf 4 (byteAt p 1) else none) = some c) (h : s.judgeFirstPart c p = none) :
    s.takeWriteFirstPart p =
      if curveCount p ≤ 8 then
        (s.writeCurve c (toPoints (firstPoints p))).writeReply p .accepted 0 ((s.curve c).generation + 1)
      else
        { s with staging := some {
            curve := c, count := curveCount p, points := toPoints (firstPoints p)
            conditional := isConditional p, expected := expectedGen p } }.writeReply p .deferred 0 (s.curve c).generation := by
  simp only [State.takeWriteFirstPart, named, h]

theorem State.takeWriteSecondPart_accepted {s : State} {c : Fin 4} {t : Staging} {p : List Byte}
    (named : (if byteAt p 0 = 2 then indexOf 4 (byteAt p 1) else none) = some c) (staged : s.stagedFor c = some t)
    (h : s.judgeSecondPart c t p = none) :
    s.takeWriteSecondPart p =
      ({ s with staging := none }.writeCurve c (t.points ++ toPoints (secondPoints t p))).writeReply p .accepted 0
        ((s.curve c).generation + 1) := by
  simp only [State.takeWriteSecondPart, named, staged, h]

theorem isConditional_cons (id ix flag : Byte) (p : List Byte) :
    isConditional (id :: ix :: flag :: p) = decide (flag ≠ 0) := by
  have read : byteAt (id :: ix :: flag :: p) 2 = flag.toNat := rfl
  rw [isConditional, read, decide_eq_decide, not_iff_not, ← BitVec.toNat_inj]
  rfl

/-- The command of a curve's first part hands its payload to the Management Unit. -/
theorem exec_firstPart {s t : State} {p : List Byte} {rest : List RxFrame} {c : Fin 4}
    (h : s.HasRequest 0x21#8 (1 :: byte c.val :: p) rest) (length : p.length = 36)
    (e : { s with spRx := rest }.takeWriteFirstPart (1 :: byte c.val :: p) = t) :
    exec .tableWriteCurveFirstPart s = .next t := by
  subst e
  exact congrArg Host.Outcome.next (h.takeWrite ((writeRow_table 1 (byte c.val) p).2.1 rfl length) State.takeWriteFirstPart)

theorem exec_secondPart {s t : State} {p : List Byte} {rest : List RxFrame} {c : Fin 4}
    (h : s.HasRequest 0x21#8 (2 :: byte c.val :: p) rest) (length : p.length = 35)
    (e : { s with spRx := rest }.takeWriteSecondPart (2 :: byte c.val :: p) = t) :
    exec .tableWriteCurveSecondPart s = .next t := by
  subst e
  exact congrArg Host.Outcome.next
    (h.takeWrite ((writeRow_table 2 (byte c.val) p).2.2.1 rfl length) State.takeWriteSecondPart)

/-- Settles O54: both commands are `State.writeCurve` and a reply, or the staging record filled; `State.writeCurve` puts the
curve in place and leaves staging record and replies (`State.writeCurve_still`). -/
theorem acceptedCurveWritesTakeEffect : Obligations.AcceptedCurveWritesTakeEffect := by
  intro s c flag e1 e0 r rest
  simp only
  refine ⟨fun length h accepted => ?_, fun staged e same length h accepted => ?_⟩
  · have taken := State.takeWriteFirstPart_accepted (s := { s with spRx := rest })
      (p := 1 :: byte c.val :: flag :: e1 :: e0 :: r) (namesRecord c _ rfl (by decide)) accepted
    have answered := exec_firstPart h (by simp [length]) taken
    rw [answered]
    have count : curveCount (1 :: byte c.val :: flag :: e1 :: e0 :: r) = byteAt r 0 := rfl
    refine ⟨fun whole => ?_, fun long => ?_⟩
    · rw [count, if_pos whole]
      refine ⟨_, rfl, ?_, fun d other => ?_, ?_, ?_⟩
      · refine (State.writeCurve_curve _ c c _).trans ?_
        rw [if_pos rfl, firstPoints, count, min_eq_left whole]
        rfl
      · exact (State.writeCurve_curve _ c d _).trans (if_neg other)
      · exact State.writeCurve_staging _ c _
      · rw [State.writeReply_cons, State.reply_replies, State.writeCurve_replies]
        rfl
    · have points : firstPoints (1 :: byte c.val :: flag :: e1 :: e0 :: r) = rawPoints r 1 8 := by
        rw [firstPoints, count, min_eq_right long.le]
        rfl
      rw [count, if_neg (not_le.mpr long), State.writeReply_cons, points, isConditional_cons, append_eq_ofNat]
      rfl
  · have taken := State.takeWriteSecondPart_accepted (s := { s with spRx := rest })
      (p := 2 :: byte c.val :: flag :: e1 :: e0 :: r) (namesRecord c _ rfl (by decide))
      (State.stagedFor_of_staging e same) accepted
    refine ⟨_, exec_secondPart h (by simp [length]) taken, ?_, fun d other => ?_, ?_, ?_⟩
    · exact (State.writeCurve_curve _ c c _).trans (if_pos rfl)
    · exact (State.writeCurve_curve _ c d _).trans (if_neg other)
    · exact State.writeCurve_staging _ c _
    · rw [State.writeReply_cons, State.reply_replies, State.writeCurve_replies]
      rfl

end Sys2Proof.Machine

/-! ## A leg that ends with a level no evaluation weighs (R87, R89)

An evaluation goes through the levels 0 to 7, which are all that a MOVE, a GROUP or a gate record can bring (R9, R57, R94). The
statement takes any level and any priority mask: in a state that no run reaches, level 8 under mask 8 is unmasked and still
never weighed. -/

namespace Sys2Proof.Machine

/-- A hoist at rest at 500. -/
def restSample : Sample := { raw := 500, corrected := 500, state := .atRest, faultCode := none, stamp := 0, age := 0 }

/-- Both samples of the gate at 500, under its ceiling of 8000, at the end of a leg to 500 on the way to 1000. -/
def restingAtLevel8 : Gate where
  record := { GateRecord.cold with inService := true, leftHoist := some 9, rightHoist := some 10 }
  generation := 0
  motion := .travelling
    { target := 1000, level := 8, origin := .station, clampReported := false, waitReason := .none }
    { target := 500, direction := .raise, speed := 300, deadline := 60000, acks := { left := false, right := true }
      paused := none, stamp := 1 }
  left := some { restSample with state := .moving }
  right := some restSample
  ceiling := some 8000
  excursionReported := false

/-- The report of the left hoist of gate 0, address 9: at rest at 500. -/
def restReport : RxFrame := { frame := { dst := 0, src := 9, kind := 0x50#8, payload := [0x01, 0xF4, 0] }, stamp := 0 }

/-- Gate 0 holds the one slot, the report waits, and the priority mask is 8. -/
def restedAtLevel8 : State :=
  { (State.reset.setRoute 9 { role := .hoist, binding := some (.hoist 0 .left), passDown := .drop, passUp := .consume
                              generation := 0 }).setGate 0 restingAtLevel8 with
    settings := { Settings.cold with priorityMask := 8 }
    fpRx := [restReport]
    slotsInUse := 1 }

/-- The gate is PENDING in the state that an outcome leads to. -/
def pendsAfter (o : Host.Outcome State Fault Refusal) (g : GateId) : Bool :=
  match o with
  | .next t => (t.gate g).motion.isPending
  | _ => false

/-- The one leg that the request needs from 500 to 1000. -/
def furtherLeg : Plan := { target := 1000, direction := .raise, speed := 100, deadline := 310000 }

set_option maxRecDepth 100000 in
theorem restedAtLevel8_pends : pendsAfter (exec .position restedAtLevel8) 0 = true := by decide

set_option maxRecDepth 100000 in
theorem restedAtLevel8_hasReport : restedAtLevel8.HasHoistReport restReport [] 0x50#8 0 .left := by
  unfold State.HasHoistReport
  decide

set_option maxRecDepth 100000 in
theorem restedAtLevel8_allMasked : restedAtLevel8.AllMasked := by
  have none_pends : ∀ h, (restedAtLevel8.gate h).motion.isPending = false := by decide
  intro h q pending
  have := none_pends h
  rw [pending] at this
  cases this

theorem restedAtLevel8_unmasked : ¬ restedAtLevel8.Masked 8 := by
  rintro ⟨-, above⟩
  exact absurd above (by decide)

set_option maxRecDepth 100000 in
theorem restedAtLevel8_needsLeg :
    ((restedAtLevel8.setGate 0 ((restedAtLevel8.gate 0).withSample .left (some restSample))).decideFor 0 1000).decision =
      .legNeeded furtherLeg := by decide

set_option maxRecDepth 100000 in
/-- Refutes O32: in `restedAtLevel8` the request needs a leg (`restedAtLevel8_needsLeg`), and waits after the report
(`restedAtLevel8_pends`) where the statement has it granted. -/
theorem not_restReportsEndTheLeg : ¬ Obligations.RestReportsEndTheLeg := by
  intro claim
  have moving : (restedAtLevel8.gate 0).motion = restingAtLevel8.motion := by decide
  obtain ⟨-, -, further⟩ := claim restedAtLevel8 restReport [] 0 .left 0x01 0xF4 restSample _ _ 500 0
    restedAtLevel8_hasReport (.inl rfl) moving rfl (by decide) (by decide) (by decide) (by decide) (by decide)
  obtain ⟨-, -, granted⟩ := further (by decide) (by decide) restedAtLevel8_allMasked rfl (by decide) (by decide)
  obtain ⟨t, after, -, -, starting⟩ := granted furtherLeg restedAtLevel8_unmasked restedAtLevel8_needsLeg (by decide)
    (by decide) (by decide)
  have pends := restedAtLevel8_pends
  rw [after] at pends
  simp [pendsAfter, starting, Motion.isPending] at pends

end Sys2Proof.Machine

/-! ## An evaluation where one gate waits (R88 to R91) -/

namespace Sys2Proof.Machine

/-! ### A notice posted where there is one -/

section
variable (s : State) (n : Option Notice)

theorem State.reach_postSome : s.Reach (s.postSome n) := by
  cases n with
  | none => exact .refl
  | some n => exact .post n .refl

@[simp] theorem State.postSome_gate (h : GateId) : (s.postSome n).gate h = s.gate h := by cases n <;> simp [State.postSome]
@[simp] theorem State.postSome_record (h : GateId) : (s.postSome n).record h = s.record h := by
  cases n <;> simp [State.postSome]
@[simp] theorem State.postSome_waiting : (s.postSome n).waiting = s.waiting := by cases n <;> simp [State.postSome]
@[simp] theorem State.postSome_slotsInUse : (s.postSome n).slotsInUse = s.slotsInUse := by cases n <;> simp [State.postSome]
@[simp] theorem State.postSome_evalDue : (s.postSome n).evalDue = s.evalDue := by cases n <;> simp [State.postSome]
@[simp] theorem State.postSome_settings : (s.postSome n).settings = s.settings := by cases n <;> simp [State.postSome]
@[simp] theorem State.postSome_stopAsserted : (s.postSome n).stopAsserted = s.stopAsserted := by
  cases n <;> simp [State.postSome]
@[simp] theorem State.postSome_grantCounter : (s.postSome n).grantCounter = s.grantCounter := by
  cases n <;> simp [State.postSome]
@[simp] theorem State.postSome_orderQueue : (s.postSome n).orderQueue = s.orderQueue := by cases n <;> simp [State.postSome]
@[simp] theorem State.postSome_haltQueue : (s.postSome n).haltQueue = s.haltQueue := by cases n <;> simp [State.postSome]
@[simp] theorem State.postSome_tideClock : (s.postSome n).tideClock = s.tideClock := by cases n <;> simp [State.postSome]

theorem State.post_notices_length (m : Notice) : (s.post m).notices.length ≤ s.notices.length + 1 := by
  by_cases room : s.notices.length < 16
  · simp [s.post_of_room m room]
  · simp [s.post_of_full m room]

theorem State.postSome_notices_length : (s.postSome n).notices.length ≤ s.notices.length + 1 := by
  cases n with
  | none => exact Nat.le_succ _
  | some m => exact s.post_notices_length m

end

/-! ### A decision depends on records, samples, ceilings, mode and head (R43 to R53) -/

theorem State.decideFor_congr {s t : State} (record : ∀ h, t.record h = s.record h)
    (opening : ∀ h, (t.gate h).opening = (s.gate h).opening) (mode : t.mode = s.mode) (head : t.head = s.head) {g : GateId}
    (ceiling : (t.gate g).ceiling = (s.gate g).ceiling) (target : Nat) : t.decideFor g target = s.decideFor g target := by
  have neighbour (a : Option GateId) : t.neighbourOpening a = s.neighbourOpening a := by
    cases a with
    | none => rfl
    | some h => simp [State.neighbourOpening, record, opening]
  have linked : t.linkedOpenings g = s.linkedOpenings g := by simp [State.linkedOpenings, record, neighbour]
  have speed (r : GateRecord) : t.legSpeed r = s.legSpeed r := by simp [State.legSpeed, mode, head]
  simp only [State.decideFor, State.decideAt, opening, record, ceiling, linked, speed]

theorem State.Reach.decideFor {s t : State} (h : s.Reach t) (g : GateId) (target : Nat) :
    t.decideFor g target = s.decideFor g target :=
  State.decideFor_congr h.record (fun k => by rw [h.gate k]; rfl) h.mode h.head (by rw [h.gate g]) target

/-! ### The parts of an evaluation -/

/-- The state with no evaluation owed. -/
def State.paid (s : State) : State := { s with evalDue := false }

section
variable (s : State)

@[simp] theorem State.paid_gate (h : GateId) : s.paid.gate h = s.gate h := rfl
@[simp] theorem State.paid_record (h : GateId) : s.paid.record h = s.record h := rfl
@[simp] theorem State.paid_waiting : s.paid.waiting = s.waiting := rfl
@[simp] theorem State.paid_slotsInUse : s.paid.slotsInUse = s.slotsInUse := rfl
@[simp] theorem State.paid_settings : s.paid.settings = s.settings := rfl
@[simp] theorem State.paid_stopAsserted : s.paid.stopAsserted = s.stopAsserted := rfl
@[simp] theorem State.paid_grantCounter : s.paid.grantCounter = s.grantCounter := rfl
@[simp] theorem State.paid_orderQueue : s.paid.orderQueue = s.orderQueue := rfl
@[simp] theorem State.paid_notices : s.paid.notices = s.notices := rfl
@[simp] theorem State.paid_tideClock : s.paid.tideClock = s.tideClock := rfl
@[simp] theorem State.paid_evalDue : s.paid.evalDue = false := rfl

theorem State.reach_paid : s.Reach s.paid := .counts s.slotsInUse s.grantCounter s.waiting false .refl

end

/-- Marking, walk and preemption test of an evaluation while STOP_N is released (R89, R91). -/
theorem State.evaluate_eq {s : State} (free : s.stopAsserted = false) : s.evaluate =
    if (s.paid.markMasked.walk s.paid.markMasked.walkOrder).1.slotFree then
      (s.paid.markMasked.walk s.paid.markMasked.walkOrder).1
    else (s.paid.markMasked.walk s.paid.markMasked.walkOrder).1.preemptionTest
      (s.paid.markMasked.walk s.paid.markMasked.walkOrder).2 := by
  have still : s.paid.markMasked.stopAsserted = false := (s.reach_paid.trans s.paid.reach_markMasked).free free
  unfold State.evaluate
  simp only [show { s with evalDue := false } = s.paid from rfl, still, Bool.false_eq_true, if_false]

/-- Where no level-0 request is left unweighed, the preemption test does nothing (R91). -/
theorem State.preemptionTest_of_none {s : State} {gs : List GateId} (none : ∀ h ∈ gs, s.pendingLevel h ≠ some 0) :
    s.preemptionTest gs = s := by
  have unweighed : gs.filter (fun h => decide (s.pendingLevel h = some 0)) = [] := by
    simpa [List.filter_eq_nil_iff] using none
  simp [State.preemptionTest, unweighed, State.movable, State.preemptFor]

/-- Where no slot is free the walk weighs nothing (R89). -/
theorem State.walk_of_full {s : State} (full : s.slotFree = false) (gs : List GateId) : s.walk gs = (s, gs) := by
  cases gs with
  | nil => rfl
  | cons g gs => simp [State.walk, full]

theorem State.evaluateDue_of_not_due (n : Nat) {s : State} (paid : s.evalDue = false) : State.evaluateDue n s = s := by
  cases n with
  | zero => exact congrArg (fun b => { s with evalDue := b }) paid.symm
  | succ n => simp [State.evaluateDue, paid]

/-- One evaluation is enough where it owes no other (R88). -/
theorem State.settle_of_evaluate {s : State} (due : s.evalDue = true) (paid : s.evaluate.evalDue = false) :
    s.settle = s.evaluate := by
  have once : s.settle = State.evaluateDue 24 s.evaluate := by simp [State.settle, State.evaluateDue, due]
  rw [once, State.evaluateDue_of_not_due 24 paid]

theorem State.masks_iff (s : State) (level : Nat) : s.settings.masks level = true ↔ s.Masked level := by
  simp [Settings.masks, State.Masked]

theorem State.mark_of_masked {s : State} {r : Request} (h : s.Masked r.level) :
    s.settings.mark r = { r with waitReason := .masked } := by
  simp [Settings.mark, (s.masks_iff r.level).mpr h]

theorem State.mark_of_unmasked {s : State} {r : Request} (h : ¬ s.Masked r.level) :
    s.settings.mark r = { r with waitReason := if r.waitReason = .masked then .none else r.waitReason } := by
  rw [← s.masks_iff] at h
  simp only [Settings.mark, if_neg h]
  split <;> rfl

theorem State.markOne_pending {s : State} {g : GateId} {r : Request} (pending : (s.gate g).motion = .pending r) :
    s.markOne g = s.setMotion g (.pending (s.settings.mark r)) := by
  simp [State.markOne, pending]

theorem State.pendingLevel_eq {s : State} {g : GateId} {r : Request} (pending : (s.gate g).motion = .pending r) :
    s.pendingLevel g = some r.level := by
  simp [State.pendingLevel, pending]

@[simp] theorem Settings.mark_level (k : Settings) (r : Request) : (k.mark r).level = r.level :=
  congrArg Target.level (k.mark_toTarget r)

@[simp] theorem Settings.mark_target (k : Settings) (r : Request) : (k.mark r).target = r.target :=
  congrArg Target.target (k.mark_toTarget r)

/-! ### One gate waits -/

/-- The gate's request marked, as an evaluation opens (R89). -/
def State.markedAt (s : State) (g : GateId) (r : Request) : State := s.paid.setMotion g (.pending (s.settings.mark r))

section
variable {s : State} {g : GateId} {r : Request}

theorem State.markMasked_one (one : s.waiting = [g]) (pending : (s.gate g).motion = .pending r) :
    s.paid.markMasked = s.markedAt g r := by
  have opened : s.paid.markMasked = s.paid.markOne g := by simp [State.markMasked, State.sweep, one]
  rw [opened, State.markOne_pending (s := s.paid) pending]
  rfl

theorem State.markedAt_motion : ((s.markedAt g r).gate g).motion = .pending (s.settings.mark r) := by simp [State.markedAt]

theorem State.reach_markedAt (pending : (s.gate g).motion = .pending r) : s.Reach (s.markedAt g r) :=
  s.reach_paid.trans (s.paid.reach_setMotion g _ (fun _ => trivial) fun _ none => by simp [pending, Motion.request] at none)

theorem State.walkOrder_of_masked (one : s.waiting = [g]) (pending : (s.gate g).motion = .pending r)
    (masked : s.Masked r.level) : s.walkOrder = [] := by
  have hidden : s.settings.masks r.level = true := (s.masks_iff _).mpr masked
  simp only [State.walkOrder, one, List.flatMap_eq_nil_iff, List.filter_eq_nil_iff, List.mem_singleton]
  rintro level - h rfl
  rw [State.pendingLevel_eq pending]
  simp only [Option.some.injEq, decide_eq_true_eq, not_and, Bool.not_eq_true', Bool.not_eq_false]
  rintro rfl
  exact hidden

theorem State.walkOrder_of_unmasked (one : s.waiting = [g]) (pending : (s.gate g).motion = .pending r)
    (unmasked : ¬ s.Masked r.level) (level : r.level ≤ 7) : s.walkOrder = [g] := by
  have seen : s.settings.masks r.level = false := Bool.eq_false_iff.mpr fun h => unmasked ((s.masks_iff _).mp h)
  have at_level (l : Nat) : s.waiting.filter (fun h => decide (s.pendingLevel h = some l ∧ !s.settings.masks l)) =
      if l = r.level then [g] else [] := by
    rw [one, List.filter_singleton, State.pendingLevel_eq pending]
    by_cases e : l = r.level
    · simp [e, seen]
    · simp [e, Ne.symm e]
  unfold State.walkOrder
  simp only [at_level]
  generalize r.level = here at level
  interval_cases here <;> rfl

/-- A request that is masked, or waits above level 0 while no slot is free, is marked and no more (R89, R91). -/
theorem State.settle_one_unweighed (due : s.evalDue = true) (free : s.stopAsserted = false) (one : s.waiting = [g])
    (pending : (s.gate g).motion = .pending r) (left : s.Masked r.level ∨ s.slotFree = false ∧ r.level ≠ 0) :
    s.settle = s.markedAt g r := by
  have done : s.evaluate = s.markedAt g r := by
    have walked : ∃ gs, (s.markedAt g r).walk (s.markedAt g r).walkOrder = (s.markedAt g r, gs) ∧
        ∀ h ∈ gs, (s.markedAt g r).pendingLevel h ≠ some 0 := by
      obtain masked | ⟨full, above⟩ := left
      · have order := State.walkOrder_of_masked (s := s.markedAt g r) one State.markedAt_motion
          (by rw [Settings.mark_level]; exact masked)
        exact ⟨[], by rw [order]; rfl, by simp⟩
      · refine ⟨_, State.walk_of_full (s := s.markedAt g r) full _, fun h weighed => ?_⟩
        have here : h = g := by
          simp only [State.walkOrder, List.mem_flatMap, List.mem_filter] at weighed
          obtain ⟨_, -, waits, -⟩ := weighed
          simpa [State.markedAt, one] using waits
        rw [here, State.pendingLevel_eq State.markedAt_motion]
        simpa using above
    obtain ⟨gs, walked, above⟩ := walked
    rw [State.evaluate_eq free, State.markMasked_one one pending, walked]
    simp only [State.preemptionTest_of_none above, ite_self]
  rw [State.settle_of_evaluate due (by rw [done]; rfl), done]

/-- A request that is not masked is weighed while a slot is free (R89). -/
theorem State.evaluate_one_weighed (free : s.stopAsserted = false) (one : s.waiting = [g])
    (pending : (s.gate g).motion = .pending r) (unmasked : ¬ s.Masked r.level) (level : r.level ≤ 7)
    (slot : s.slotFree = true) : s.evaluate = (s.markedAt g r).weighInWalk g := by
  have order := State.walkOrder_of_unmasked (s := s.markedAt g r) one State.markedAt_motion
    (by rw [Settings.mark_level]; exact unmasked) (by simpa using level)
  have walked : (s.markedAt g r).walk (s.markedAt g r).walkOrder = ((s.markedAt g r).weighInWalk g, []) := by
    have open_ : (s.markedAt g r).slotFree = true := slot
    simp [order, State.walk, open_]
  rw [State.evaluate_eq free, State.markMasked_one one pending, walked]
  simp only [State.preemptionTest_of_none (gs := []) (by simp), ite_self]

end

end Sys2Proof.Machine

/-! ## What an evaluation makes of the one request that waits (R50, R63, R89, R90) -/

namespace Sys2Proof.Machine

/-! ### A grant and a completion -/

/-- The Arbiter's counts once a gate is granted (R90). -/
def State.counted (s : State) (g : GateId) : State :=
  { s with
    waiting := s.waiting.filter fun h => h ≠ g
    slotsInUse := s.slotsInUse + 1
    grantCounter := s.grantCounter + 1 }

@[simp] theorem State.counted_gate (s : State) (g h : GateId) : (s.counted g).gate h = s.gate h := rfl
@[simp] theorem State.counted_record (s : State) (g h : GateId) : (s.counted g).record h = s.record h := rfl

theorem Plan.leg_eq_begun (p : Plan) (stamp : Nat) : p.leg stamp = p.begun stamp := rfl

@[simp] theorem State.runGate_record (s : State) (g h : GateId) (x v : Nat) : (s.runGate g x v).record h = s.record h := by
  simp [State.record]

theorem State.startLeg_gate (s : State) (g h : GateId) (r : Request) (p : Plan) (stamp : Nat) :
    (s.startLeg g r p stamp).gate h = if h = g then
      { s.gate g with motion := .starting r (p.begun stamp) (s.record g).ackWindow } else s.gate h := by
  simp [State.startLeg, State.setMotion_gate, Plan.leg_eq_begun]

theorem State.runGate_frame (s : State) (g : GateId) (x v : Nat) :
    s.runGate g x v = { s with orderQueue := (s.runGate g x v).orderQueue } := by
  have one (side : Side) (t : State) (send : State → LinkAddr → State)
      (sent : ∀ u a, send u a = { u with orderQueue := (send u a).orderQueue }) :
      t.forHoist g side send = { t with orderQueue := (t.forHoist g side send).orderQueue } := by
    unfold State.forHoist
    split
    · exact sent _ _
    · rfl
  unfold State.runGate
  simp only
  rw [one .right _ _ fun _ _ => rfl]
  rw [one .left s _ fun _ _ => rfl]

theorem State.startLeg_frame (s : State) (g : GateId) (r : Request) (p : Plan) (stamp : Nat) :
    (s.startLeg g r p stamp).waiting = s.waiting ∧ (s.startLeg g r p stamp).slotsInUse = s.slotsInUse ∧
      (s.startLeg g r p stamp).grantCounter = s.grantCounter ∧ (s.startLeg g r p stamp).evalDue = s.evalDue ∧
      (s.startLeg g r p stamp).orderQueue = (s.runGate g p.target p.speed).orderQueue := by
  unfold State.startLeg
  rw [State.runGate_frame]
  simp

/-- Both samples are fresh under the window of a slot holder (R115). -/
def Gate.freshToMove (x : Gate) : Prop := ∀ side, staleUnder x.record.sampleWindow (x.sample side) = false

theorem Gate.freshToMove_iff (x : Gate) : x.freshToMove ↔
    staleUnder x.record.sampleWindow x.left = false ∧ staleUnder x.record.sampleWindow x.right = false :=
  ⟨fun h => ⟨h .left, h .right⟩, fun ⟨left, right⟩ side => by cases side <;> assumption⟩

/-- A grant of fresh hoists starts the leg, with the next stamp (R63, R90). -/
theorem State.grant_of_fresh {s : State} {g : GateId} (r : Request) (p : Plan) (counter : s.grantCounter < 4294967295)
    (fresh : (s.gate g).freshToMove) : s.grant g r p = (s.counted g).startLeg g r p (s.grantCounter + 1) := by
  have ready : s.readyCounter = s := if_pos counter
  have running (side : Side) : (((s.counted g).startLeg g r p (s.grantCounter + 1)).gate g).stale side = false := by
    rw [State.startLeg_gate, if_pos rfl, Gate.stale]
    simp only [Gate.window, Motion.holdsSlot, if_true, Bool.and_eq_false_iff]
    exact .inr (fresh side)
  have started : s.grant g r p = ((s.counted g).startLeg g r p (s.grantCounter + 1)).faultIfStale g := by
    unfold State.grant
    simp only [ready]
    rfl
  rw [started]
  simp [State.faultIfStale, running]

/-- A satisfied request that leaves no excursion ends with the gate IDLE and ARRIVED posted (R72, R89). -/
theorem State.completePending_of_quiet {s : State} {g : GateId} (quiet : (s.gate g).excursion = none) :
    s.completePending g = ((s.leaveList g .idle).postArrived g).setExcursion g false := by
  have idle : (((s.leaveList g .idle).postArrived g).gate g).motion = .idle := by simp
  have none : (((s.leaveList g .idle).postArrived g).gate g).excursion = none := by
    rw [State.postArrived_gate, State.leaveList_gate, State.setMotion_gate_self]
    exact quiet
  unfold State.completePending State.excursionCheck
  rw [idle]
  simp only [none]

/-! ### A pending request weighed -/

/-- The request as its weighing leaves it (R50, R51). -/
def State.weighed (s : State) (g : GateId) (r : Request) : Request :=
  (s.decideFor g r.target).marks r (waitAfter (s.decideFor g r.target).decision r.waitReason)

/-- The CLAMPED notice of a weighing posted where there is one (R51). -/
def State.weighPosted (s : State) (g : GateId) (r : Request) : State :=
  s.postSome ((s.decideFor g r.target).clampNotice g r)

theorem State.weighInWalk_eq {s : State} {g : GateId} {r : Request} (pending : (s.gate g).motion = .pending r) :
    s.weighInWalk g = match (s.decideFor g r.target).decision with
      | .legNeeded p => (s.weighPosted g r).grant g (s.weighed g r) p
      | .satisfied => (s.weighPosted g r).completePending g
      | .blocked _ => (s.weighPosted g r).setMotion g (.pending (s.weighed g r)) := by
  unfold State.weighInWalk State.weighed State.weighPosted
  simp only [pending]
  rw [s.weigh_eq g r]
  cases (s.decideFor g r.target).decision <;> rfl

/-! ### From a gate that waits alone -/

/-- In `v` gate `g` waits alone with request `q` and an evaluation is owed; all else that an evaluation looks at is as in
`s`. -/
structure State.Waits (s v : State) (g : GateId) (q : Request) : Prop where
  waiting : v.waiting = [g]
  gate : v.gate g = { s.gate g with motion := .pending q }
  others : ∀ h, h ≠ g → v.gate h = s.gate h
  due : v.evalDue = true
  free : v.stopAsserted = false
  slots : v.slotsInUse = s.slotsInUse
  settings : v.settings = s.settings
  counter : v.grantCounter = s.grantCounter
  decides : ∀ target, v.decideFor g target = s.decideFor g target

/-- From `s` to `t` gate `g` takes a motion, with a pending list and a count of slots, and no other gate changes. -/
structure State.GoesTo (s t : State) (g : GateId) (m : Motion) (list : List GateId) (slots : Nat) : Prop where
  motion : (t.gate g).motion = m
  waiting : t.waiting = list
  slots : t.slotsInUse = slots
  others : ∀ h, h ≠ g → t.gate h = s.gate h

section
variable {s v : State} {g : GateId} {q : Request}

theorem State.Waits.pending (h : s.Waits v g q) : (v.gate g).motion = .pending q := by rw [h.gate]

theorem State.Waits.unweighed (h : s.Waits v g q)
    (left : s.Masked q.level ∨ s.settings.slots ≤ s.slotsInUse ∧ q.level ≠ 0) :
    s.GoesTo v.settle g (.pending (s.settings.mark q)) [g] s.slotsInUse := by
  have masked : v.Masked q.level ↔ s.Masked q.level := by simp [State.Masked, h.settings]
  have full : v.slotFree = false ↔ s.settings.slots ≤ s.slotsInUse := by simp [State.slotFree, h.settings, h.slots]
  rw [State.settle_one_unweighed h.due h.free h.waiting h.pending (by rwa [masked, full])]
  exact ⟨by rw [State.markedAt_motion, h.settings], h.waiting, h.slots, fun k other =>
    (v.paid.setMotion_gate_ne _ other).trans (h.others k other)⟩

/-- The evaluation of a request that may be weighed. -/
theorem State.Waits.weighs (h : s.Waits v g q) (unmasked : ¬ s.Masked q.level) (level : q.level ≤ 7)
    (slot : s.slotsInUse < s.settings.slots) : v.evaluate = (v.markedAt g q).weighInWalk g :=
  State.evaluate_one_weighed h.free h.waiting h.pending (by rwa [State.Masked, h.settings]) level
    (by simpa [State.slotFree, h.settings, h.slots] using slot)

theorem State.Waits.decides_marked (h : s.Waits v g q) : (v.markedAt g q).decideFor g (s.settings.mark q).target =
    s.decideFor g q.target := by
  rw [(State.reach_markedAt h.pending).decideFor, Settings.mark_target, h.decides]

theorem State.Waits.marked_pending (h : s.Waits v g q) :
    ((v.markedAt g q).gate g).motion = .pending (s.settings.mark q) := by rw [State.markedAt_motion, h.settings]

theorem State.Waits.weighed_marked (h : s.Waits v g q) : (v.markedAt g q).weighed g (s.settings.mark q) =
    (s.decideFor g q.target).marks (s.settings.mark q)
      (waitAfter (s.decideFor g q.target).decision (s.settings.mark q).waitReason) := by
  rw [State.weighed, h.decides_marked]

theorem State.Waits.posted_gate (h : s.Waits v g q) (k : GateId) :
    ((v.markedAt g q).weighPosted g (s.settings.mark q)).gate k =
      if k = g then { s.gate g with motion := .pending (s.settings.mark q) } else s.gate k := by
  rw [State.weighPosted, State.postSome_gate, State.markedAt, State.setMotion_gate, State.paid_gate, State.paid_gate,
    h.settings, h.gate]
  split
  · rfl
  · exact h.others k ‹_›

theorem State.Waits.blocked (h : s.Waits v g q) (unmasked : ¬ s.Masked q.level) (level : q.level ≤ 7)
    (slot : s.slotsInUse < s.settings.slots) {term : Option WaitReason}
    (blocked : (s.decideFor g q.target).decision = .blocked term) :
    s.GoesTo v.settle g (.pending ((s.decideFor g q.target).marks (s.settings.mark q)
      (term.getD (s.settings.mark q).waitReason))) [g] s.slotsInUse := by
  have done : v.evaluate = ((v.markedAt g q).weighPosted g (s.settings.mark q)).setMotion g
      (.pending ((v.markedAt g q).weighed g (s.settings.mark q))) := by
    rw [h.weighs unmasked level slot, State.weighInWalk_eq h.marked_pending, h.decides_marked, blocked]
  have reason : waitAfter (.blocked term) (s.settings.mark q).waitReason = term.getD (s.settings.mark q).waitReason := by
    cases term <;> rfl
  rw [State.settle_of_evaluate h.due (by rw [done]; simp [State.weighPosted, State.markedAt]), done]
  refine ⟨?_, ?_, ?_, fun k other => ?_⟩
  · rw [State.setMotion_gate_self, h.weighed_marked, blocked, reason]
  · simp [State.weighPosted, State.markedAt, h.waiting]
  · simp [State.weighPosted, State.markedAt, h.slots]
  · rw [State.setMotion_gate_ne _ _ other, h.posted_gate, if_neg other]

theorem State.Waits.settle_granted (h : s.Waits v g q) (unmasked : ¬ s.Masked q.level) (level : q.level ≤ 7)
    (slot : s.slotsInUse < s.settings.slots) {p : Plan} (needed : (s.decideFor g q.target).decision = .legNeeded p)
    (counter : s.grantCounter < 4294967295) (fresh : (s.gate g).freshToMove) :
    v.settle = (((v.markedAt g q).weighPosted g (s.settings.mark q)).counted g).startLeg g
      ((s.decideFor g q.target).marks (s.settings.mark q) .none) p (s.grantCounter + 1) := by
  have gate : (((v.markedAt g q).weighPosted g (s.settings.mark q)).gate g).freshToMove := by
    rw [h.posted_gate, if_pos rfl]
    exact fun side => fresh side
  have stamp : ((v.markedAt g q).weighPosted g (s.settings.mark q)).grantCounter = s.grantCounter := by
    simp [State.weighPosted, State.markedAt, h.counter]
  have done : v.evaluate = (((v.markedAt g q).weighPosted g (s.settings.mark q)).counted g).startLeg g
      ((s.decideFor g q.target).marks (s.settings.mark q) .none) p (s.grantCounter + 1) := by
    rw [h.weighs unmasked level slot, State.weighInWalk_eq h.marked_pending, h.decides_marked, needed]
    simp only
    rw [State.grant_of_fresh _ p (stamp ▸ counter) gate, h.weighed_marked, needed, stamp]
    rfl
  rw [State.settle_of_evaluate h.due (by rw [done, (State.startLeg_frame _ _ _ _ _).2.2.2.1]; simp [State.counted, State.weighPosted, State.markedAt]), done]

theorem State.Waits.granted (h : s.Waits v g q) (unmasked : ¬ s.Masked q.level) (level : q.level ≤ 7)
    (slot : s.slotsInUse < s.settings.slots) {p : Plan} (needed : (s.decideFor g q.target).decision = .legNeeded p)
    (counter : s.grantCounter < 4294967295) (fresh : (s.gate g).freshToMove) :
    s.GoesTo v.settle g (.starting ((s.decideFor g q.target).marks (s.settings.mark q) .none)
      (p.begun (s.grantCounter + 1)) (s.record g).ackWindow) [] (s.slotsInUse + 1) := by
  rw [h.settle_granted unmasked level slot needed counter fresh]
  obtain ⟨waiting, slots, -⟩ := State.startLeg_frame (((v.markedAt g q).weighPosted g (s.settings.mark q)).counted g) g
    ((s.decideFor g q.target).marks (s.settings.mark q) .none) p (s.grantCounter + 1)
  refine ⟨?_, waiting.trans ?_, slots.trans ?_, fun k other => ?_⟩
  · rw [State.startLeg_gate, if_pos rfl, State.counted_record, State.record, h.posted_gate, if_pos rfl]
    rfl
  · simp [State.counted, State.weighPosted, State.markedAt, h.waiting]
  · simp [State.counted, State.weighPosted, State.markedAt, h.slots]
  · rw [State.startLeg_gate, if_neg other, State.counted_gate, h.posted_gate, if_neg other]

theorem State.Waits.settle_satisfied (h : s.Waits v g q) (unmasked : ¬ s.Masked q.level) (level : q.level ≤ 7)
    (slot : s.slotsInUse < s.settings.slots) (satisfied : (s.decideFor g q.target).decision = .satisfied)
    (quiet : (s.gate g).excursion = none) :
    v.settle = ((((v.markedAt g q).weighPosted g (s.settings.mark q)).leaveList g .idle).postArrived g).setExcursion g false := by
  have none : (((v.markedAt g q).weighPosted g (s.settings.mark q)).gate g).excursion = none := by
    rw [h.posted_gate, if_pos rfl]
    exact quiet
  have done : v.evaluate =
      ((((v.markedAt g q).weighPosted g (s.settings.mark q)).leaveList g .idle).postArrived g).setExcursion g false := by
    rw [h.weighs unmasked level slot, State.weighInWalk_eq h.marked_pending, h.decides_marked, satisfied]
    exact State.completePending_of_quiet none
  have paid : ((((v.markedAt g q).weighPosted g (s.settings.mark q)).leaveList g .idle).postArrived g).evalDue = false := by
    unfold State.postArrived
    split <;> simp [State.weighPosted, State.markedAt]
  rw [State.settle_of_evaluate h.due (by rw [done]; exact paid), done]

theorem State.Waits.satisfied (h : s.Waits v g q) (unmasked : ¬ s.Masked q.level) (level : q.level ≤ 7)
    (slot : s.slotsInUse < s.settings.slots) (satisfied : (s.decideFor g q.target).decision = .satisfied)
    (quiet : (s.gate g).excursion = none) : s.GoesTo v.settle g .idle [] s.slotsInUse := by
  rw [h.settle_satisfied unmasked level slot satisfied quiet]
  have arrived (t : State) : (t.postArrived g).waiting = t.waiting ∧ (t.postArrived g).slotsInUse = t.slotsInUse := by
    unfold State.postArrived
    split <;> simp
  refine ⟨by simp, ?_, ?_, fun k other => ?_⟩
  · simp [(arrived _).1, State.weighPosted, State.markedAt, h.waiting]
  · simp [(arrived _).2, State.weighPosted, State.markedAt, h.slots]
  · rw [State.setExcursion_gate, if_neg other, State.postArrived_gate, State.leaveList_gate,
      State.setMotion_gate_ne _ _ other, h.posted_gate, if_neg other]

/-- ARRIVED finds room behind a CLAMPED notice of the weighing (R89, R179). -/
theorem State.Waits.satisfied_notice (h : s.Waits v g q) (unmasked : ¬ s.Masked q.level) (level : q.level ≤ 7)
    (slot : s.slotsInUse < s.settings.slots) (satisfied : (s.decideFor g q.target).decision = .satisfied)
    (quiet : (s.gate g).excursion = none) {o : Nat} (opening : (s.gate g).opening = some o) (room : v.notices.length < 15) :
    { notice := .arrived g o, stamp := v.tideClock } ∈ v.settle.notices := by
  rw [h.settle_satisfied unmasked level slot satisfied quiet]
  have here : ((((v.markedAt g q).weighPosted g (s.settings.mark q)).leaveList g .idle).gate g).opening = some o := by
    rw [State.leaveList_gate, State.setMotion_gate_self, h.posted_gate, if_pos rfl]
    exact opening
  have length : ((v.markedAt g q).weighPosted g (s.settings.mark q)).notices.length ≤ v.notices.length + 1 :=
    State.postSome_notices_length (v.markedAt g q) _
  rw [State.setExcursion_notices, State.postArrived, here]
  simp only
  rw [State.post_of_room _ _ (by simp; omega)]
  simp [State.weighPosted, State.markedAt]

end

end Sys2Proof.Machine

/-! ## A MOVE at a gate (R57 to R60) -/

namespace Sys2Proof.Machine

/-! ### What a command leaves of the state it found -/

theorem State.Reach.replies {s t : State} (h : s.Reach t) : t.replies = s.replies := by rw [h.frame]

/-- The state with the oldest SP frame taken (R133). -/
def State.taken (s : State) (rest : List RxFrame) : State := { s with spRx := rest }

section
variable (s : State) (rest : List RxFrame)

@[simp] theorem State.taken_gate (h : GateId) : (s.taken rest).gate h = s.gate h := rfl
@[simp] theorem State.taken_record (h : GateId) : (s.taken rest).record h = s.record h := rfl
@[simp] theorem State.taken_stopAsserted : (s.taken rest).stopAsserted = s.stopAsserted := rfl
@[simp] theorem State.taken_evalDue : (s.taken rest).evalDue = s.evalDue := rfl
@[simp] theorem State.taken_waiting : (s.taken rest).waiting = s.waiting := rfl
@[simp] theorem State.taken_slotsInUse : (s.taken rest).slotsInUse = s.slotsInUse := rfl
@[simp] theorem State.taken_grantCounter : (s.taken rest).grantCounter = s.grantCounter := rfl
@[simp] theorem State.taken_settings : (s.taken rest).settings = s.settings := rfl
@[simp] theorem State.taken_notices : (s.taken rest).notices = s.notices := rfl
@[simp] theorem State.taken_replies : (s.taken rest).replies = s.replies := rfl
@[simp] theorem State.taken_tideClock : (s.taken rest).tideClock = s.tideClock := rfl
@[simp] theorem State.taken_orderQueue : (s.taken rest).orderQueue = s.orderQueue := rfl
@[simp] theorem State.taken_haltQueue : (s.taken rest).haltQueue = s.haltQueue := rfl

theorem State.taken_decideFor (g : GateId) (target : Nat) : (s.taken rest).decideFor g target = s.decideFor g target :=
  State.decideFor_congr (fun _ => rfl) (fun _ => rfl) rfl rfl rfl target

end

/-! ### The payload -/

theorem gateOf_byte (g : GateId) (p : List Byte) : gateOf (byteAt (byte g.val :: p) 0) = some g := by
  have small := g.isLt
  have here : byteAt (byte g.val :: p) 0 = g.val := by
    show (byte g.val).toNat = g.val
    simp only [byte, BitVec.toNat_ofNat]
    omega
  simp [gateOf, here, small]

theorem State.AsksMove.gateOf {s : State} {g : GateId} {p : List Byte} {asked level : Nat} (h : s.AsksMove g p asked level) :
    gateOf (byteAt p 0) = some g := by
  obtain ⟨hi, lo, -, ⟨rfl, -⟩ | ⟨lv, rfl, -⟩⟩ := h <;> exact gateOf_byte g _

theorem State.AsksMove.target {s : State} {g : GateId} {p : List Byte} {asked level : Nat} (h : s.AsksMove g p asked level) :
    u16At p 1 = asked := by
  obtain ⟨hi, lo, rfl, ⟨rfl, -⟩ | ⟨lv, rfl, -⟩⟩ := h <;> rfl

theorem State.AsksMove.level {s : State} {g : GateId} {p : List Byte} {asked level : Nat} (h : s.AsksMove g p asked level) :
    s.moveLevel g p = level := by
  obtain ⟨hi, lo, -, ⟨rfl, rfl⟩ | ⟨lv, rfl, rfl⟩⟩ := h <;> rfl

theorem State.AsksMove.level_le {s : State} {g : GateId} {p : List Byte} {asked level : Nat} (h : s.AsksMove g p asked level) :
    level ≤ 7 := by
  obtain ⟨-, -, -, ⟨-, rfl⟩ | ⟨lv, -, rfl⟩⟩ := h <;> exact Nat.min_le_right _ _

theorem State.AsksMove.row {s : State} {g : GateId} {p : List Byte} {asked level : Nat} (h : s.AsksMove g p asked level) :
    requestRow 0x10#8 p = some .move := by
  obtain ⟨hi, lo, -, ⟨rfl, -⟩ | ⟨lv, rfl, -⟩⟩ := h <;> rfl

/-! ### The command -/

/-- The CLAMPED notice of a target above full_travel posted where there is one (R57). -/
def State.travelPosted (s : State) (g : GateId) (target : Nat) : State :=
  s.postSome (if (s.record g).fullTravel < target then some (.clamped g target (s.record g).fullTravel .travel) else none)

theorem State.command_eq (s : State) (g : GateId) (target level : Nat) (origin : Origin) :
    s.command g target level origin =
      (s.travelPosted g target).applyTarget g (min target (s.record g).fullTravel) level origin := by
  unfold State.command State.travelPosted State.appliedTarget
  by_cases above : (s.record g).fullTravel < target <;> simp [above, State.postSome]

theorem State.travelPosted_of_within {s : State} {g : GateId} {target : Nat} (within : target ≤ (s.record g).fullTravel) :
    s.travelPosted g target = s := by
  simp [State.travelPosted, Nat.not_lt.mpr within, State.postSome]

section
variable (s : State) (g : GateId) (target : Nat)

theorem State.reach_travelPosted : s.Reach (s.travelPosted g target) := s.reach_postSome _

@[simp] theorem State.travelPosted_gate (h : GateId) : (s.travelPosted g target).gate h = s.gate h := s.postSome_gate _ h
@[simp] theorem State.travelPosted_record (h : GateId) : (s.travelPosted g target).record h = s.record h :=
  s.postSome_record _ h
@[simp] theorem State.travelPosted_waiting : (s.travelPosted g target).waiting = s.waiting := s.postSome_waiting _
@[simp] theorem State.travelPosted_slotsInUse : (s.travelPosted g target).slotsInUse = s.slotsInUse :=
  s.postSome_slotsInUse _
@[simp] theorem State.travelPosted_grantCounter : (s.travelPosted g target).grantCounter = s.grantCounter :=
  s.postSome_grantCounter _
@[simp] theorem State.travelPosted_settings : (s.travelPosted g target).settings = s.settings := s.postSome_settings _
@[simp] theorem State.travelPosted_stopAsserted : (s.travelPosted g target).stopAsserted = s.stopAsserted :=
  s.postSome_stopAsserted _
@[simp] theorem State.travelPosted_evalDue : (s.travelPosted g target).evalDue = s.evalDue := s.postSome_evalDue _
@[simp] theorem State.travelPosted_tideClock : (s.travelPosted g target).tideClock = s.tideClock := s.postSome_tideClock _
@[simp] theorem State.travelPosted_orderQueue : (s.travelPosted g target).orderQueue = s.orderQueue :=
  s.postSome_orderQueue _
@[simp] theorem State.travelPosted_haltQueue : (s.travelPosted g target).haltQueue = s.haltQueue := s.postSome_haltQueue _

theorem State.travelPosted_notices_length : (s.travelPosted g target).notices.length ≤ s.notices.length + 1 :=
  s.postSome_notices_length _

end

section
variable {s : State} {g : GateId}

theorem State.outrankedBy_of_none {level : Nat} (free : (s.gate g).motion.request = none) : s.outrankedBy g level = none := by
  simp [State.outrankedBy, free]

theorem State.outrankedBy_of_le {r : Request} {level : Nat} (request : (s.gate g).motion.request = some r)
    (le : level ≤ r.level) : s.outrankedBy g level = none := by
  simp [State.outrankedBy, request, Nat.not_lt.mpr le]

theorem State.applyTarget_near {target level o : Nat} {origin : Origin} (idle : (s.gate g).motion = .idle)
    (opening : (s.gate g).opening = some o) (near : distance target o ≤ (s.record g).arriveTol) :
    s.applyTarget g target level origin = s.post (.arrived g o) := by
  simp [State.applyTarget, idle, State.takeIntoIdle, opening, near]

theorem State.applyTarget_far {target level : Nat} {origin : Origin} (idle : (s.gate g).motion = .idle)
    (far : ∀ o, (s.gate g).opening = some o → (s.record g).arriveTol < distance target o) :
    s.applyTarget g target level origin = s.joinTail g (.fresh target level origin) := by
  simp only [State.applyTarget, idle, State.takeIntoIdle]
  split
  · rename_i o opening
    rw [if_neg (Nat.not_le.mpr (far o opening))]
  · rfl

theorem State.applyTarget_pending {r : Request} {target level : Nat} {origin : Origin}
    (pending : (s.gate g).motion = .pending r) :
    s.applyTarget g target level origin = (s.setMotion g (.pending (r.replaced target level origin))).owe := by
  simp [State.applyTarget, pending]

end

/-! ### The MOVE and its reply -/

section
variable {s : State} {g : GateId} {p : List Byte} {asked level : Nat} {rest : List RxFrame}

/-- A MOVE that is neither stopped nor outranked is the command, the evaluations it causes, and the reply (R57). -/
theorem State.AsksMove.handled (asks : s.AsksMove g p asked level) (found : s.HasRequest 0x10#8 p rest)
    (free : s.stopAsserted = false) (stands : s.outrankedBy g level = none) :
    exec .move s = .next (((s.taken rest).command g asked level .station).settle.reply 0x10#8 (s.moveResult g asked) 0
      (be16 (min asked (s.record g).fullTravel) ++ [byte level])) := by
  refine congrArg Host.Outcome.next ((found.takeStation asks.row fun t q => t.takeMove q).trans ?_)
  show (s.taken rest).takeMove p = _
  unfold State.takeMove
  rw [asks.gateOf]
  show (s.taken rest).moveGate g p = _
  have applied : (s.taken rest).moveLevel g p = level := asks.level
  have stands : (s.taken rest).outrankedBy g level = none := stands
  unfold State.moveGate
  simp only [applied, stands, asks.target, State.taken_stopAsserted, free, Bool.false_eq_true, if_false]
  rfl

/-- The reply of a MOVE that no gate stores (R57). -/
def State.moveAnswer (s : State) (g : GateId) (asked level : Nat) : Reply where
  kind := 0x10#8
  result := if (s.record g).fullTravel < asked then .clamped else .accepted
  detail := 0
  data := be16 (min asked (s.record g).fullTravel) ++ [byte level]

theorem State.AsksMove.answers (asks : s.AsksMove g p asked level) (found : s.HasRequest 0x10#8 p rest)
    (free : s.stopAsserted = false) (stands : s.outrankedBy g level = none) (taken : (s.gate g).motion.stores = false) :
    exec .move s = .next { ((s.taken rest).command g asked level .station).settle with
      replies := s.replies ++ [s.moveAnswer g asked level] } := by
  have kept : ((s.taken rest).command g asked level .station).settle.replies = s.replies :=
    (((s.taken rest).reach_command g asked level .station free).trans (State.reach_settle _)).replies
  rw [asks.handled found free stands]
  simp only [State.reply, kept, State.moveResult, taken, Bool.false_eq_true, if_false]
  rfl

/-- Where the command and its evaluations lead, the MOVE leads, with its reply. -/
theorem State.AsksMove.goes (asks : s.AsksMove g p asked level) (found : s.HasRequest 0x10#8 p rest)
    (free : s.stopAsserted = false) (stands : s.outrankedBy g level = none) (taken : (s.gate g).motion.stores = false)
    {m : Motion} {list : List GateId} {slots : Nat}
    (led : s.GoesTo ((s.taken rest).command g asked level .station).settle g m list slots) :
    ∃ t, exec .move s = .next t ∧ (t.gate g).motion = m ∧ t.waiting = list ∧ t.slotsInUse = slots ∧
      (∀ h, h ≠ g → t.gate h = s.gate h) ∧ t.replies = s.replies ++ [s.moveAnswer g asked level] :=
  ⟨_, asks.answers found free stands taken, led.motion, led.waiting, led.slots, led.others, rfl⟩

/-! ### The gate waits alone -/

theorem State.command_decides (g : GateId) (asked level : Nat) (origin : Origin) (rest : List RxFrame)
    (free : s.stopAsserted = false) (target : Nat) :
    ((s.taken rest).command g asked level origin).decideFor g target = s.decideFor g target :=
  ((s.taken rest).reach_command g asked level origin free).decideFor g target |>.trans (s.taken_decideFor rest g target)

/-- A request taken into an IDLE gate joins the pending list (R60). -/
theorem State.waits_of_idle (free : s.stopAsserted = false) (none : s.waiting = []) (idle : (s.gate g).motion = .idle)
    (far : ∀ o, (s.gate g).opening = some o →
      (s.record g).arriveTol < distance (min asked (s.record g).fullTravel) o) :
    s.Waits ((s.taken rest).command g asked level .station) g (.fresh (min asked (s.record g).fullTravel) level .station) := by
  have decides := State.command_decides g asked level .station rest free
  have joined : (s.taken rest).command g asked level .station = ((s.taken rest).travelPosted g asked).joinTail g
      (.fresh (min asked (s.record g).fullTravel) level .station) := by
    rw [State.command_eq]
    exact State.applyTarget_far (by simpa using idle) (by simpa using far)
  rw [joined] at decides ⊢
  exact
    { waiting := by simp [none]
      gate := by simp
      others := fun h other => by rw [State.joinTail_gate, State.setMotion_gate_ne _ _ other]; simp
      due := rfl
      free := by simpa using free
      slots := by simp
      settings := by simp
      counter := by simp
      decides := decides }

/-- A request of a PENDING gate is replaced in its place (R59). -/
theorem State.waits_of_pending {r : Request} (free : s.stopAsserted = false) (one : s.waiting = [g])
    (pending : (s.gate g).motion = .pending r) :
    s.Waits ((s.taken rest).command g asked level .station) g
      (r.replaced (min asked (s.record g).fullTravel) level .station) := by
  have decides := State.command_decides g asked level .station rest free
  have replaced : (s.taken rest).command g asked level .station = (((s.taken rest).travelPosted g asked).setMotion g
      (.pending (r.replaced (min asked (s.record g).fullTravel) level .station))).owe := by
    rw [State.command_eq]
    exact State.applyTarget_pending (by simpa using pending)
  rw [replaced] at decides ⊢
  exact
    { waiting := by simp [one]
      gate := by simp
      others := fun h other => by rw [State.owe_gate, State.setMotion_gate_ne _ _ other]; simp
      due := rfl
      free := by simpa using free
      slots := by simp
      settings := by simp
      counter := by simp
      decides := decides }

end

end Sys2Proof.Machine

/-! ## MOVE at IDLE and PENDING gates (O43, O44) -/

namespace Sys2Proof.Machine

/-! ### RUN to the hoists of a gate -/

/-- The order queue after a RUN to the hoist of a side (R63, R108). -/
def GateRecord.ordersRun (r : GateRecord) (target speed : Nat) (orders : List Order) (side : Side) : List Order :=
  match r.hoist side with
  | some a => orders.filter (fun o => !o.isRunFor a) ++ [.run a (r.rawTarget side target) speed]
  | none => orders

theorem State.runGate_orderQueue (s : State) (g : GateId) (target speed : Nat) :
    (s.runGate g target speed).orderQueue =
      (s.record g).ordersRun target speed ((s.record g).ordersRun target speed s.orderQueue .left) .right := by
  have one (side : Side) (t : State) :
      (t.forHoist g side fun u a => u.pushRun a ((u.record g).rawTarget side target) speed).orderQueue = (t.record g).ordersRun target speed t.orderQueue side := by
    unfold State.forHoist GateRecord.ordersRun
    cases (t.record g).hoist side <;> rfl
  have same : (s.forHoist g .left fun u a => u.pushRun a ((u.record g).rawTarget .left target) speed).record g = s.record g := by
    unfold State.forHoist
    cases (s.record g).hoist .left <;> rfl
  refine (one .right _).trans ?_
  rw [one .left s, same]

/-- Each hoist of the gate has its RUN waiting, where the two sides name different ones. -/
theorem GateRecord.mem_ordersRun {r : GateRecord} (target speed : Nat) (orders : List Order)
    (apart : ∀ a, r.leftHoist = some a → r.rightHoist ≠ some a) {side : Side} {a : LinkAddr} (named : r.hoist side = some a) :
    .run a (r.rawTarget side target) speed ∈
      r.ordersRun target speed (r.ordersRun target speed orders .left) .right := by
  have own (orders : List Order) : .run a (r.rawTarget side target) speed ∈ r.ordersRun target speed orders side := by
    simp [GateRecord.ordersRun, named]
  cases side with
  | right => exact own _
  | left =>
    have sent := own orders
    cases other : r.hoist .right with
    | none => simpa only [GateRecord.ordersRun, other] using sent
    | some b =>
      have differ : a ≠ b := fun same => apart a named (same ▸ other)
      rw [GateRecord.ordersRun, other]
      exact List.mem_append_left _ (List.mem_filter.mpr ⟨sent, by simp [Order.isRunFor, differ]⟩)

/-- A grant advances the counter and sends its RUN orders (R63, R90). -/
theorem State.Waits.granted_counts {s v : State} {g : GateId} {q : Request} (h : s.Waits v g q)
    (unmasked : ¬ s.Masked q.level) (level : q.level ≤ 7) (slot : s.slotsInUse < s.settings.slots) {p : Plan}
    (needed : (s.decideFor g q.target).decision = .legNeeded p) (counter : s.grantCounter < 4294967295)
    (fresh : (s.gate g).freshToMove) :
    v.settle.grantCounter = s.grantCounter + 1 ∧
      v.settle.orderQueue = (s.record g).ordersRun p.target p.speed
        ((s.record g).ordersRun p.target p.speed v.orderQueue .left) .right := by
  obtain ⟨-, -, stamped, -, orders⟩ := State.startLeg_frame
    (((v.markedAt g q).weighPosted g (s.settings.mark q)).counted g) g
    ((s.decideFor g q.target).marks (s.settings.mark q) .none) p (s.grantCounter + 1)
  have record : (((v.markedAt g q).weighPosted g (s.settings.mark q)).counted g).record g = s.record g := by
    rw [State.counted_record, State.record, h.posted_gate, if_pos rfl]
    rfl
  rw [h.settle_granted unmasked level slot needed counter fresh, stamped, orders, State.runGate_orderQueue, record]
  simp [State.counted, State.weighPosted, State.markedAt, h.counter]

/-! ### A MOVE of an IDLE gate -/

section
variable {s : State} {g : GateId} {p : List Byte} {asked level : Nat} {rest : List RxFrame}

theorem State.not_masked (k : level = 0 ∨ level ≤ s.settings.priorityMask) : ¬ s.Masked level := by
  rintro ⟨above, masked⟩
  omega

theorem Motion.stores_of_idle {m : Motion} (idle : m = .idle) : m.stores = false := by rw [idle]; rfl

theorem Motion.request_of_idle {m : Motion} (idle : m = .idle) : m.request = none := by rw [idle]; rfl

/-- A MOVE that the gate's opening satisfies is ARRIVED at once (R60). -/
theorem State.AsksMove.arrives {o : Nat} (asks : s.AsksMove g p asked level) (found : s.HasRequest 0x10#8 p rest)
    (free : s.stopAsserted = false) (paid : s.evalDue = false) (idle : (s.gate g).motion = .idle)
    (opening : (s.gate g).opening = some o) (within : asked ≤ (s.record g).fullTravel)
    (near : distance (min asked (s.record g).fullTravel) o ≤ (s.record g).arriveTol) (room : s.notices.length < 16) :
    exec .move s = .next { s with
      spRx := rest
      notices := s.notices ++ [{ notice := .arrived g o, stamp := s.tideClock }]
      replies := s.replies ++ [s.moveAnswer g asked level] } := by
  have posted : (s.taken rest).command g asked level .station = (s.taken rest).post (.arrived g o) := by
    rw [State.command_eq, State.travelPosted_of_within (by simpa using within)]
    exact State.applyTarget_near (by simpa using idle) (by simpa using opening) (by simpa using near)
  rw [asks.answers found free (State.outrankedBy_of_none (Motion.request_of_idle idle)) (Motion.stores_of_idle idle), posted,
    State.settle_of_not_due _ (by simpa using paid), State.post_of_room _ _ (by simpa using room)]
  rfl

end

/-- Settles O43: within tolerance the target is taken as ARRIVED with no evaluation owed; outside it the gate is the only
one that waits (`State.waits_of_idle`), and what an evaluation makes of such a gate is known (`State.Waits.granted`). -/
theorem movesOfIdleGatesAreGranted : Obligations.MovesOfIdleGatesAreGranted := by
  unfold Obligations.MovesOfIdleGatesAreGranted
  intro s g payload asked level o rest found asks free paid idle opening
  have stands := State.outrankedBy_of_none (level := level) (Motion.request_of_idle idle)
  have taken := Motion.stores_of_idle idle
  refine ⟨fun near within room => asks.arrives found free paid idle opening within near room, ?_⟩
  intro p c far needed none slot unmasked left right counter apart
  have waits := State.waits_of_idle (asked := asked) (level := level) (rest := rest) free none idle fun k here => by
    cases opening.symm.trans here
    exact far
  have unmasked := State.not_masked unmasked
  have fresh : (s.gate g).freshToMove := (s.gate g).freshToMove_iff.mpr ⟨left, right⟩
  have leg := congrArg Weighing.decision needed
  have granted := waits.granted unmasked asks.level_le slot leg counter fresh
  obtain ⟨stamped, orders⟩ := waits.granted_counts unmasked asks.level_le slot leg counter fresh
  refine ⟨_, asks.answers found free stands taken, granted.motion.trans ?_, granted.others, granted.slots, stamped,
    granted.waiting, rfl, fun side a named => ?_⟩
  · rw [State.mark_of_unmasked unmasked]
    simp only [Request.fresh, needed]
    rfl
  · show _ ∈ State.orderQueue (State.settle _)
    rw [orders]
    exact GateRecord.mem_ordersRun _ _ _ apart named

end Sys2Proof.Machine

/-! ## MOVE at gates that wait (O44) -/

namespace Sys2Proof.Machine

/-! ### Marking leaves lists, levels and slots -/

theorem State.markOne_waiting (s : State) (g : GateId) : (s.markOne g).waiting = s.waiting := by
  unfold State.markOne
  split <;> simp

theorem State.markOne_slotsInUse (s : State) (g : GateId) : (s.markOne g).slotsInUse = s.slotsInUse := by
  unfold State.markOne
  split <;> simp

theorem State.markOne_evalDue (s : State) (g : GateId) : (s.markOne g).evalDue = s.evalDue := by
  unfold State.markOne
  split <;> simp

theorem State.markOne_gate_ne (s : State) {g h : GateId} (other : h ≠ g) : (s.markOne g).gate h = s.gate h := by
  unfold State.markOne
  split
  · exact s.setMotion_gate_ne _ other
  · rfl

theorem State.markOne_pendingLevel (s : State) (g h : GateId) : (s.markOne g).pendingLevel h = s.pendingLevel h := by
  by_cases own : h = g
  · subst own
    unfold State.markOne
    split
    · rename_i r pending
      rw [State.pendingLevel_eq pending, State.pendingLevel_eq (r := s.settings.mark r) (by simp), Settings.mark_level]
    · rfl
  · simp [State.pendingLevel, s.markOne_gate_ne own]

theorem Settings.mark_mark (k : Settings) (r : Request) : k.mark (k.mark r) = k.mark r := by
  by_cases masked : k.masks r.level = true
  · simp [Settings.mark, masked]
  · by_cases reason : r.waitReason = .masked <;> simp [Settings.mark, masked, reason]

/-- From `s` to `t` requests that wait are marked, at least those of `gs`, and nothing else of the Arbiter's changes
(R89). -/
structure State.Marks (gs : List GateId) (s t : State) : Prop where
  waiting : t.waiting = s.waiting
  slots : t.slotsInUse = s.slotsInUse
  due : t.evalDue = s.evalDue
  levels : ∀ h, t.pendingLevel h = s.pendingLevel h
  marked : ∀ g r, g ∈ gs → (s.gate g).motion = .pending r → (t.gate g).motion = .pending (s.settings.mark r)
  again : ∀ g r, (s.gate g).motion = .pending (s.settings.mark r) → (t.gate g).motion = .pending (s.settings.mark r)

theorem State.marks_sweep (gs : List GateId) (s : State) : s.Marks gs (s.sweep gs State.markOne) := by
  unfold State.sweep
  induction gs generalizing s with
  | nil => exact ⟨rfl, rfl, rfl, fun _ => rfl, fun _ _ none => absurd none (by simp), fun _ _ e => e⟩
  | cons h gs ih =>
    have next := ih (s.markOne h)
    have settings : (s.markOne h).settings = s.settings := (s.reach_markOne h).settings
    have own (r : Request) (pending : (s.gate h).motion = .pending r) :
        ((s.markOne h).gate h).motion = .pending (s.settings.mark r) := by
      rw [State.markOne_pending pending]
      simp
    have kept (g : GateId) (r : Request) (pending : (s.gate g).motion = .pending (s.settings.mark r)) :
        ((s.markOne h).gate g).motion = .pending (s.settings.mark r) := by
      by_cases same : g = h
      · subst same
        rw [own _ pending, Settings.mark_mark]
      · rw [s.markOne_gate_ne same, pending]
    have again (g : GateId) (r : Request) (pending : ((s.markOne h).gate g).motion = .pending (s.settings.mark r)) :
        ((gs.foldl State.markOne (s.markOne h)).gate g).motion = .pending (s.settings.mark r) := by
      have held := next.again g r
      rw [settings] at held
      exact held pending
    refine ⟨next.waiting.trans (s.markOne_waiting h), next.slots.trans (s.markOne_slotsInUse h),
      next.due.trans (s.markOne_evalDue h), fun k => (next.levels k).trans (s.markOne_pendingLevel h k),
      fun g r listed pending => ?_, fun g r pending => again g r (kept g r pending)⟩
    by_cases same : g = h
    · subst same
      exact again g r (own r pending)
    · have marked := next.marked g r ((List.mem_cons.mp listed).resolve_left same)
      rw [settings, s.markOne_gate_ne same] at marked
      exact marked pending

/-- Marking as an evaluation opens with it (R89). -/
theorem State.marks_markMasked (s : State) : s.Marks s.waiting s.markMasked := s.marks_sweep s.waiting

/-- With no slot free and no level-0 request, an evaluation only marks (R89, R91). -/
theorem State.settle_of_full {s : State} (due : s.evalDue = true) (free : s.stopAsserted = false)
    (full : s.slotFree = false) (above : ∀ h, s.pendingLevel h ≠ some 0) : s.settle = s.paid.markMasked := by
  have marked := s.paid.marks_markMasked
  have settings : s.paid.markMasked.settings = s.settings := (s.reach_paid.trans s.paid.reach_markMasked).settings
  have still : s.paid.markMasked.slotFree = false := by
    rw [← full]
    simp [State.slotFree, settings, marked.slots]
  have done : s.evaluate = s.paid.markMasked := by
    rw [State.evaluate_eq free, State.walk_of_full still, if_neg (by simp [still])]
    exact State.preemptionTest_of_none fun h _ => by
      rw [marked.levels]
      exact above h
  rw [State.settle_of_evaluate due (by rw [done]; exact marked.due), done]

/-! ### O44 -/

section
variable {s : State} {g : GateId} {p : List Byte} {asked level : Nat} {rest : List RxFrame}

theorem Motion.stores_of_pending {m : Motion} {r : Request} (pending : m = .pending r) : m.stores = false := by
  rw [pending]
  rfl

theorem Motion.request_of_pending {m : Motion} {r : Request} (pending : m = .pending r) : m.request = some r := by
  rw [pending]
  rfl

/-- A replaced request that no slot is free for keeps its place behind any others (R59, R89). -/
theorem State.AsksMove.keepsPlace {r : Request} (asks : s.AsksMove g p asked level) (found : s.HasRequest 0x10#8 p rest)
    (free : s.stopAsserted = false) (pending : (s.gate g).motion = .pending r) (le : level ≤ r.level)
    (waits : g ∈ s.waiting) (above : 0 < level) (full : s.settings.slots ≤ s.slotsInUse)
    (others : ∀ h q, (s.gate h).motion = .pending q → h ≠ g → 0 < q.level) :
    ∃ t q, exec .move s = .next t ∧ t.waiting = s.waiting ∧ (t.gate g).motion = .pending q ∧
      q.target = min asked (s.record g).fullTravel ∧ q.level = level ∧ q.origin = .station := by
  have answered := asks.answers found free (State.outrankedBy_of_le (Motion.request_of_pending pending) le)
    (Motion.stores_of_pending pending)
  set asked' := r.replaced (min asked (s.record g).fullTravel) level .station with hq
  set v := (s.taken rest).command g asked level .station with hv
  have replaced : v = (((s.taken rest).travelPosted g asked).setMotion g (.pending asked')).owe := by
    rw [hv, State.command_eq]
    exact State.applyTarget_pending (by simpa using pending)
  have own : (v.gate g).motion = .pending asked' := by rw [replaced]; simp
  have settled : v.settle = v.paid.markMasked := by
    refine State.settle_of_full (by rw [replaced]; rfl) (by rw [replaced]; simpa using free)
      (by rw [replaced]; simpa [State.slotFree] using full) fun h => ?_
    by_cases same : h = g
    · subst same
      rw [State.pendingLevel_eq own]
      simpa [hq, Request.replaced] using above.ne'
    · have motion : (v.gate h).motion = (s.gate h).motion := by
        rw [replaced, State.owe_gate, State.setMotion_gate_ne _ _ same]
        simp
      intro zero
      simp only [State.pendingLevel, motion] at zero
      split at zero
      · rename_i q waits
        have more := others h q waits same
        injection zero with zero
        omega
      · cases zero
  have listed : v.paid.waiting = s.waiting := by rw [replaced]; simp
  have marked := v.paid.marks_markMasked
  refine ⟨_, v.paid.settings.mark asked', answered, ?_, ?_, ?_, ?_, ?_⟩
  · show v.settle.waiting = _
    rw [settled, marked.waiting, listed]
  · show (v.settle.gate g).motion = _
    rw [settled]
    exact marked.marked g asked' (listed ▸ waits) own
  · exact congrArg Target.target (v.paid.settings.mark_toTarget asked')
  · exact congrArg Target.level (v.paid.settings.mark_toTarget asked')
  · unfold Settings.mark
    split
    · rfl
    · split <;> rfl

/-- ARRIVED of a replaced request finds room behind the CLAMPED notices of the MOVE (R89, R179). -/
theorem State.AsksMove.arrivesFromList {r : Request} {t : State} {o : Nat} (asks : s.AsksMove g p asked level)
    (found : s.HasRequest 0x10#8 p rest) (free : s.stopAsserted = false) (one : s.waiting = [g])
    (pending : (s.gate g).motion = .pending r) (le : level ≤ r.level) (unmasked : ¬ s.Masked level)
    (slot : s.slotsInUse < s.settings.slots)
    (satisfied : (s.decideFor g (min asked (s.record g).fullTravel)).decision = .satisfied)
    (quiet : (s.gate g).excursion = none) (moved : exec .move s = .next t) (opening : (s.gate g).opening = some o)
    (room : s.notices.length < 14) : { notice := .arrived g o, stamp := s.tideClock } ∈ t.notices := by
  have waits := State.waits_of_pending (asked := asked) (level := level) (rest := rest) free one pending
  have clock : ((s.taken rest).command g asked level .station).tideClock = s.tideClock :=
    ((s.taken rest).reach_command g asked level .station free).tideClock
  have places : ((s.taken rest).command g asked level .station).notices.length < 15 := by
    rw [State.command_eq, State.applyTarget_pending (r := r) (by simpa using pending)]
    have posted := (s.taken rest).travelPosted_notices_length g asked
    simp only [State.taken_notices] at posted
    simp only [State.owe_notices, State.setMotion_notices]
    omega
  rw [asks.answers found free (State.outrankedBy_of_le (Motion.request_of_pending pending) le)
    (Motion.stores_of_pending pending)] at moved
  obtain rfl := Host.Outcome.next.inj moved
  exact clock ▸ waits.satisfied_notice unmasked asks.level_le slot satisfied quiet opening places

end

/-- Settles O44: the gate is the only one that waits (`State.waits_of_idle`, `State.waits_of_pending`), and what an
evaluation makes of such a gate is known (`State.Waits`). -/
theorem movesWaitInThePendingList : Obligations.MovesWaitInThePendingList := by
  unfold Obligations.MovesWaitInThePendingList
  intro s g payload asked level rest found asks free paid
  simp only
  have low := asks.level_le
  refine ⟨fun idle none far => ?_, fun r pending le => ⟨fun one => ?_, fun waits above full others =>
    asks.keepsPlace found free pending le waits above full others⟩⟩
  · have waits := State.waits_of_idle (asked := asked) (level := level) (rest := rest) free none idle far
    have goes {m : Motion} {list : List GateId} {slots : Nat} := asks.goes (m := m) (list := list) (slots := slots) found free
      (State.outrankedBy_of_none (Motion.request_of_idle idle)) (Motion.stores_of_idle idle)
    have marked (unmasked : ¬ s.Masked level) :=
      State.mark_of_unmasked (r := Request.fresh (min asked (s.record g).fullTravel) level .station) unmasked
    refine ⟨fun masked => goes ?_, fun unmasked above full => goes ?_, fun term unmasked slot blocked => goes ?_⟩
    · have led := waits.unweighed (.inl masked)
      rw [State.mark_of_masked masked] at led
      exact led
    · have led := waits.unweighed (.inr ⟨full, above⟩)
      rw [marked unmasked] at led
      exact led
    · have led := waits.blocked unmasked low slot blocked
      rw [marked unmasked] at led
      exact led
  · have waits := State.waits_of_pending (asked := asked) (level := level) (rest := rest) free one pending
    have goes {m : Motion} {list : List GateId} {slots : Nat} := asks.goes (m := m) (list := list) (slots := slots) found free
      (State.outrankedBy_of_le (Motion.request_of_pending pending) le) (Motion.stores_of_pending pending)
    have marked (unmasked : ¬ s.Masked level) :=
      State.mark_of_unmasked (r := r.replaced (min asked (s.record g).fullTravel) level .station) unmasked
    refine ⟨fun masked => goes ?_, fun unmasked above full => goes ?_, fun unmasked slot => ⟨fun term blocked => goes ?_,
      fun p needed counter left right => goes ?_, fun satisfied quiet => ⟨goes ?_, ?_⟩⟩⟩
    · have led := waits.unweighed (.inl masked)
      rw [State.mark_of_masked masked] at led
      exact led
    · have led := waits.unweighed (.inr ⟨full, above⟩)
      rw [marked unmasked] at led
      exact led
    · have led := waits.blocked unmasked low slot blocked
      rw [marked unmasked] at led
      exact led
    · have led := waits.granted unmasked low slot needed counter ((s.gate g).freshToMove_iff.mpr ⟨left, right⟩)
      rw [marked unmasked] at led
      exact led
    · exact waits.satisfied unmasked low slot satisfied quiet
    · exact fun t o moved opening room =>
        asks.arrivesFromList found free one pending le unmasked slot satisfied quiet moved opening room

end Sys2Proof.Machine

/-! ## MOVE at moving gates (O45) -/

namespace Sys2Proof.Machine

/-! ### Orders of a re-target -/

theorem State.forHoist_frame (s : State) (g : GateId) (side : Side) {send : State → LinkAddr → State}
    (sent : ∀ u a, send u a = { u with haltQueue := (send u a).haltQueue, orderQueue := (send u a).orderQueue }) :
    s.forHoist g side send = { s with
      haltQueue := (s.forHoist g side send).haltQueue, orderQueue := (s.forHoist g side send).orderQueue } := by
  unfold State.forHoist
  split
  · exact sent _ _
  · rfl

theorem State.haltGate_frame (s : State) (g : GateId) :
    s.haltGate g = { s with haltQueue := (s.haltGate g).haltQueue, orderQueue := (s.haltGate g).orderQueue } := by
  unfold State.haltGate
  rw [State.forHoist_frame _ g .right fun _ _ => rfl]
  rw [State.forHoist_frame s g .left fun _ _ => rfl]

theorem State.resumePaused_frame (s : State) (g : GateId) (l : Leg) :
    s.resumePaused g l = { s with orderQueue := (s.resumePaused g l).orderQueue } := by
  unfold State.resumePaused State.resumeHoist State.forHoist
  split
  · split
    · rw [State.pushResume_eq]
    · rfl
  · rfl

/-- A HALT for each hoist takes the place of its unsent orders (R108). -/
theorem State.haltGate_orderQueue (s : State) (g : GateId) : (s.haltGate g).orderQueue = s.orderQueue.filter fun o =>
    decide ((s.record g).leftHoist ≠ some o.hoist) && decide ((s.record g).rightHoist ≠ some o.hoist) := by
  have one (side : Side) (t : State) : (t.forHoist g side State.pushHalt).orderQueue =
      t.orderQueue.filter fun o => decide ((t.record g).hoist side ≠ some o.hoist) := by
    unfold State.forHoist
    cases (t.record g).hoist side with
    | none => simp
    | some a => simp [eq_comm]
  have same : (s.forHoist g .left State.pushHalt).record g = s.record g := by
    unfold State.forHoist
    cases (s.record g).hoist .left <;> rfl
  refine (one .right _).trans ?_
  rw [one .left s, same, List.filter_filter]
  exact List.filter_congr fun o _ => Bool.and_comm _ _

theorem State.haltGate_keepsHalts (s : State) (g : GateId) : s.haltQueue <+: (s.haltGate g).haltQueue := by
  have one (side : Side) (t : State) : t.haltQueue <+: (t.forHoist g side State.pushHalt).haltQueue := by
    unfold State.forHoist
    split
    · rw [State.pushHalt_haltQueue]
      split
      · exact ⟨[], List.append_nil _⟩
      · exact ⟨_, rfl⟩
    · exact ⟨[], List.append_nil _⟩
  exact (one .left s).trans (one .right _)

theorem State.resumePaused_orderQueue {s : State} {g : GateId} {a b : LinkAddr} (l : Leg)
    (left : (s.record g).leftHoist = some a) (right : (s.record g).rightHoist = some b) :
    (s.resumePaused g l).orderQueue = match l.paused with
      | none => s.orderQueue
      | some .left => ordersResumed s.orderQueue a
      | some .right => ordersResumed s.orderQueue b := by
  unfold State.resumePaused State.resumeHoist State.forHoist
  cases l.paused with
  | none => rfl
  | some side => cases side <;> simp [GateRecord.hoist, left, right, State.pushResume_eq, ordersResumed]

theorem GateRecord.ordersRun_both {r : GateRecord} {a b : LinkAddr} (target speed : Nat) (orders : List Order)
    (left : r.leftHoist = some a) (right : r.rightHoist = some b) (apart : a ≠ b) :
    r.ordersRun target speed (r.ordersRun target speed orders .left) .right =
      orders.filter (fun o => !o.isRunFor a && !o.isRunFor b) ++
        [.run a (r.rawTarget .left target) speed, .run b (r.rawTarget .right target) speed] := by
  have kept : (Order.run a (r.rawTarget .left target) speed).isRunFor b = false := by simp [Order.isRunFor, apart]
  simp only [GateRecord.ordersRun, GateRecord.hoist, left, right, List.filter_append, List.filter_filter,
    List.filter_cons, List.filter_nil, kept, Bool.not_false, if_true, List.append_assoc, List.singleton_append]
  exact congrArg (· ++ _) (List.filter_congr fun o _ => Bool.and_comm _ _)

/-! ### The re-target check -/

/-- From `s` to `t` gate `g` may change, and orders may wait; no other gate changes, nor the Arbiter's counts. -/
structure State.ActsOn (g : GateId) (s t : State) : Prop where
  others : ∀ h, h ≠ g → t.gate h = s.gate h
  waiting : t.waiting = s.waiting
  slots : t.slotsInUse = s.slotsInUse
  due : t.evalDue = s.evalDue

section
variable {g : GateId}

theorem State.ActsOn.trans {s t u : State} (h : State.ActsOn g s t) (k : State.ActsOn g t u) : State.ActsOn g s u :=
  ⟨fun j ne => (k.others j ne).trans (h.others j ne), k.waiting.trans h.waiting, k.slots.trans h.slots, k.due.trans h.due⟩

theorem State.actsOn_setMotion (s : State) (m : Motion) : State.ActsOn g s (s.setMotion g m) :=
  ⟨fun _ ne => s.setMotion_gate_ne m ne, by simp, by simp, by simp⟩

theorem State.actsOn_postSome (s : State) (n : Option Notice) : State.ActsOn g s (s.postSome n) :=
  ⟨by simp, by simp, by simp, by simp⟩

theorem State.actsOn_enterStopping (s : State) (next : NextStep) (l : Leg) :
    State.ActsOn g s (s.enterStopping g next l) := by
  refine State.ActsOn.trans ?_ (State.actsOn_setMotion _ _)
  rw [s.haltGate_frame g]
  exact ⟨fun _ _ => rfl, rfl, rfl, rfl⟩

theorem State.actsOn_goOn (s : State) (r : Request) (l : Leg) (window : Option Nat) (p : Plan) :
    State.ActsOn g s (s.goOn g r l window p) := by
  have ordered : State.ActsOn g s ((s.resumePaused g l).runGate g p.target p.speed) := by
    rw [State.runGate_frame, s.resumePaused_frame g l]
    exact ⟨fun _ _ => rfl, rfl, rfl, rfl⟩
  unfold State.goOn
  simp only
  split <;> exact ordered.trans (State.actsOn_setMotion _ _)

end

/-- The re-target check, said of the request as its weighing leaves it (R66 to R68). -/
theorem State.retargetMoving_eq (s : State) (g : GateId) (r : Request) (l : Leg) (window : Option Nat) :
    s.retargetMoving g r l window = match (s.decideFor g r.target).decision with
      | .satisfied => (s.weighPosted g r).enterStopping g (.restartLeg (s.weighed g r)) l
      | .blocked (some _) => (s.weighPosted g r).enterStopping g (.requeue (s.weighed g r)) l
      | .blocked none => (s.weighPosted g r).setMotion g (movingWith (s.weighed g r) l window)
      | .legNeeded p =>
        if p.direction = l.direction then
          if p.target = l.target ∧ p.speed = l.speed then
            (s.weighPosted g r).setMotion g (movingWith (s.weighed g r) l window)
          else (s.weighPosted g r).goOn g (s.weighed g r) l window p
        else (s.weighPosted g r).enterStopping g (.restartLeg (s.weighed g r)) l := by
  unfold State.retargetMoving State.weighed State.weighPosted
  cases e : (s.decideFor g r.target).decision with
  | blocked term => cases term <;> simp only [s.weigh_eq g r, e]
  | _ => simp only [s.weigh_eq g r, e]

theorem State.actsOn_retargetMoving (s : State) (g : GateId) (r : Request) (l : Leg) (window : Option Nat) :
    State.ActsOn g s (s.retargetMoving g r l window) := by
  have weighed := s.actsOn_postSome (g := g) ((s.decideFor g r.target).clampNotice g r)
  rw [State.retargetMoving_eq]
  split
  · exact weighed.trans (State.actsOn_enterStopping _ _ _)
  · exact weighed.trans (State.actsOn_enterStopping _ _ _)
  · exact weighed.trans (State.actsOn_setMotion _ _)
  · split
    · split
      · exact weighed.trans (State.actsOn_setMotion _ _)
      · exact weighed.trans (State.actsOn_goOn _ _ _ _ _)
    · exact weighed.trans (State.actsOn_enterStopping _ _ _)

/-! ### What a re-target can lead to -/

/-- The gate is stopped for a next step, with a HALT for each hoist in the place of its unsent orders (R69, R108). -/
structure State.Stopped (s t : State) (g : GateId) (next : NextStep) (l : Leg) : Prop where
  motion : (t.gate g).motion =
    .stopping next { l with acks := .empty, paused := none } (4 * (s.record g).sampleWindow)
  halted : ∀ side a, (s.record g).hoist side = some a → a ∈ t.haltQueue
  before : s.haltQueue <+: t.haltQueue
  orders : t.orderQueue = s.orderQueue.filter fun o =>
    decide ((s.record g).leftHoist ≠ some o.hoist) && decide ((s.record g).rightHoist ≠ some o.hoist)

theorem State.stopped_enterStopping (s : State) (g : GateId) (next : NextStep) (l : Leg) :
    s.Stopped (s.enterStopping g next l) g next l where
  motion := by simp [State.enterStopping, State.haltGate_record]
  halted side a named := by
    rw [State.enterStopping, State.setMotion_haltQueue]
    exact s.haltGate_haltQueue named
  before := by
    rw [State.enterStopping, State.setMotion_haltQueue]
    exact s.haltGate_keepsHalts g
  orders := by
    rw [State.enterStopping, State.setMotion_orderQueue]
    exact s.haltGate_orderQueue g

/-- A leg that goes on with a new target or speed (R67). -/
theorem State.goOn_orders {s : State} {g : GateId} (r : Request) (l : Leg) (window : Option Nat) (p : Plan) :
    (s.goOn g r l window p).haltQueue = s.haltQueue ∧
      (s.goOn g r l window p).orderQueue = (s.record g).ordersRun p.target p.speed
        ((s.record g).ordersRun p.target p.speed (s.resumePaused g l).orderQueue .left) .right := by
  have halts : ((s.resumePaused g l).runGate g p.target p.speed).haltQueue = s.haltQueue := by
    rw [State.runGate_frame, s.resumePaused_frame g l]
  have record : (s.resumePaused g l).record g = s.record g := (s.reach_resumePaused g l).record g
  have orders := (s.resumePaused g l).runGate_orderQueue g p.target p.speed
  rw [record] at orders
  unfold State.goOn
  simp only
  split <;> exact ⟨(State.setMotion_haltQueue _ _ _).trans halts, (State.setMotion_orderQueue _ _ _).trans orders⟩

theorem State.goOn_motion {s : State} {g : GateId} (r : Request) (l : Leg) (window : Option Nat) (p : Plan) :
    ((s.goOn g r l window p).gate g).motion = match (s.record g).handshake, window with
      | .interlocked, _ => .starting r { l.retargeted p with acks := .empty } (s.record g).ackWindow
      | .pulsed, some w => .starting r (l.retargeted p) w
      | .pulsed, none => .travelling r { l.retargeted p with acks := .empty } := by
  have record : ((s.resumePaused g l).runGate g p.target p.speed).record g = s.record g :=
    (State.runGate_record _ _ _ _ _).trans ((s.reach_resumePaused g l).record g)
  unfold State.goOn
  simp only [record]
  cases (s.record g).handshake <;> cases window <;> simp

/-- What is said of a stop is about the record and the orders it found. -/
theorem State.Stopped.of_same {s u t : State} {g : GateId} {next : NextStep} {l : Leg} (h : u.Stopped t g next l)
    (record : u.record g = s.record g) (halts : u.haltQueue = s.haltQueue) (orders : u.orderQueue = s.orderQueue) :
    s.Stopped t g next l :=
  ⟨record ▸ h.motion, record ▸ h.halted, halts ▸ h.before, by rw [← record, ← orders]; exact h.orders⟩

/-! ### The MOVE of a moving gate -/

theorem movingWith_stores (r : Request) (l : Leg) (window : Option Nat) : (movingWith r l window).stores = false := by
  cases window <;> rfl

theorem State.applyTarget_moving {s : State} {g : GateId} {r : Request} {l : Leg} {window : Option Nat}
    {target level : Nat} {origin : Origin} (moving : (s.gate g).motion = movingWith r l window) :
    s.applyTarget g target level origin = s.retargetMoving g (r.replaced target level origin) l window := by
  cases window <;> simp [State.applyTarget, moving, movingWith]

section
variable {s : State} {g : GateId} {p : List Byte} {asked level : Nat} {rest : List RxFrame} {old : Request} {l : Leg}
  {window : Option Nat}

/-- The request of the MOVE, weighed with a reason (R50, R59). -/
def State.moveRequest (s : State) (g : GateId) (asked level : Nat) (reason : WaitReason) : Request where
  target := min asked (s.record g).fullTravel
  level := level
  origin := .station
  clampReported := (s.decideFor g (min asked (s.record g).fullTravel)).clampedTo.isSome
  waitReason := reason

/-- The state in which the re-target check of the MOVE leaves its weighing (R57, R66). -/
def State.moveWeighed (s : State) (g : GateId) (asked level : Nat) (rest : List RxFrame) (old : Request) : State :=
  ((s.taken rest).travelPosted g asked).weighPosted g (old.replaced (min asked (s.record g).fullTravel) level .station)

theorem State.moveWeighed_same (s : State) (g : GateId) (asked level : Nat) (rest : List RxFrame) (old : Request) :
    (s.moveWeighed g asked level rest old).record g = s.record g ∧
      (s.moveWeighed g asked level rest old).haltQueue = s.haltQueue ∧
      (s.moveWeighed g asked level rest old).orderQueue = s.orderQueue := by
  simp [State.moveWeighed, State.weighPosted]

theorem State.taken_travelPosted_decides (g : GateId) (target asked : Nat) :
    ((s.taken rest).travelPosted g asked).decideFor g target = s.decideFor g target :=
  ((s.taken rest).reach_travelPosted g asked).decideFor g target |>.trans (s.taken_decideFor rest g target)

/-- The command at a moving gate, by the decision on its target (R66 to R68). -/
theorem State.command_moving (level : Nat) (moving : (s.gate g).motion = movingWith old l window) :
    (s.taken rest).command g asked level .station =
      match (s.decideFor g (min asked (s.record g).fullTravel)).decision with
      | .satisfied => (s.moveWeighed g asked level rest old).enterStopping g
          (.restartLeg (s.moveRequest g asked level old.waitReason)) l
      | .blocked (some reason) => (s.moveWeighed g asked level rest old).enterStopping g
          (.requeue (s.moveRequest g asked level reason)) l
      | .blocked none => (s.moveWeighed g asked level rest old).setMotion g
          (movingWith (s.moveRequest g asked level old.waitReason) l window)
      | .legNeeded p =>
        if p.direction = l.direction then
          if p.target = l.target ∧ p.speed = l.speed then
            (s.moveWeighed g asked level rest old).setMotion g (movingWith (s.moveRequest g asked level .none) l window)
          else (s.moveWeighed g asked level rest old).goOn g (s.moveRequest g asked level .none) l window p
        else (s.moveWeighed g asked level rest old).enterStopping g
          (.restartLeg (s.moveRequest g asked level .none)) l := by
  have weighed : ((s.taken rest).travelPosted g asked).weighed g
      (old.replaced (min asked (s.record g).fullTravel) level .station) = s.moveRequest g asked level
        (waitAfter (s.decideFor g (min asked (s.record g).fullTravel)).decision old.waitReason) := by
    unfold State.weighed
    rw [State.taken_travelPosted_decides]
    rfl
  rw [State.command_eq, State.applyTarget_moving (by simpa using moving), State.retargetMoving_eq,
    State.taken_travelPosted_decides, State.taken_record, weighed]
  cases e : (s.decideFor g (min asked (s.record g).fullTravel)).decision with
  | blocked term => cases term <;> simp [e, Request.replaced, waitAfter, State.moveWeighed]
  | _ => simp [e, Request.replaced, waitAfter, State.moveWeighed]

/-- A re-target that stops the gate for a restart or for its place in the list (R66, R68). -/
theorem State.command_stops (level : Nat) (moving : (s.gate g).motion = movingWith old l window) :
    ((s.decideFor g (min asked (s.record g).fullTravel)).decision = .satisfied →
      (s.taken rest).command g asked level .station = (s.moveWeighed g asked level rest old).enterStopping g
        (.restartLeg (s.moveRequest g asked level old.waitReason)) l) ∧
    (∀ reason, (s.decideFor g (min asked (s.record g).fullTravel)).decision = .blocked (some reason) →
      (s.taken rest).command g asked level .station = (s.moveWeighed g asked level rest old).enterStopping g
        (.requeue (s.moveRequest g asked level reason)) l) ∧
    ∀ p, (s.decideFor g (min asked (s.record g).fullTravel)).decision = .legNeeded p → p.direction ≠ l.direction →
      (s.taken rest).command g asked level .station = (s.moveWeighed g asked level rest old).enterStopping g
        (.restartLeg (s.moveRequest g asked level .none)) l := by
  rw [State.command_moving level moving]
  refine ⟨fun satisfied => ?_, fun reason blocked => ?_, fun p needed turns => ?_⟩
  · simp only [satisfied]
  · simp only [blocked]
  · simp only [needed, turns, if_false]

/-- A leg that goes on: neither direction nor target nor speed change (R67). -/
theorem State.command_keepsLeg {p : Plan} (level : Nat) (moving : (s.gate g).motion = movingWith old l window)
    (needed : (s.decideFor g (min asked (s.record g).fullTravel)).decision = .legNeeded p)
    (direction : p.direction = l.direction) (target : p.target = l.target) (speed : p.speed = l.speed) :
    (s.taken rest).command g asked level .station = (s.moveWeighed g asked level rest old).setMotion g
      (movingWith (s.moveRequest g asked level .none) l window) := by
  rw [State.command_moving level moving, needed]
  simp only [direction, target, speed, and_self, if_true]

theorem State.command_goesOn {p : Plan} (level : Nat) (moving : (s.gate g).motion = movingWith old l window)
    (needed : (s.decideFor g (min asked (s.record g).fullTravel)).decision = .legNeeded p)
    (direction : p.direction = l.direction) (differs : p.target ≠ l.target ∨ p.speed ≠ l.speed) :
    (s.taken rest).command g asked level .station =
      (s.moveWeighed g asked level rest old).goOn g (s.moveRequest g asked level .none) l window p := by
  have changed : ¬ (p.target = l.target ∧ p.speed = l.speed) := fun ⟨target, speed⟩ =>
    differs.elim (absurd target) (absurd speed)
  rw [State.command_moving level moving, needed]
  simp only [direction, changed, if_true, if_false]

/-- A leg that goes on with a new target or speed sends new RUNs behind the RESUME of a paused hoist (R67, R108). -/
theorem State.moveWeighed_goOn_orders {p : Plan} {a b : LinkAddr} (level : Nat) (l : Leg) (window : Option Nat)
    (left : (s.record g).leftHoist = some a) (right : (s.record g).rightHoist = some b) (apart : a ≠ b) (r : Request) :
    ((s.moveWeighed g asked level rest old).goOn g r l window p).haltQueue = s.haltQueue ∧
      ((s.moveWeighed g asked level rest old).goOn g r l window p).orderQueue =
        (match l.paused with
          | none => s.orderQueue
          | some .left => ordersResumed s.orderQueue a
          | some .right => ordersResumed s.orderQueue b).filter (fun o => !o.isRunFor a && !o.isRunFor b) ++
        [.run a ((s.record g).rawTarget .left p.target) p.speed, .run b ((s.record g).rawTarget .right p.target) p.speed] := by
  obtain ⟨record, halts, orders⟩ := s.moveWeighed_same g asked level rest old
  obtain ⟨haltsKept, ordersRun⟩ := State.goOn_orders (s := s.moveWeighed g asked level rest old) (g := g) r l window p
  refine ⟨haltsKept.trans halts, ordersRun.trans ?_⟩
  rw [State.resumePaused_orderQueue l (record ▸ left) (record ▸ right), record,
    GateRecord.ordersRun_both _ _ _ left right apart, orders]

end

/-- Settles O45: the command is one re-target check of the gate (`State.command_moving`), which owes no evaluation; its
outcomes stop the gate (`State.Stopped`), set its motion, or go on with new orders (`State.goOn_orders`). -/
theorem movesRetargetMovingGates : Obligations.MovesRetargetMovingGates := by
  unfold Obligations.MovesRetargetMovingGates
  intro s g payload asked level rest old l window found asks free paid moving le opening
  have moving : (s.gate g).motion = movingWith old l window := moving
  have request : (s.gate g).motion.request = some old := by rw [moving, movingWith_request]
  have answered := asks.answers found free (State.outrankedBy_of_le request le) (by rw [moving, movingWith_stores])
  have acts : State.ActsOn g s ((s.taken rest).command g asked level .station) := by
    have found : State.ActsOn g s ((s.taken rest).travelPosted g asked) := ⟨by simp, by simp, by simp, by simp⟩
    rw [State.command_eq, State.applyTarget_moving (by simpa using moving)]
    exact found.trans (State.actsOn_retargetMoving _ _ _ _ _)
  rw [State.settle_of_not_due _ (acts.due.trans paid)] at answered
  obtain ⟨record, halts, orders⟩ := s.moveWeighed_same g asked level rest old
  have stopped (next : NextStep)
      (e : (s.taken rest).command g asked level .station = (s.moveWeighed g asked level rest old).enterStopping g next l) :=
    have k : s.Stopped ((s.taken rest).command g asked level .station) g next l :=
      e ▸ (State.stopped_enterStopping _ g next l).of_same record halts orders
    And.intro k.motion (And.intro k.halted (And.intro k.before k.orders))
  obtain ⟨ofSatisfied, ofBlocked, ofTurn⟩ := State.command_stops (asked := asked) (rest := rest) level moving
  refine ⟨_, answered, acts.others, acts.slots, acts.waiting, rfl, fun satisfied => stopped _ (ofSatisfied satisfied),
    fun reason blocked => stopped _ (ofBlocked reason blocked),
    fun p needed => ⟨fun turns => stopped _ (ofTurn p needed turns), ?_, ?_⟩⟩
  · intro direction target speed
    have kept := State.command_keepsLeg (rest := rest) level moving needed direction target speed
    refine ⟨(congrArg (fun t => (t.gate g).motion) kept).trans ?_, (congrArg State.orderQueue kept).trans ?_,
      (congrArg State.haltQueue kept).trans ?_⟩
    · exact congrArg Gate.motion (State.setMotion_gate_self _ _ _)
    · exact (State.setMotion_orderQueue _ _ _).trans orders
    · exact (State.setMotion_haltQueue _ _ _).trans halts
  · intro direction differs
    have wentOn := State.command_goesOn (rest := rest) level moving needed direction differs
    have motion := (congrArg (fun t => (t.gate g).motion) wentOn).trans (State.goOn_motion _ l window p)
    rw [record] at motion
    refine ⟨fun a b left right apart => ?_, fun interlocked => ?_, fun pulsed k some => ?_, fun pulsed none => ?_⟩
    · obtain ⟨halted, ran⟩ := State.moveWeighed_goOn_orders (asked := asked) (rest := rest) (old := old) (p := p) level l
        window left right apart (s.moveRequest g asked level .none)
      exact ⟨(congrArg State.haltQueue wentOn).trans halted, (congrArg State.orderQueue wentOn).trans ran⟩
    · exact motion.trans (by rw [interlocked]; rfl)
    · exact motion.trans (by rw [pulsed, some]; rfl)
    · exact motion.trans (by rw [pulsed, none]; rfl)

end Sys2Proof.Machine

/-! ## What an evaluation keeps of a gate's request and its origin (R89 to R91) -/

namespace Sys2Proof.Machine

/-! ### One gate -/

/-- The motion has a request that no longer waits: the gate moves for it, or stops for it (R62, R69). -/
def Motion.Serves (m : Motion) (r : Request) : Prop := m.request = some r ∧ m.isPending = false

/-- The gate asks for a target with an origin, one that its opening does not satisfy, or a hold keeps the target (R62, R74). -/
def Gate.Asks (x : Gate) (k : Target) (origin : Origin) : Prop :=
  (∀ o, x.opening = some o → x.record.arriveTol < distance k.target o) ∧
    ((∃ q, x.motion.request = some q ∧ q.toTarget = k ∧ q.origin = origin) ∨ ∃ h, x.motion = .hold h (some k))

/-- What an evaluation keeps of a gate: IDLE, a request that is served, and one that is not satisfied. -/
structure Gate.Settles (x y : Gate) : Prop where
  idle : x.motion = .idle → y.motion = .idle
  serving : ∀ r, x.motion.Serves r → y.motion.Serves r
  asking : ∀ k o, x.Asks k o → y.Asks k o

theorem Gate.Settles.refl (x : Gate) : x.Settles x := ⟨id, fun _ => id, fun _ _ => id⟩

theorem Gate.Settles.trans {x y z : Gate} (h : x.Settles y) (k : y.Settles z) : x.Settles z :=
  ⟨fun e => k.idle (h.idle e), fun r e => k.serving r (h.serving r e), fun t o e => k.asking t o (h.asking t o e)⟩

/-- A request that its opening satisfies may end (R89). -/
theorem Gate.settles_of_satisfied {x : Gate} {r : Request} {o : Nat} (pending : x.motion = .pending r)
    (opening : x.opening = some o) (near : distance r.target o ≤ x.record.arriveTol) (y : Gate) : x.Settles y where
  idle idle := by rw [pending] at idle; cases idle
  serving q served := by rw [pending] at served; cases served.2
  asking k origin asks := by
    obtain ⟨far, ⟨q, request, rfl, -⟩ | ⟨h, held⟩⟩ := asks
    · rw [pending] at request
      cases request
      exact absurd (far o opening) (Nat.not_lt.mpr near)
    · rw [pending] at held; cases held

/-- A request that waits may be marked, granted, or kept by a hold (R50, R63, R74). -/
theorem Gate.settles_of_pending {x : Gate} {r : Request} {m : Motion} (pending : x.motion = .pending r)
    (kept : (∃ q, m.request = some q ∧ q.toTarget = r.toTarget ∧ q.origin = r.origin) ∨ ∃ h, m = .hold h (some r.toTarget)) :
    x.Settles { x with motion := m } where
  idle idle := by rw [pending] at idle; cases idle
  serving q served := by rw [pending] at served; cases served.2
  asking k origin asks := by
    obtain ⟨far, ⟨q, request, rfl, rfl⟩ | ⟨h, held⟩⟩ := asks
    · rw [pending] at request
      cases request
      exact ⟨far, kept⟩
    · rw [pending] at held; cases held

/-- A motion with a request that no longer waits may become another such motion (R90, R91). -/
theorem Gate.settles_of_serves {x : Gate} {r : Request} {m : Motion} (serves : x.motion.Serves r) (still : m.Serves r) :
    x.Settles { x with motion := m } where
  idle idle := by rw [idle] at serves; cases serves.1
  serving q served := by
    cases serves.1.symm.trans served.1
    exact still
  asking k origin asks := by
    obtain ⟨far, ⟨q, request, same⟩ | ⟨h, held⟩⟩ := asks
    · cases serves.1.symm.trans request
      exact ⟨far, .inl ⟨r, still.1, same⟩⟩
    · rw [held] at serves; cases serves.1

theorem Gate.settles_restamped (x : Gate) (f : Nat → Nat) : x.Settles { x with motion := x.motion.restamped f } where
  idle idle := by simp [idle, Motion.restamped]
  serving r served := ⟨(Motion.restamped_request _ _).trans served.1, by
    rw [← served.2]
    show (x.motion.restamped f).isPending = x.motion.isPending
    cases x.motion <;> rfl⟩
  asking k origin asks := by
    obtain ⟨far, ⟨q, request, same⟩ | ⟨h, held⟩⟩ := asks
    · exact ⟨far, .inl ⟨q, (Motion.restamped_request _ _).trans request, same⟩⟩
    · exact ⟨far, .inr ⟨h, by simp [held, Motion.restamped]⟩⟩

/-! ### The state -/

/-- Every gate settles from `s` to `t`. -/
def State.Settles (s t : State) : Prop := ∀ g, (s.gate g).Settles (t.gate g)

theorem State.Settles.trans {s t u : State} (h : s.Settles t) (k : t.Settles u) : s.Settles u := fun g => (h g).trans (k g)

theorem State.settles_of_same {s t : State} (same : ∀ g, t.gate g = s.gate g) : s.Settles t := fun g => same g ▸ .refl _

theorem State.Settles.refl (s : State) : s.Settles s := State.settles_of_same fun _ => rfl

/-- A change of one gate is judged there. -/
theorem State.settles_of_one {s t : State} {h : GateId} (others : ∀ g, g ≠ h → t.gate g = s.gate g)
    (own : (s.gate h).Settles (t.gate h)) : s.Settles t := fun g => by
  by_cases same : g = h
  · exact same ▸ own
  · rw [others g same]
    exact .refl _

theorem State.settles_setMotion {s : State} {h : GateId} {m : Motion}
    (own : (s.gate h).Settles { s.gate h with motion := m }) : s.Settles (s.setMotion h m) :=
  State.settles_of_one (fun _ other => s.setMotion_gate_ne m other) (by rwa [State.setMotion_gate_self])

theorem State.settles_sweep (gs : List GateId) {act : State → GateId → State} (one : ∀ (t : State) g, t.Settles (act t g))
    (s : State) : s.Settles (s.sweep gs act) := by
  unfold State.sweep
  induction gs generalizing s with
  | nil => exact .refl s
  | cons g gs ih => exact (one s g).trans (ih _)

/-! ### Marking -/

theorem Settings.mark_origin (k : Settings) (r : Request) : (k.mark r).origin = r.origin := by
  unfold Settings.mark
  split
  · rfl
  · split <;> rfl

theorem State.settles_markMasked (s : State) : s.Settles s.markMasked := by
  refine State.settles_sweep _ (fun t h => ?_) s
  unfold State.markOne
  split
  · rename_i r pending
    exact State.settles_setMotion (Gate.settles_of_pending pending
      (.inl ⟨_, rfl, t.settings.mark_toTarget r, t.settings.mark_origin r⟩))
  · exact .refl t

/-! ### A grant -/

theorem State.settles_restampAll (s : State) (f : Nat → Nat) : s.Settles (s.restampAll f) := by
  unfold State.restampAll
  exact State.settles_sweep allGates (fun t h => State.settles_setMotion ((t.gate h).settles_restamped f)) s

theorem State.settles_readyCounter (s : State) : s.Settles s.readyCounter := by
  unfold State.readyCounter
  split
  · exact .refl s
  · have same (g : GateId) : s.renumber.gate g =
        (s.restampAll fun x => (s.heldStamps.filter fun y => y < x).length + 1).gate g := by
      rw [State.renumber_eq]
      exact State.grants_gate _ _ g
    exact (s.settles_restampAll _).trans (State.settles_of_same same)

theorem State.fault_gate_ne (s : State) {g h : GateId} (r : HoldReason) (other : h ≠ g) :
    (s.fault g r).gate h = s.gate h := by
  have held (t : State) (d : Option Target) : (t.makeHold g r d).gate h = t.gate h := by
    rw [State.makeHold, State.postHeld, State.post_gate, State.setMotion_gate_ne _ _ other]
  have halted (d : Option Target) : (((s.haltGate g).makeHold g r d).releaseSlot).gate h = s.gate h :=
    (held (s.haltGate g) d).trans (s.haltGate_gate g h)
  unfold State.fault
  split
  · rfl
  · exact held s _
  · rw [State.postHeld, State.post_gate, State.leaveList_gate, State.setMotion_gate_ne _ _ other]
  · exact halted _
  · exact halted _
  · exact halted _
  · exact s.setMotion_gate_ne _ other

/-- The check for stale hoists leaves the gate as it is or holds it (R74, R116). -/
theorem State.faultIfStale_gate (s : State) (g : GateId) : (∀ h, h ≠ g → (s.faultIfStale g).gate h = s.gate h) ∧
    ((s.faultIfStale g).gate g = s.gate g ∨
      (s.faultIfStale g).gate g = { s.gate g with motion := (s.gate g).motion.faulted .stale }) := by
  have one (side : Side) (t : State) : let u := if (t.gate g).stale side then t.fault g .stale else t
      (∀ h, h ≠ g → u.gate h = t.gate h) ∧
        (u.gate g = t.gate g ∨ u.gate g = { t.gate g with motion := (t.gate g).motion.faulted .stale }) := by
    by_cases stale : (t.gate g).stale side = true
    · simp only [stale, if_true]
      exact ⟨fun h other => t.fault_gate_ne .stale other, .inr (t.fault_gate g .stale)⟩
    · simp only [stale, Bool.false_eq_true, if_false]
      exact ⟨fun _ _ => trivial, .inl trivial⟩
  obtain ⟨left, first⟩ := one .left s
  obtain ⟨right, second⟩ := one .right (if (s.gate g).stale .left then s.fault g .stale else s)
  refine ⟨fun h other => (right h other).trans (left h other), ?_⟩
  obtain same | held := second
  · exact first.imp same.trans same.trans
  · refine .inr (held.trans ?_)
    obtain same | again := first
    · rw [same]
    · rw [again]
      simp only [Motion.faulted_faulted]

theorem State.settles_grant {s : State} {h : GateId} {r q : Request} (p : Plan) (pending : (s.gate h).motion = .pending r)
    (target : q.toTarget = r.toTarget) (origin : q.origin = r.origin) : s.Settles (s.grant h q p) := by
  have ready := State.readyCounter_pending pending
  have granted : s.grant h q p =
      ((s.readyCounter.counted h).startLeg h q p (s.readyCounter.grantCounter + 1)).faultIfStale h := rfl
  obtain ⟨others, own⟩ := ((s.readyCounter.counted h).startLeg h q p (s.readyCounter.grantCounter + 1)).faultIfStale_gate h
  refine s.settles_readyCounter.trans (State.settles_of_one (h := h) (fun g other => ?_) ?_)
  · rw [granted, others g other, State.startLeg_gate, if_neg other, State.counted_gate]
  · rw [granted]
    rw [State.startLeg_gate, if_pos rfl, State.counted_gate] at own
    obtain started | held := own
    · rw [started]
      exact Gate.settles_of_pending ready (.inl ⟨q, rfl, target, origin⟩)
    · rw [held]
      exact Gate.settles_of_pending ready (.inr ⟨{ primary := .stale, further := [] }, by rw [← target]; rfl⟩)

/-! ### A request weighed -/

theorem State.completePending_gate_ne (s : State) {g h : GateId} (other : h ≠ g) :
    (s.completePending g).gate h = s.gate h := by
  have left : ((s.leaveList g .idle).postArrived g).gate h = s.gate h := by
    rw [State.postArrived_gate, State.leaveList_gate, State.setMotion_gate_ne _ _ other]
  unfold State.completePending State.excursionCheck State.actOnExcursion
  split
  · split
    · rw [State.setExcursion_gate, if_neg other, left]
    · split
      · rw [State.joinTail_gate, State.setMotion_gate_ne _ _ other, left]
      · split
        · exact left
        · rw [State.setExcursion_gate, if_neg other, State.post_gate, left]
  · exact left

theorem State.settles_completePending {s : State} {h : GateId} {r : Request} (pending : (s.gate h).motion = .pending r)
    (satisfied : (s.decideFor h r.target).decision = .satisfied) : s.Settles (s.completePending h) := by
  obtain ⟨o, opening, near⟩ := State.decideFor_satisfied satisfied
  exact State.settles_of_one (fun g other => s.completePending_gate_ne other)
    (Gate.settles_of_satisfied pending opening near _)

/-- The weighing of a request that waits, as the walk and the preemption test make it (R50, R89, R91). -/
theorem State.settles_weighed {s : State} {h : GateId} {r : Request} (pending : (s.gate h).motion = .pending r) :
    s.Settles ((s.weighPosted h r).setMotion h (.pending (s.weighed h r))) ∧
      (∀ p, s.Settles ((s.weighPosted h r).grant h (s.weighed h r) p)) ∧
      ((s.decideFor h r.target).decision = .satisfied → s.Settles ((s.weighPosted h r).completePending h)) := by
  have posted : s.Settles (s.weighPosted h r) := State.settles_of_same fun g => s.postSome_gate _ g
  have still : ((s.weighPosted h r).gate h).motion = .pending r := by
    rw [State.weighPosted, State.postSome_gate]
    exact pending
  refine ⟨posted.trans (State.settles_setMotion (Gate.settles_of_pending still (.inl ⟨_, rfl, rfl, rfl⟩))),
    fun p => posted.trans (State.settles_grant p still rfl rfl),
    fun satisfied => posted.trans (State.settles_completePending still ?_)⟩
  rw [State.weighPosted, (s.reach_postSome _).decideFor]
  exact satisfied

theorem State.settles_weighInWalk (s : State) (h : GateId) : s.Settles (s.weighInWalk h) := by
  by_cases pending : ∃ r, (s.gate h).motion = .pending r
  · obtain ⟨r, pending⟩ := pending
    obtain ⟨left, granted, completed⟩ := State.settles_weighed pending
    rw [State.weighInWalk_eq pending]
    split
    · exact granted _
    · exact completed ‹_›
    · exact left
  · unfold State.weighInWalk
    split
    · exact absurd ⟨_, ‹_›⟩ pending
    · exact .refl s

theorem State.weighForPreemption_eq {s : State} {g : GateId} {r : Request} (pending : (s.gate g).motion = .pending r) :
    (s.weighForPreemption g).1 = match (s.decideFor g r.target).decision with
      | .satisfied => (s.weighPosted g r).completePending g
      | _ => (s.weighPosted g r).setMotion g (.pending (s.weighed g r)) := by
  unfold State.weighForPreemption State.weighed State.weighPosted
  simp only [pending]
  rw [s.weigh_eq g r]
  cases (s.decideFor g r.target).decision <;> rfl

theorem State.weighForPreemption_of_not {s : State} {g : GateId} (none : ∀ r, (s.gate g).motion ≠ .pending r) :
    (s.weighForPreemption g).1 = s := by
  unfold State.weighForPreemption
  split
  · exact absurd ‹_› (none _)
  · rfl

theorem State.settles_weighForPreemption (s : State) (h : GateId) : s.Settles (s.weighForPreemption h).1 := by
  by_cases pending : ∃ r, (s.gate h).motion = .pending r
  · obtain ⟨r, pending⟩ := pending
    obtain ⟨left, -, completed⟩ := State.settles_weighed pending
    rw [State.weighForPreemption_eq pending]
    split
    · exact completed ‹_›
    · exact left
  · rw [State.weighForPreemption_of_not fun r e => pending ⟨r, e⟩]
    exact .refl s

/-! ### Walk, preemption and evaluation -/

theorem State.settles_walk (gs : List GateId) (s : State) : s.Settles (s.walk gs).1 := by
  induction gs generalizing s with
  | nil => exact .refl s
  | cons g gs ih =>
    unfold State.walk
    split
    · exact (s.settles_weighInWalk g).trans (ih _)
    · exact .refl s

theorem State.settles_movable (gs : List GateId) (s : State) : s.Settles (s.movable gs).1 := by
  induction gs generalizing s with
  | nil => exact .refl s
  | cons g gs ih => exact (s.settles_weighForPreemption g).trans (ih _)

theorem State.settles_preempt (s : State) (v b : GateId) : s.Settles (s.preempt v b) := by
  have stopped (r : Request) (l : Leg) (serves : (s.gate v).motion.Serves r) :
      s.Settles (s.enterStopping v (.requeue r) l) := by
    refine (State.settles_of_same fun g => s.haltGate_gate v g).trans (State.settles_setMotion ?_)
    rw [State.haltGate_gate]
    exact Gate.settles_of_serves serves ⟨rfl, rfl⟩
  have done {t : State} (h : s.Settles t) : s.Settles (t.post (.preempted v b)) :=
    h.trans (State.settles_of_same fun g => t.post_gate _ g)
  unfold State.preempt
  simp only
  split
  · rename_i r l w e
    exact done (stopped r l ⟨by rw [e]; rfl, by rw [e]; rfl⟩)
  · rename_i r l e
    exact done (stopped r l ⟨by rw [e]; rfl, by rw [e]; rfl⟩)
  · exact done (.refl s)

theorem State.settles_preemptFor (bs : List GateId) (s : State) : s.Settles (s.preemptFor bs) := by
  induction bs generalizing s with
  | nil => exact .refl s
  | cons b bs ih =>
    unfold State.preemptFor
    split
    · exact .refl s
    · exact (s.settles_preempt _ b).trans (ih _)

theorem State.settles_evaluate (s : State) (free : s.stopAsserted = false) : s.Settles s.evaluate := by
  have marked : s.Settles s.paid.markMasked :=
    (State.settles_of_same s.paid_gate).trans s.paid.settles_markMasked
  have walked := marked.trans (State.settles_walk s.paid.markMasked.walkOrder _)
  rw [State.evaluate_eq free]
  split
  · exact walked
  · exact walked.trans ((State.settles_movable _ _).trans (State.settles_preemptFor _ _))

theorem State.settles_evaluateDue (n : Nat) (s : State) (free : s.stopAsserted = false) :
    s.Settles (State.evaluateDue n s) := by
  induction n generalizing s with
  | zero => exact State.settles_of_same s.paid_gate
  | succ n ih =>
    unfold State.evaluateDue
    split
    · exact (s.settles_evaluate free).trans (ih _ (s.reach_evaluate.free free))
    · exact .refl s

/-- What the evaluations of an event keep of every gate (R88 to R91). -/
theorem State.settles_settle (s : State) (free : s.stopAsserted = false) : s.Settles s.settle :=
  s.settles_evaluateDue _ free

end Sys2Proof.Machine

/-! ## A request that waits above level 0 while no slot is free (R89, R91) -/

namespace Sys2Proof.Machine

/-! ### What is about other gates -/

/-- From `s` to `t` a gate stays as it is, stays in the pending list, and no slot is taken or given back. -/
structure State.Spares (g : GateId) (s t : State) : Prop where
  gate : t.gate g = s.gate g
  waiting : g ∈ s.waiting → g ∈ t.waiting
  slots : t.slotsInUse = s.slotsInUse

section
variable {g : GateId}

theorem State.Spares.refl (s : State) : State.Spares g s s := ⟨rfl, id, rfl⟩

theorem State.Spares.trans {s t u : State} (h : State.Spares g s t) (k : State.Spares g t u) : State.Spares g s u :=
  ⟨k.gate.trans h.gate, fun waits => k.waiting (h.waiting waits), k.slots.trans h.slots⟩

theorem State.ActsOn.spares {s t : State} {h : GateId} (acts : State.ActsOn h s t) (other : g ≠ h) : State.Spares g s t :=
  ⟨acts.others g other, fun waits => acts.waiting ▸ waits, acts.slots⟩

theorem State.spares_postSome (s : State) (n : Option Notice) : State.Spares g s (s.postSome n) :=
  ⟨by simp, by simp, by simp⟩

theorem State.spares_post (s : State) (n : Notice) : State.Spares g s (s.post n) := s.spares_postSome (some n)

theorem State.spares_joinTail (s : State) {h : GateId} (r : Request) (other : g ≠ h) : State.Spares g s (s.joinTail h r) :=
  ⟨by rw [State.joinTail_gate, State.setMotion_gate_ne _ _ other], fun waits => by simp [waits], by simp⟩

theorem State.spares_leaveList (s : State) {h : GateId} (m : Motion) (other : g ≠ h) :
    State.Spares g s (s.leaveList h m) :=
  ⟨by rw [State.leaveList_gate, State.setMotion_gate_ne _ _ other], fun waits => by simp [waits, other], by simp⟩

theorem State.spares_setExcursion (s : State) {h : GateId} (b : Bool) (other : g ≠ h) :
    State.Spares g s (s.setExcursion h b) :=
  ⟨by rw [State.setExcursion_gate, if_neg other], fun waits => by simpa using waits, by simp⟩

theorem State.spares_postArrived (s : State) (h : GateId) : State.Spares g s (s.postArrived h) := by
  unfold State.postArrived
  split
  · exact s.spares_post _
  · exact .refl s

theorem State.spares_excursionCheck (s : State) {h : GateId} (other : g ≠ h) : State.Spares g s (s.excursionCheck h) := by
  unfold State.excursionCheck State.actOnExcursion
  split
  · split
    · exact s.spares_setExcursion false other
    · split
      · exact s.spares_joinTail _ other
      · split
        · exact .refl s
        · exact (s.spares_post _).trans (State.spares_setExcursion _ true other)
  · exact .refl s

theorem State.spares_completePending (s : State) {h : GateId} (other : g ≠ h) : State.Spares g s (s.completePending h) :=
  ((s.spares_leaveList .idle other).trans (State.spares_postArrived _ h)).trans (State.spares_excursionCheck _ other)

theorem State.spares_weighForPreemption (s : State) {h : GateId} (other : g ≠ h) :
    State.Spares g s (s.weighForPreemption h).1 := by
  by_cases pending : ∃ r, (s.gate h).motion = .pending r
  · obtain ⟨r, pending⟩ := pending
    have posted : State.Spares g s (s.weighPosted h r) := s.spares_postSome _
    rw [State.weighForPreemption_eq pending]
    split
    · exact posted.trans (State.spares_completePending _ other)
    · exact posted.trans ((State.actsOn_setMotion _ _).spares other)
  · rw [State.weighForPreemption_of_not fun r e => pending ⟨r, e⟩]
    exact .refl s

theorem State.spares_movable (gs : List GateId) (others : ∀ h ∈ gs, g ≠ h) (s : State) :
    State.Spares g s (s.movable gs).1 := by
  induction gs generalizing s with
  | nil => exact .refl s
  | cons h gs ih =>
    exact (s.spares_weighForPreemption (others h List.mem_cons_self)).trans
      (ih (fun k listed => others k (List.mem_cons_of_mem h listed)) _)

/-- A gate that waits is no victim (R91, R92). -/
theorem State.spares_preempt {s : State} {r : Request} (pending : (s.gate g).motion = .pending r) (v b : GateId) :
    State.Spares g s (s.preempt v b) := by
  have stopped (q : Request) (l : Leg) (other : g ≠ v) : State.Spares g s (s.enterStopping v (.requeue q) l) :=
    (State.actsOn_enterStopping s _ l).spares other
  unfold State.preempt
  simp only
  refine State.Spares.trans ?_ (State.spares_post _ _)
  split
  · rename_i e
    exact stopped _ _ fun same => by subst same; rw [pending] at e; cases e
  · rename_i e
    exact stopped _ _ fun same => by subst same; rw [pending] at e; cases e
  · exact .refl s

theorem State.spares_preemptFor (bs : List GateId) {r : Request} {s : State} (pending : (s.gate g).motion = .pending r) :
    State.Spares g s (s.preemptFor bs) := by
  induction bs generalizing s with
  | nil => exact .refl s
  | cons b bs ih =>
    unfold State.preemptFor
    split
    · exact .refl s
    · have once := State.spares_preempt pending ‹_› b
      exact once.trans (ih (by rw [once.gate, pending]))

/-! ### The evaluations -/

/-- The gate waits with a request while no slot is free. -/
structure State.WaitsFull (s : State) (g : GateId) (q : Request) : Prop where
  full : s.settings.slots ≤ s.slotsInUse
  listed : g ∈ s.waiting
  pending : (s.gate g).motion = .pending q
  free : s.stopAsserted = false

theorem State.WaitsFull.of_spares {s t : State} {q : Request} (h : s.WaitsFull g q) (reach : s.Reach t)
    (spares : State.Spares g s t) : t.WaitsFull g q :=
  ⟨by rw [reach.settings, spares.slots]; exact h.full, spares.waiting h.listed, by rw [spares.gate, h.pending],
    reach.free h.free⟩

theorem State.WaitsFull.markMasked {s : State} {q : Request} (h : s.WaitsFull g q) :
    s.markMasked.WaitsFull g (s.settings.mark q) :=
  have marked := s.marks_markMasked
  ⟨by rw [s.reach_markMasked.settings, marked.slots]; exact h.full, marked.waiting ▸ h.listed,
    marked.marked g q h.listed h.pending, s.reach_markMasked.free h.free⟩

/-- The preemption test weighs level-0 requests alone (R91). -/
theorem State.WaitsFull.preemptionTest {s : State} {q : Request} (h : s.WaitsFull g q) (above : q.level ≠ 0)
    (gs : List GateId) : (s.preemptionTest gs).WaitsFull g q := by
  have others : ∀ k ∈ gs.filter (fun k => decide (s.pendingLevel k = some 0)), g ≠ k := by
    rintro k weighed rfl
    have zero := (List.mem_filter.mp weighed).2
    rw [State.pendingLevel_eq h.pending, decide_eq_true_eq, Option.some.injEq] at zero
    exact above zero
  have weighed := h.of_spares (State.reach_movable s _ h.free) (State.spares_movable _ others s)
  exact weighed.of_spares (State.reach_preemptFor _ _) (State.spares_preemptFor _ weighed.pending)

theorem State.WaitsFull.evaluate {s : State} {q : Request} (h : s.WaitsFull g q) (above : q.level ≠ 0) :
    s.evaluate.WaitsFull g (s.settings.mark q) := by
  have paid : s.paid.WaitsFull g q := ⟨h.full, h.listed, h.pending, h.free⟩
  have marked : s.paid.markMasked.WaitsFull g (s.settings.mark q) := paid.markMasked
  have full : s.paid.markMasked.slotFree = false := by simpa [State.slotFree] using marked.full
  rw [State.evaluate_eq h.free, State.walk_of_full full, if_neg (by simp [full])]
  exact marked.preemptionTest (by rwa [Settings.mark_level]) _

theorem State.WaitsFull.evaluateDue (n : Nat) {s : State} {q : Request} (h : s.WaitsFull g (s.settings.mark q))
    (above : q.level ≠ 0) : (State.evaluateDue n s).WaitsFull g (s.settings.mark q) := by
  induction n generalizing s with
  | zero => exact ⟨h.full, h.listed, h.pending, h.free⟩
  | succ n ih =>
    unfold State.evaluateDue
    split
    · have once := h.evaluate (by rwa [Settings.mark_level])
      have settings : s.evaluate.settings = s.settings := s.reach_evaluate.settings
      rw [Settings.mark_mark, ← settings] at once
      exact settings ▸ ih once
    · exact h

/-- The evaluations of an event only mark the request (R89). -/
theorem State.WaitsFull.settle {s : State} {q : Request} (h : s.WaitsFull g q) (due : s.evalDue = true)
    (above : q.level ≠ 0) : s.settle.WaitsFull g (s.settings.mark q) := by
  have settings : s.evaluate.settings = s.settings := s.reach_evaluate.settings
  have once := h.evaluate above
  rw [← settings] at once
  have settled : s.settle = State.evaluateDue 24 s.evaluate := by simp [State.settle, State.evaluateDue, due]
  rw [settled, ← settings]
  exact once.evaluateDue 24 above

end

end Sys2Proof.Machine

/-! ## GROUP SET at its named gates (R94, R95) -/

namespace Sys2Proof.Machine

/-! ### One command -/

theorem State.Reach.overflow {s t : State} (h : s.Reach t) (set : s.overflow = true) : t.overflow = true := by
  induction h with
  | refl => exact set
  | post m _ ih =>
    unfold State.post
    split
    · exact ih
    · rfl
  | pushPause b _ ih => rw [State.pushPause_eq]; exact ih
  | pushResume b _ ih => rw [State.pushResume_eq]; exact ih
  | _ => simpa using ‹_ = true›

/-- A notice posted is in the queue, or the overflow flag is set (R179, R180). -/
theorem State.post_mem (s : State) (n : Notice) :
    { notice := n, stamp := s.tideClock } ∈ (s.post n).notices ∨ (s.post n).overflow = true := by
  by_cases room : s.notices.length < 16
  · exact .inl (by simp [s.post_of_room n room])
  · exact .inr (by simp [s.post_of_full n room])

/-- From `s` to `t` commands are made: the pending list may grow, no slot is taken or given back, and an evaluation stays
owed. -/
structure State.Commands (s t : State) : Prop where
  reach : s.Reach t
  waiting : ∀ g, g ∈ s.waiting → g ∈ t.waiting
  slots : t.slotsInUse = s.slotsInUse
  due : s.evalDue = true → t.evalDue = true

theorem State.Commands.refl (s : State) : s.Commands s := ⟨.refl, fun _ => id, rfl, id⟩

theorem State.Commands.trans {s t u : State} (h : s.Commands t) (k : t.Commands u) : s.Commands u :=
  ⟨h.reach.trans k.reach, fun g waits => k.waiting g (h.waiting g waits), k.slots.trans h.slots, fun due => k.due (h.due due)⟩

/-- What a target does at a gate leaves the others as they are (R58). -/
theorem State.applyTarget_leaves (s : State) (g : GateId) (target level : Nat) (origin : Origin) :
    (∀ h, h ≠ g → (s.applyTarget g target level origin).gate h = s.gate h) ∧
      (∀ h, h ∈ s.waiting → h ∈ (s.applyTarget g target level origin).waiting) ∧
      (s.applyTarget g target level origin).slotsInUse = s.slotsInUse ∧
      (s.evalDue = true → (s.applyTarget g target level origin).evalDue = true) := by
  have acted {t : State} (acts : State.ActsOn g s t) : (∀ h, h ≠ g → t.gate h = s.gate h) ∧
      (∀ h, h ∈ s.waiting → h ∈ t.waiting) ∧ t.slotsInUse = s.slotsInUse ∧ (s.evalDue = true → t.evalDue = true) :=
    ⟨acts.others, fun _ waits => acts.waiting ▸ waits, acts.slots, fun due => acts.due.trans due⟩
  have set (m : Motion) := acted (s.actsOn_setMotion m)
  have joined (r : Request) : (∀ h, h ≠ g → (s.joinTail g r).gate h = s.gate h) ∧
      (∀ h, h ∈ s.waiting → h ∈ (s.joinTail g r).waiting) ∧ (s.joinTail g r).slotsInUse = s.slotsInUse ∧
      (s.evalDue = true → (s.joinTail g r).evalDue = true) :=
    ⟨fun h other => by rw [State.joinTail_gate, State.setMotion_gate_ne _ _ other], fun h waits => by simp [waits],
      by simp, fun _ => rfl⟩
  unfold State.applyTarget
  simp only
  split
  · exact set _
  · unfold State.takeIntoIdle
    split
    · split
      · exact acted ⟨by simp, by simp, by simp, by simp⟩
      · exact joined _
    · exact joined _
  · obtain ⟨others, waiting, slots, -⟩ := set (.pending _)
    exact ⟨others, waiting, slots, fun _ => rfl⟩
  · exact acted (State.actsOn_retargetMoving _ _ _ _ _)
  · exact acted (State.actsOn_retargetMoving _ _ _ _ _)
  · exact set _
  · exact set _
  · exact set _
  · exact set _
  · exact set _

theorem State.command_leaves (s : State) (g : GateId) (target level : Nat) (origin : Origin) (free : s.stopAsserted = false) :
    s.Commands (s.command g target level origin) ∧
      ∀ h, h ≠ g → (s.command g target level origin).gate h = s.gate h := by
  have reach := s.reach_command g target level origin free
  obtain ⟨others, waiting, slots, due⟩ :=
    (s.travelPosted g target).applyTarget_leaves g (min target (s.record g).fullTravel) level origin
  rw [← State.command_eq] at others waiting slots due
  exact ⟨⟨reach, fun h waits => waiting h (by simpa using waits), slots.trans (by simp), fun d => due (by simpa using d)⟩,
    fun h other => (others h other).trans (by simp)⟩

/-! ### All named gates -/

section
variable {target level : Nat}

theorem State.groupSet_refused {s : State} {g : GateId} (gs : List GateId) (refused : s.refusesGroup g level = true) :
    s.groupSet target level (g :: gs) =
      ((s.groupSet target level gs).1, (s.groupSet target level gs).2.1, g :: (s.groupSet target level gs).2.2) := by
  simp [State.groupSet, refused]

theorem State.groupSet_taken {s : State} {g : GateId} (gs : List GateId) (taken : s.refusesGroup g level = false) :
    s.groupSet target level (g :: gs) =
      (((s.command g target level .group).groupSet target level gs).1,
        g :: ((s.command g target level .group).groupSet target level gs).2.1,
        ((s.command g target level .group).groupSet target level gs).2.2) := by
  simp [State.groupSet, taken]

theorem State.refusesGroup_congr {s t : State} {g : GateId} (same : t.gate g = s.gate g) :
    t.refusesGroup g level = s.refusesGroup g level := by
  simp [State.refusesGroup, State.outrankedBy, same]

/-- A gate that the mask does not name, or that refuses, stays as it is (R95). -/
theorem State.groupSet_gate_of_not (gs : List GateId) {s : State} {g : GateId} (free : s.stopAsserted = false)
    (spared : g ∉ gs ∨ s.refusesGroup g level = true) : (s.groupSet target level gs).1.gate g = s.gate g := by
  induction gs generalizing s with
  | nil => rfl
  | cons h gs ih =>
    cases refused : s.refusesGroup h level with
    | true =>
      rw [State.groupSet_refused gs refused]
      exact ih free (spared.imp_left fun out listed => out (List.mem_cons_of_mem h listed))
    | false =>
      obtain ⟨commands, others⟩ := s.command_leaves h target level .group free
      have other : g ≠ h := by
        rintro rfl
        obtain out | refuses := spared
        · exact out List.mem_cons_self
        · simp [refuses] at refused
      have same := others g other
      rw [State.groupSet_taken gs refused]
      refine (ih (commands.reach.free free) ?_).trans same
      rw [State.refusesGroup_congr same]
      exact spared.imp_left fun out listed => out (List.mem_cons_of_mem h listed)

theorem State.groupSet_commands (gs : List GateId) {s : State} (free : s.stopAsserted = false) :
    s.Commands (s.groupSet target level gs).1 := by
  induction gs generalizing s with
  | nil => exact .refl s
  | cons h gs ih =>
    cases refused : s.refusesGroup h level with
    | true =>
      rw [State.groupSet_refused gs refused]
      exact ih free
    | false =>
      obtain ⟨commands, -⟩ := s.command_leaves h target level .group free
      rw [State.groupSet_taken gs refused]
      exact commands.trans (ih (commands.reach.free free))

/-- The two masks of the reply sort the named gates by what they are before the first command (R95). -/
theorem State.groupSet_masks (gs : List GateId) (distinct : gs.Nodup) {s : State} (free : s.stopAsserted = false) :
    (s.groupSet target level gs).2 =
      (gs.filter fun g => !s.refusesGroup g level, gs.filter fun g => s.refusesGroup g level) := by
  induction gs generalizing s with
  | nil => rfl
  | cons h gs ih =>
    obtain ⟨fresh, distinct⟩ := List.nodup_cons.mp distinct
    cases refused : s.refusesGroup h level with
    | true => simp [State.groupSet_refused gs refused, ih distinct free, refused]
    | false =>
      obtain ⟨commands, others⟩ := s.command_leaves h target level .group free
      have same : ∀ g ∈ gs, (s.command h target level .group).refusesGroup g level = s.refusesGroup g level :=
        fun g listed => State.refusesGroup_congr (others g fun e => fresh (e ▸ listed))
      have effect : gs.filter (fun g => !(s.command h target level .group).refusesGroup g level) =
          gs.filter fun g => !s.refusesGroup g level := List.filter_congr fun g listed => by rw [same g listed]
      rw [State.groupSet_taken gs refused, ih distinct (commands.reach.free free), effect, List.filter_congr same]
      simp [refused]

/-- In `u` a named gate is given the target as it was found in `s`, and `t` follows by commands at other gates. -/
structure State.Gives (s u t : State) (g : GateId) (target level : Nat) : Prop where
  found : s.Commands u
  same : u.gate g = s.gate g
  after : (u.command g target level .group).Commands t
  kept : t.gate g = (u.command g target level .group).gate g

/-- Each gate that takes the target takes it as it was found before the first command (R95). -/
theorem State.groupSet_gives (gs : List GateId) (distinct : gs.Nodup) {s : State} {g : GateId} (free : s.stopAsserted = false)
    (named : g ∈ gs) (takes : s.refusesGroup g level = false) :
    ∃ u, s.Gives u (s.groupSet target level gs).1 g target level := by
  induction gs generalizing s with
  | nil => cases named
  | cons h gs ih =>
    obtain ⟨fresh, distinct⟩ := List.nodup_cons.mp distinct
    by_cases own : g = h
    · subst own
      obtain ⟨commands, -⟩ := s.command_leaves g target level .group free
      have still := commands.reach.free free
      rw [State.groupSet_taken gs takes]
      exact ⟨s, .refl s, rfl, State.groupSet_commands gs still, State.groupSet_gate_of_not gs still (.inl fresh)⟩
    · have listed := (List.mem_cons.mp named).resolve_left own
      cases refused : s.refusesGroup h level with
      | true =>
        rw [State.groupSet_refused gs refused]
        exact ih distinct free listed takes
      | false =>
        obtain ⟨commands, others⟩ := s.command_leaves h target level .group free
        have same := others g own
        obtain ⟨u, gives⟩ := ih distinct (commands.reach.free free) listed ((State.refusesGroup_congr same).trans takes)
        rw [State.groupSet_taken gs refused]
        exact ⟨u, commands.trans gives.found, gives.same.trans same, gives.after, gives.kept⟩

end

end Sys2Proof.Machine

/-! ## GROUP SET (O47) -/

namespace Sys2Proof.Machine

/-! ### The request and its reply -/

theorem asksGroup.row {p : List Byte} {mask target level : Nat} (h : asksGroup p 1 mask target level) :
    requestRow 0x12#8 p = some .groupSet := by
  obtain ⟨m, n, hi, lo, -, -, ⟨rfl, -⟩ | ⟨lv, rfl, -⟩⟩ := h <;> rfl

theorem asksGroup.fields {p : List Byte} {mask target level : Nat} (h : asksGroup p 1 mask target level) :
    u16At p 0 = mask ∧ u16At p 3 = target ∧ groupLevel p = level := by
  obtain ⟨m, n, hi, lo, rfl, rfl, ⟨rfl, rfl⟩ | ⟨lv, rfl, rfl⟩⟩ := h <;> exact ⟨rfl, rfl, rfl⟩

theorem maskGates_nodup (mask : Nat) : (maskGates mask).Nodup := List.Nodup.filter _ (List.nodup_finRange 12)

theorem mem_maskGates {mask : Nat} {g : GateId} : g ∈ maskGates mask ↔ named mask g = true := by
  simp [maskGates, named, mem_allGates]

section
variable {s : State} {p : List Byte} {mask target level : Nat} {rest : List RxFrame}

/-- The state after the commands of a GROUP SET and before its one evaluation (R95). -/
def State.groupGiven (s : State) (mask target level : Nat) (rest : List RxFrame) : State :=
  ((s.taken rest).groupSet target level (maskGates mask)).1

theorem asksGroup.handled (asks : asksGroup p 1 mask target level) (found : s.HasRequest 0x12#8 p rest)
    (free : s.stopAsserted = false) :
    exec .groupSet s = .next ((s.groupGiven mask target level rest).settle.reply 0x12#8 .accepted 0
      (be16 (gatesMask ((maskGates mask).filter fun g => !s.refusesGroup g level)) ++
        be16 (gatesMask ((maskGates mask).filter fun g => s.refusesGroup g level)) ++ [byte level])) := by
  obtain ⟨atMask, atTarget, atLevel⟩ := asks.fields
  have masks := State.groupSet_masks (target := target) (level := level) (maskGates mask) (maskGates_nodup mask)
    (s := s.taken rest) free
  refine congrArg Host.Outcome.next ((found.takeStation asks.row fun t q => t.takeGroupSet q).trans ?_)
  show (s.taken rest).takeGroupSet p = _
  unfold State.takeGroupSet
  simp only [atMask, atTarget, atLevel, masks, State.taken_stopAsserted, free, Bool.false_eq_true, if_false]
  rfl

theorem State.groupGiven_commands (free : s.stopAsserted = false) :
    (s.taken rest).Commands (s.groupGiven mask target level rest) :=
  State.groupSet_commands (maskGates mask) (s := s.taken rest) free

/-- A gate refuses when it can keep no target, or its request is above the level (R95). -/
theorem State.refusesGroup_eq (s : State) (g : GateId) (level : Nat) : s.refusesGroup g level =
    ((s.gate g).motion.isOutOfService && (s.record g).leftHoist.isNone && (s.record g).rightHoist.isNone ||
      match (s.gate g).motion.request with
      | some r => decide (r.level < level)
      | none => false) := by
  unfold State.refusesGroup State.outrankedBy Gate.notDeferrable
  cases (s.gate g).motion.request with
  | none => rfl
  | some r => by_cases above : r.level < level <;> simp [above, State.record]

/-! ### From the command to the end of the evaluation -/

variable {u t : State} {g : GateId}

/-- The state in which a gate's target is applied. -/
def State.groupApplied (s u : State) (g : GateId) (target level : Nat) : State :=
  (u.travelPosted g target).applyTarget g (min target (s.record g).fullTravel) level .group

theorem State.Gives.command_eq (gives : (s.taken rest).Gives u t g target level) :
    u.command g target level .group = s.groupApplied u g target level := by
  have record : u.record g = s.record g := congrArg Gate.record gives.same
  rw [State.command_eq, record]
  rfl

theorem State.Gives.gate (gives : (s.taken rest).Gives u t g target level) :
    t.gate g = (s.groupApplied u g target level).gate g := by rw [gives.kept, gives.command_eq]

theorem State.Gives.posted_gate (gives : (s.taken rest).Gives u t g target level) :
    (u.travelPosted g target).gate g = s.gate g := by
  rw [State.travelPosted_gate, gives.same]
  rfl

theorem State.Gives.decides (gives : (s.taken rest).Gives u t g target level) (k : Nat) :
    (u.travelPosted g target).decideFor g k = s.decideFor g k :=
  ((gives.found.reach.trans (u.reach_travelPosted g target)).decideFor g k).trans (s.taken_decideFor rest g k)

theorem State.Gives.free (gives : (s.taken rest).Gives u t g target level) (free : s.stopAsserted = false) :
    t.stopAsserted = false :=
  gives.after.reach.free ((u.reach_command g target level .group (gives.found.reach.free free)).free
    (gives.found.reach.free free))

theorem State.Gives.stands (gives : (s.taken rest).Gives u t g target level) {m : Motion}
    (applied : ((s.groupApplied u g target level).gate g).motion = m) (stands : m.stands) :
    (t.settle.gate g).motion = m := by
  have passes : t.Passes g t.settle := State.passes_evaluateDue _ _
  have motion : (t.gate g).motion = m := by rw [gives.gate, applied]
  rw [passes.gate.standing (by rwa [motion]), motion]

theorem State.Gives.stops (gives : (s.taken rest).Gives u t g target level) {n : NextStep} {l : Leg} {k : Nat}
    (applied : ((s.groupApplied u g target level).gate g).motion = .stopping n l k) :
    ∃ l', (t.settle.gate g).motion = .stopping n l' k := by
  have passes : t.Passes g t.settle := State.passes_evaluateDue _ _
  obtain ⟨stamp, motion⟩ := passes.gate.stopping n l k (by rw [gives.gate, applied])
  exact ⟨_, motion⟩

theorem State.Gives.settles (gives : (s.taken rest).Gives u t g target level) (free : s.stopAsserted = false) :
    ((s.groupApplied u g target level).gate g).Settles (t.settle.gate g) := by
  have settles := t.settles_settle (gives.free free) g
  rwa [gives.gate] at settles

/-- The gate has taken the target of the GROUP as a request. -/
def State.TakesGroup (s : State) (g : GateId) (target level : Nat) (q : Request) : Prop :=
  q.target = min target (s.record g).fullTravel ∧ q.level = level ∧ q.origin = .group

/-- A request that is served is served on (R66 to R69, R91). -/
theorem State.Gives.serves (gives : (s.taken rest).Gives u t g target level) (free : s.stopAsserted = false) {q : Request}
    (applied : ((s.groupApplied u g target level).gate g).motion.Serves q) (takes : s.TakesGroup g target level q) :
    ∃ q, (t.settle.gate g).motion.request = some q ∧ s.TakesGroup g target level q :=
  ⟨q, ((gives.settles free).serving q applied).1, takes⟩

/-- A request that is not satisfied is granted, sent back, or waits on, or a hold keeps its target (R74, R89, R91). -/
theorem State.Gives.asks (gives : (s.taken rest).Gives u t g target level) (free : s.stopAsserted = false) {q : Request}
    (applied : (s.groupApplied u g target level).gate g = { s.gate g with motion := .pending q })
    (takes : s.TakesGroup g target level q)
    (far : ∀ o, (s.gate g).opening = some o →
      (s.record g).arriveTol < distance (min target (s.record g).fullTravel) o) :
    (∃ q, (t.settle.gate g).motion.request = some q ∧ s.TakesGroup g target level q) ∨
      ∃ h, (t.settle.gate g).motion = .hold h (some { target := min target (s.record g).fullTravel, level := level }) := by
  obtain ⟨atTarget, atLevel, origin⟩ := takes
  have kept : q.toTarget = { target := min target (s.record g).fullTravel, level := level } := by
    rw [Request.toTarget, atTarget, atLevel]
  have asked : ((s.groupApplied u g target level).gate g).Asks
      { target := min target (s.record g).fullTravel, level := level } .group := by
    rw [applied]
    exact ⟨far, .inl ⟨q, rfl, kept, origin⟩⟩
  obtain ⟨-, ⟨r, request, same, origin⟩ | held⟩ := (gives.settles free).asking _ _ asked
  · exact .inl ⟨r, request, congrArg Target.target same, congrArg Target.level same, origin⟩
  · exact .inr held

/-- With no slot free a request above level 0 is only marked (R89). -/
theorem State.Gives.waits (gives : (s.taken rest).Gives u t g target level) (free : s.stopAsserted = false) {q : Request}
    (applied : ((s.groupApplied u g target level).gate g).motion = .pending q)
    (listed : g ∈ (s.groupApplied u g target level).waiting) (due : (s.groupApplied u g target level).evalDue = true)
    (full : s.settings.slots ≤ s.slotsInUse) (above : q.level ≠ 0) :
    (t.settle.gate g).motion = .pending (s.settings.mark q) := by
  have still := gives.found.reach.free free
  obtain ⟨commands, -⟩ := u.command_leaves g target level .group still
  have all := (gives.found.trans commands).trans gives.after
  have settings : t.settings = s.settings := all.reach.settings
  have slots : t.slotsInUse = s.slotsInUse := all.slots
  have after := gives.after
  rw [gives.command_eq] at after
  have waits : t.WaitsFull g q :=
    ⟨by rwa [settings, slots], after.waiting g listed, by rw [gives.gate, applied], gives.free free⟩
  have marked := (waits.settle (after.due due) above).pending
  rwa [settings] at marked

end

end Sys2Proof.Machine

/-! ## GROUP SET by the state of each gate (O47) -/

namespace Sys2Proof.Machine

section
variable {s u t : State} {g : GateId} {target level : Nat} {rest : List RxFrame}

/-! ### Gates that store the target, and gates that stop -/

theorem State.groupApplied_motion {m : Motion}
    (set : s.groupApplied u g target level = (u.travelPosted g target).setMotion g m) :
    ((s.groupApplied u g target level).gate g).motion = m := by
  rw [set, State.setMotion_gate_self]

/-- The target applied, by the motion the gate was found in (R58, R70). -/
theorem State.Gives.applied (gives : (s.taken rest).Gives u t g target level) :
    let kept : Target := { target := min target (s.record g).fullTravel, level := level }
    let w := u.travelPosted g target
    (∀ d, (s.gate g).motion = .outOfService d →
      s.groupApplied u g target level = w.setMotion g (.outOfService (some kept))) ∧
    (∀ h d, (s.gate g).motion = .hold h d → s.groupApplied u g target level = w.setMotion g (.hold h (some kept))) ∧
    (∀ c l k, (s.gate g).motion = .stopping (.outOfService c) l k →
      s.groupApplied u g target level = w.setMotion g (.stopping (.outOfService (some kept)) l k)) ∧
    (∀ l k, (s.gate g).motion = .stopping .idle l k → s.groupApplied u g target level =
      w.setMotion g (.stopping (.restartLeg (.fresh kept.target level .group)) l k)) ∧
    (∀ r l k, (s.gate g).motion = .stopping (.restartLeg r) l k → s.groupApplied u g target level =
      w.setMotion g (.stopping (.restartLeg (r.replaced kept.target level .group)) l k)) ∧
    (∀ r l k, (s.gate g).motion = .stopping (.requeue r) l k → s.groupApplied u g target level =
      w.setMotion g (.stopping (.requeue (r.replaced kept.target level .group)) l k)) := by
  have gate := gives.posted_gate
  refine ⟨fun d e => ?_, fun h d e => ?_, fun c l k e => ?_, fun l k e => ?_, fun r l k e => ?_, fun r l k e => ?_⟩ <;>
    simp only [State.groupApplied, State.applyTarget, gate, e]

/-! ### IDLE gates -/

theorem State.Gives.near {o : Nat} (gives : (s.taken rest).Gives u t g target level) (free : s.stopAsserted = false)
    (idle : (s.gate g).motion = .idle) (opening : (s.gate g).opening = some o)
    (near : distance (min target (s.record g).fullTravel) o ≤ (s.record g).arriveTol) :
    (t.settle.gate g).motion = .idle ∧
      ({ notice := .arrived g o, stamp := s.tideClock } ∈ t.settle.notices ∨ t.settle.overflow = true) := by
  have gate := gives.posted_gate
  have record : (u.travelPosted g target).record g = s.record g := congrArg Gate.record gate
  have posted : s.groupApplied u g target level = (u.travelPosted g target).post (.arrived g o) :=
    State.applyTarget_near (by rw [gate, idle]) (by rw [gate, opening]) (by rwa [record])
  have clock : (u.travelPosted g target).tideClock = s.tideClock :=
    (gives.found.reach.trans (u.reach_travelPosted g target)).tideClock
  have after := gives.after.reach.trans t.reach_settle
  rw [gives.command_eq, posted] at after
  refine ⟨(gives.settles free).idle ?_, ?_⟩
  · rw [posted, State.post_gate, gate, idle]
  · rw [← clock]
    exact ((u.travelPosted g target).post_mem (.arrived g o)).imp after.notices after.overflow

/-- The GROUP's request of a gate that had none (R60). -/
theorem State.Gives.far (gives : (s.taken rest).Gives u t g target level) (idle : (s.gate g).motion = .idle)
    (far : ∀ o, (s.gate g).opening = some o →
      (s.record g).arriveTol < distance (min target (s.record g).fullTravel) o) :
    s.groupApplied u g target level =
      (u.travelPosted g target).joinTail g (.fresh (min target (s.record g).fullTravel) level .group) := by
  have gate := gives.posted_gate
  have record : (u.travelPosted g target).record g = s.record g := congrArg Gate.record gate
  exact State.applyTarget_far (by rw [gate, idle]) (by rwa [record, gate])

/-- The GROUP's request in the place of one that waits (R59). -/
theorem State.Gives.pending {r : Request} (gives : (s.taken rest).Gives u t g target level)
    (pending : (s.gate g).motion = .pending r) :
    s.groupApplied u g target level = ((u.travelPosted g target).setMotion g
      (.pending (r.replaced (min target (s.record g).fullTravel) level .group))).owe :=
  State.applyTarget_pending (by rw [gives.posted_gate, pending])

/-! ### Moving gates -/

/-- The GROUP's request at a moving gate, weighed (R50, R59, R66). -/
def State.groupWeighed (s u : State) (g : GateId) (target level : Nat) (r : Request) : Request :=
  (u.travelPosted g target).weighed g (r.replaced (min target (s.record g).fullTravel) level .group)

theorem State.groupWeighed_takes (s u : State) (g : GateId) (target level : Nat) (r : Request) :
    s.TakesGroup g target level (s.groupWeighed u g target level r) := ⟨rfl, rfl, rfl⟩

theorem movingWith_serves (r : Request) (l : Leg) (window : Option Nat) : (movingWith r l window).Serves r := by
  cases window <;> exact ⟨rfl, rfl⟩

theorem State.goOn_serves (s : State) (g : GateId) (r : Request) (l : Leg) (window : Option Nat) (p : Plan) :
    ((s.goOn g r l window p).gate g).motion.Serves r := by
  rw [State.goOn_motion]
  cases (s.record g).handshake <;> cases window <;> exact ⟨rfl, rfl⟩

theorem State.enterStopping_motion (s : State) (g : GateId) (next : NextStep) (l : Leg) :
    ∃ l' k, ((s.enterStopping g next l).gate g).motion = .stopping next l' k :=
  ⟨_, _, (s.stopped_enterStopping g next l).motion⟩

/-- The motion of a moving gate that takes the target, by the decision on it (R66 to R68). -/
theorem State.Gives.moving {r : Request} {l : Leg} {window : Option Nat} (gives : (s.taken rest).Gives u t g target level)
    (moving : (s.gate g).motion = movingWith r l window) :
    let m := ((s.groupApplied u g target level).gate g).motion
    let q := s.groupWeighed u g target level r
    match (s.decideFor g (min target (s.record g).fullTravel)).decision with
      | .satisfied => ∃ l' k, m = .stopping (.restartLeg q) l' k
      | .blocked (some _) => ∃ l' k, m = .stopping (.requeue q) l' k
      | .blocked none => m.Serves q
      | .legNeeded p => if p.direction = l.direction then m.Serves q else ∃ l' k, m = .stopping (.restartLeg q) l' k := by
  have retargeted : s.groupApplied u g target level = (u.travelPosted g target).retargetMoving g
      (r.replaced (min target (s.record g).fullTravel) level .group) l window :=
    State.applyTarget_moving (by rw [gives.posted_gate, moving])
  have decides := gives.decides (min target (s.record g).fullTravel)
  simp only [retargeted, State.retargetMoving_eq, State.groupWeighed]
  simp only [Request.replaced, decides]
  cases (s.decideFor g (min target (s.record g).fullTravel)).decision with
  | satisfied => exact State.enterStopping_motion _ _ _ _
  | blocked term =>
    cases term with
    | some reason => exact State.enterStopping_motion _ _ _ _
    | none =>
      simp only [State.setMotion_gate_self]
      exact movingWith_serves _ _ _
  | legNeeded p =>
    by_cases direction : p.direction = l.direction
    · simp only [direction, if_true]
      split
      · simp only [State.setMotion_gate_self]
        exact movingWith_serves _ _ _
      · exact State.goOn_serves _ _ _ _ _ _
    · simp only [direction, if_false]
      exact State.enterStopping_motion _ _ _ _

/-- A gate that moves by its motion (R16). -/
theorem moves_movingWith {m : Motion} {r : Request} {l : Leg} (h : (∃ k, m = .starting r l k) ∨ m = .travelling r l) :
    ∃ window, m = movingWith r l window := by
  obtain ⟨k, e⟩ | e := h
  · exact ⟨some k, e⟩
  · exact ⟨none, e⟩

/-! ### The outcomes at a gate -/

/-- A moving gate that takes the target stops for it, or goes on with it (R66 to R68). -/
theorem State.Gives.movingOutcome {r : Request} {l : Leg} (gives : (s.taken rest).Gives u t g target level)
    (free : s.stopAsserted = false) (moving : (∃ k, (s.gate g).motion = .starting r l k) ∨ (s.gate g).motion = .travelling r l) :
    let w := s.decideFor g (min target (s.record g).fullTravel)
    let stopsFor (next : Request → NextStep) : Prop :=
      ∃ q l k, (t.settle.gate g).motion = .stopping (next q) l k ∧ s.TakesGroup g target level q
    let served : Prop := ∃ q, (t.settle.gate g).motion.request = some q ∧ s.TakesGroup g target level q
    (w.decision = .satisfied → stopsFor .restartLeg) ∧
      (∀ term, w.decision = .blocked (some term) → stopsFor .requeue) ∧
      (w.decision = .blocked none → served) ∧
      ∀ p, w.decision = .legNeeded p →
        (p.direction ≠ l.direction → stopsFor .restartLeg) ∧ (p.direction = l.direction → served) := by
  obtain ⟨window, moving⟩ := moves_movingWith moving
  have outcome := gives.moving moving
  have takes := s.groupWeighed_takes u g target level r
  have stopped (next : Request → NextStep)
      (stops : ∃ l' k, ((s.groupApplied u g target level).gate g).motion =
        .stopping (next (s.groupWeighed u g target level r)) l' k) :
      ∃ q l k, (t.settle.gate g).motion = .stopping (next q) l k ∧ s.TakesGroup g target level q := by
    obtain ⟨l', k, applied⟩ := stops
    obtain ⟨l'', motion⟩ := gives.stops applied
    exact ⟨_, l'', k, motion, takes⟩
  simp only at outcome
  refine ⟨fun satisfied => ?_, fun term blocked => ?_, fun blocked => ?_, fun p needed => ⟨fun turns => ?_, fun same => ?_⟩⟩
  · rw [satisfied] at outcome
    exact stopped .restartLeg outcome
  · rw [blocked] at outcome
    exact stopped .requeue outcome
  · rw [blocked] at outcome
    exact gives.serves free outcome takes
  · rw [needed] at outcome
    exact stopped .restartLeg ((if_neg turns).mp outcome)
  · rw [needed] at outcome
    exact gives.serves free ((if_pos same).mp outcome) takes

/-- A gate that stops keeps the target for the end of its stop (R70). -/
theorem State.Gives.stoppingOutcome (gives : (s.taken rest).Gives u t g target level) :
    let kept : Target := { target := min target (s.record g).fullTravel, level := level }
    (∀ c l k, (s.gate g).motion = .stopping (.outOfService c) l k →
      ∃ l', (t.settle.gate g).motion = .stopping (.outOfService (some kept)) l' k) ∧
    (∀ l k, (s.gate g).motion = .stopping .idle l k →
      ∃ l', (t.settle.gate g).motion = .stopping (.restartLeg (.fresh kept.target level .group)) l' k) ∧
    (∀ r l k, (s.gate g).motion = .stopping (.restartLeg r) l k →
      ∃ l', (t.settle.gate g).motion = .stopping (.restartLeg (r.replaced kept.target level .group)) l' k) ∧
    (∀ r l k, (s.gate g).motion = .stopping (.requeue r) l k →
      ∃ l', (t.settle.gate g).motion = .stopping (.requeue (r.replaced kept.target level .group)) l' k) := by
  obtain ⟨-, -, leaves, idle, restart, requeue⟩ := gives.applied
  exact ⟨fun c l k e => gives.stops (State.groupApplied_motion (leaves c l k e)),
    fun l k e => gives.stops (State.groupApplied_motion (idle l k e)),
    fun r l k e => gives.stops (State.groupApplied_motion (restart r l k e)),
    fun r l k e => gives.stops (State.groupApplied_motion (requeue r l k e))⟩

/-- A target taken into an IDLE gate that is outside tolerance (R60, R89). -/
theorem State.Gives.farOutcome (gives : (s.taken rest).Gives u t g target level) (free : s.stopAsserted = false)
    (idle : (s.gate g).motion = .idle)
    (far : ∀ o, (s.gate g).opening = some o →
      (s.record g).arriveTol < distance (min target (s.record g).fullTravel) o) :
    ((∃ q, (t.settle.gate g).motion.request = some q ∧ s.TakesGroup g target level q) ∨
      ∃ h, (t.settle.gate g).motion = .hold h (some { target := min target (s.record g).fullTravel, level := level })) ∧
    (s.settings.slots ≤ s.slotsInUse → 0 < level → (t.settle.gate g).motion =
      .pending (s.settings.mark (.fresh (min target (s.record g).fullTravel) level .group))) := by
  have joined := gives.far idle far
  have applied : (s.groupApplied u g target level).gate g =
      { s.gate g with motion := .pending (.fresh (min target (s.record g).fullTravel) level .group) } := by
    rw [joined, State.joinTail_gate, State.setMotion_gate_self, gives.posted_gate]
  refine ⟨gives.asks free applied ⟨rfl, rfl, rfl⟩ far, fun full above => gives.waits free (by rw [applied]) ?_ ?_ full above.ne'⟩
  · rw [joined, State.joinTail_waiting]
    exact List.mem_append_right _ List.mem_cons_self
  · rw [joined]
    rfl

/-- A request that waits replaced by the GROUP's (R59, R89). -/
theorem State.Gives.pendingOutcome {r : Request} (gives : (s.taken rest).Gives u t g target level)
    (free : s.stopAsserted = false) (pending : (s.gate g).motion = .pending r) :
    ((∀ o, (s.gate g).opening = some o →
        (s.record g).arriveTol < distance (min target (s.record g).fullTravel) o) →
      (∃ q, (t.settle.gate g).motion.request = some q ∧ s.TakesGroup g target level q) ∨
        ∃ h, (t.settle.gate g).motion = .hold h (some { target := min target (s.record g).fullTravel, level := level })) ∧
    (g ∈ s.waiting → s.settings.slots ≤ s.slotsInUse → 0 < level → (t.settle.gate g).motion =
      .pending (s.settings.mark (r.replaced (min target (s.record g).fullTravel) level .group))) := by
  have replaced := gives.pending pending
  have applied : (s.groupApplied u g target level).gate g =
      { s.gate g with motion := .pending (r.replaced (min target (s.record g).fullTravel) level .group) } := by
    rw [replaced, State.owe_gate, State.setMotion_gate_self, gives.posted_gate]
  refine ⟨gives.asks free applied ⟨rfl, rfl, rfl⟩,
    fun listed full above => gives.waits free (by rw [applied]) ?_ ?_ full above.ne'⟩
  · rw [replaced, State.owe_waiting, State.setMotion_waiting, State.travelPosted_waiting]
    exact gives.found.waiting g listed
  · rw [replaced]
    rfl

theorem State.taken_refusesGroup (s : State) (rest : List RxFrame) (g : GateId) (level : Nat) :
    (s.taken rest).refusesGroup g level = s.refusesGroup g level := rfl

/-- A gate out of service that refuses the target stays as it is (R95). -/
theorem State.groupGiven_standing {mask : Nat} (free : s.stopAsserted = false)
    (refused : (s.taken rest).refusesGroup g level = true) (out : (s.gate g).motion.isOutOfService = true) :
    (s.groupGiven mask target level rest).settle.gate g = s.gate g := by
  have spared : (s.groupGiven mask target level rest).gate g = s.gate g :=
    State.groupSet_gate_of_not (maskGates mask) (s := s.taken rest) free (.inr refused)
  have passes : (s.groupGiven mask target level rest).Passes g (s.groupGiven mask target level rest).settle :=
    State.passes_evaluateDue _ _
  have stands : (s.gate g).motion.stands := by
    cases e : (s.gate g).motion with
    | outOfService => trivial
    | _ => simp [e, Motion.isOutOfService] at out
  rw [passes.gate.standing (by rwa [spared]), spared]

end

/-- Settles O47: each gate that takes the target takes it as it was found (`State.groupSet_gives`), and what the one
evaluation makes of it is known by its motion (`State.Gives`). -/
theorem groupSetSortsTheNamedGates : Obligations.GroupSetSortsTheNamedGates := by
  unfold Obligations.GroupSetSortsTheNamedGates
  intro s payload mask target level rest found asks free
  have commands := State.groupGiven_commands (mask := mask) (target := target) (level := level) (rest := rest) free
  have replies : (s.groupGiven mask target level rest).settle.replies = s.replies :=
    (commands.reach.trans (State.reach_settle _)).replies
  have refuses (g : GateId) := s.refusesGroup_eq g level
  refine ⟨_, asks.handled found free, ?_, fun g undeferrable => ?_, fun g effect => ?_⟩
  · rw [State.reply_replies, replies]
    simp only [maskGates, List.filter_filter, refuses, named, Bool.and_comm]
    rfl
  · have refused : (s.taken rest).refusesGroup g level = true := by
      rw [State.taken_refusesGroup, refuses]
      exact Bool.or_eq_true_iff.mpr (.inl undeferrable)
    have out : (s.gate g).motion.isOutOfService = true :=
      (Bool.and_eq_true_iff.mp (Bool.and_eq_true_iff.mp undeferrable).1).1
    exact congrArg Gate.motion (State.groupGiven_standing free refused out)
  · obtain ⟨-, effect⟩ := List.mem_filter.mp effect
    obtain ⟨listed, takes⟩ := Bool.and_eq_true_iff.mp effect
    have takes : (s.taken rest).refusesGroup g level = false := by
      rw [State.taken_refusesGroup, refuses]
      exact (Bool.not_eq_true' _).mp takes
    obtain ⟨u, gives⟩ := State.groupSet_gives (target := target) (maskGates mask) (maskGates_nodup mask) (s := s.taken rest)
      free (mem_maskGates.mpr listed) takes
    obtain ⟨stored, held, -⟩ := gives.applied
    obtain ⟨leaves, idles, restarts, requeues⟩ := gives.stoppingOutcome
    have marked (r : Request) (masked : s.Masked r.level) := State.mark_of_masked (s := s) (r := r) masked
    have unmarked (r : Request) (unmasked : ¬ s.Masked r.level) := State.mark_of_unmasked (s := s) (r := r) unmasked
    refine ⟨fun d e => gives.stands (State.groupApplied_motion (stored d e)) trivial,
      fun h d e => gives.stands (State.groupApplied_motion (held h d e)) trivial, leaves, idles, restarts, requeues,
      fun idle => ⟨fun o opening near => gives.near free idle opening near, fun far => ?_⟩, fun r pending => ?_,
      fun r l moving => gives.movingOutcome free moving⟩
    · obtain ⟨asked, waits⟩ := gives.farOutcome free idle far
      refine ⟨asked, fun ⟨full, above⟩ => ⟨fun masked => (waits full above).trans ?_,
        fun unmasked => (waits full above).trans ?_⟩⟩
      · rw [marked _ masked]
        rfl
      · rw [unmarked _ unmasked]
        rfl
    · obtain ⟨asked, waits⟩ := gives.pendingOutcome free pending
      refine ⟨asked, fun queued ⟨full, above⟩ => ⟨fun masked => (waits queued full above).trans ?_,
        fun unmasked => (waits queued full above).trans ?_⟩⟩
      · rw [marked _ masked]
        rfl
      · rw [unmarked _ unmasked]
        rfl

end Sys2Proof.Machine

/-! ## Every step keeps FAULT_N on the holds, the holds sound, and no evaluation owed (R56, R75, R79, R88) -/

namespace Sys2Proof.Machine

/-! ### What a change keeps -/

/-- From `s` to `t` FAULT_N still shows the holds (R79), and the holds are still sound (R75). -/
structure State.Upholds (s t : State) : Prop where
  fault : s.FaultShown → t.FaultShown
  holds : s.HoldsSound → t.HoldsSound

/-- An event from `s` to `t`: no evaluation that it owes is left (R56, R88). -/
structure State.Concludes (s t : State) : Prop extends s.Upholds t where
  paid : s.evalDue = false → t.evalDue = false

theorem State.faultShown_iff (s : State) : s.FaultShown ↔ s.faultN = holdPresent s.gates := by
  have present : holdPresent s.gates = true ↔ ∃ g, (s.gate g).motion.isHold = true := by
    refine ⟨fun held => ?_, fun ⟨_, held⟩ => holdPresent_of_isHold held⟩
    obtain ⟨g, -, held⟩ := List.any_eq_true.mp held
    exact ⟨g, held⟩
  unfold State.FaultShown
  rw [← present, ← Bool.eq_iff_iff]

theorem State.holdsSound_iff (s : State) : s.HoldsSound ↔ ∀ g, (s.gate g).motion.holdSound := by
  refine ⟨fun sound g => ?_, fun sound g h d held => by simpa [held, Motion.holdSound] using sound g⟩
  cases e : (s.gate g).motion with
  | hold h d => exact sound g h d e
  | _ => trivial

theorem State.Upholds.refl (s : State) : s.Upholds s := ⟨id, id⟩

theorem State.Upholds.trans {s t u : State} (h : s.Upholds t) (k : t.Upholds u) : s.Upholds u :=
  ⟨k.fault ∘ h.fault, k.holds ∘ h.holds⟩

theorem State.Concludes.refl (s : State) : s.Concludes s := ⟨.refl s, id⟩

theorem State.Concludes.trans {s t u : State} (h : s.Concludes t) (k : t.Concludes u) : s.Concludes u :=
  ⟨h.toUpholds.trans k.toUpholds, k.paid ∘ h.paid⟩

theorem State.Concludes.of_same {s t : State} (gates : t.gates = s.gates) (faultN : t.faultN = s.faultN)
    (due : t.evalDue = s.evalDue) : s.Concludes t where
  fault shown := by rwa [State.faultShown_iff, gates, faultN, ← State.faultShown_iff]
  holds sound := by
    rw [State.holdsSound_iff] at sound ⊢
    simpa only [State.gate, gates] using sound
  paid := due ▸ id

theorem State.Reach.upholds {s t : State} (h : s.Reach t) : s.Upholds t where
  fault shown := t.faultShown_iff.mpr (h.faultN (s.faultShown_iff.mp shown))
  holds sound := by
    rw [State.holdsSound_iff] at sound ⊢
    induction h with
    | refl => exact sound
    | @setMotion t g m _ kept _ ih =>
      intro k
      rw [State.setMotion_gate]
      split
      · exact kept (ih g)
      · exact ih k
    | @setExcursion t g b _ ih =>
      intro k
      rw [State.setExcursion_gate]
      split
      · exact ih g
      · exact ih k
    | counts _ _ _ _ _ ih => exact ih
    | _ => simpa using ‹∀ _, _›

theorem State.Upholds.settle {s t : State} (h : s.Upholds t) : s.Concludes t.settle :=
  ⟨h.trans t.reach_settle.upholds, fun _ => t.settle_evalDue⟩

theorem State.Upholds.evaluateNow {s t : State} (h : s.Upholds t) : s.Concludes t.evaluateNow :=
  (h.trans t.reach_owe.upholds).settle

/-- An event of the Sequencer, with the evaluations that it owes. -/
theorem State.Reach.concludes {s t : State} (h : s.Reach t) : s.Concludes t.settle := h.upholds.settle

/-- A chain that owes no evaluation. -/
theorem State.Reach.concludes_paid {s t : State} (h : s.Reach t) (due : t.evalDue = s.evalDue) : s.Concludes t :=
  ⟨h.upholds, due ▸ id⟩

theorem State.concludes_setGate (s : State) (g : GateId) {x : Gate}
    (sound : (s.gate g).motion.holdSound → x.motion.holdSound) : s.Concludes (s.setGate g x) where
  fault _ := (State.faultShown_iff _).mpr rfl
  holds k := by
    rw [State.holdsSound_iff] at k ⊢
    intro h
    rw [State.setGate_gate]
    split
    · exact sound (k g)
    · exact k h
  paid := id

theorem State.concludes_sweep (s : State) (gs : List GateId) {act : State → GateId → State}
    (one : ∀ (t : State) g, t.Concludes (act t g)) : s.Concludes (s.sweep gs act) := by
  unfold State.sweep
  induction gs generalizing s with
  | nil => exact .refl s
  | cons g gs ih => exact (one s g).trans (ih _)

/-! ### Counters, replies and notices -/

section
variable (s : State)

theorem State.concludes_reply (k : Byte) (r : Result) (d : Nat) (l : List Byte) : s.Concludes (s.reply k r d l) :=
  .of_same rfl rfl rfl

theorem State.concludes_count (port : Port) (n : CounterName) : s.Concludes (s.count port n) :=
  .of_same (by simp) (by simp) (by simp)

theorem State.concludes_post (n : Notice) : s.Concludes (s.post n) := .of_same (by simp) (by simp) (by simp)

theorem State.concludes_postAll (ns : List Notice) : s.Concludes (s.postAll ns) := by
  unfold State.postAll
  induction ns generalizing s with
  | nil => exact .refl s
  | cons n ns ih => exact (s.concludes_post n).trans (ih _)

theorem State.concludes_joinDown (f : Frame) : s.Concludes (s.joinDown f) := by
  unfold State.joinDown
  split
  · exact State.Concludes.trans (t := { s with downQueue := s.downQueue ++ [f] }) (.of_same rfl rfl rfl)
      (State.concludes_count _ _ _)
  · exact s.concludes_count _ _

theorem State.concludes_joinUp (f : Frame) : s.Concludes (s.joinUp f) := by
  unfold State.joinUp
  split
  · exact State.Concludes.trans (t := { s with upQueue := s.upQueue ++ [f] }) (.of_same rfl rfl rfl)
      (State.concludes_count _ _ _)
  · exact s.concludes_count _ _

theorem State.concludes_misroute (port : Port) (f : RxFrame) : s.Concludes (s.misroute port f) := by
  have counted := s.concludes_count port .misroutes
  unfold State.misroute
  simp only
  split
  · exact counted
  · exact (counted.trans (.of_same (by rfl) (by rfl) (by rfl))).trans (State.concludes_post _ _)

/-! ### The Frame Sorter, the receivers and the transmitters -/

theorem State.concludes_sortDirect (f : Frame) (g : GateId) (side : Side) : s.Concludes (s.sortDirect f g side) := by
  have refused (r : Result) : s.Concludes (s.refuseDirect f r g side) :=
    (s.concludes_count _ _).trans (State.concludes_reply _ _ _ _ _)
  unfold State.sortDirect
  split
  · exact s.concludes_joinDown f
  · split
    · split
      · exact refused _
      · exact s.concludes_joinDown f
    · exact refused _

theorem State.concludes_sortUnfit (f : Frame) : s.Concludes (s.sortUnfit f) := by
  unfold State.sortUnfit
  split <;> exact s.concludes_reply _ _ _ _

theorem State.concludes_sortStation (f : RxFrame) : s.Concludes (s.sortStation f) := by
  unfold State.sortStation
  simp only
  split
  · exact s.concludes_misroute _ f
  · split
    · exact s.concludes_sortUnfit _
    · exact s.concludes_sortDirect _ _ _
    · exact s.concludes_joinDown _
    · split
      · exact s.concludes_joinDown _
      · exact s.concludes_count _ _
    · exact s.concludes_misroute _ f

theorem State.concludes_passUnowned (e : RouteEntry) (f : Frame) : s.Concludes (s.passUnowned e f) := by
  unfold State.passUnowned
  split
  · exact s.concludes_joinUp f
  · exact s.concludes_count _ _

theorem State.concludes_passReport (e : RouteEntry) (f : Frame) : s.Concludes (s.passReport e f) := by
  unfold State.passReport
  split
  · split
    · exact s.concludes_joinUp f
    · exact .refl s
  · exact .refl s

theorem State.concludes_sortField (f : RxFrame) : s.Concludes (s.sortField f) := by
  have owned (e : RouteEntry) : s.Concludes (if f.frame.dest = 0 then s.passUnowned e f.frame
      else if f.frame.dest = s.ownAddress then s.count .fp .routeDrops else s.misroute .fp f) := by
    split
    · exact s.concludes_passUnowned e _
    · split
      · exact s.concludes_count _ _
      · exact s.concludes_misroute _ f
  unfold State.sortField
  simp only
  split
  · exact owned _
  · exact owned _
  · split
    · exact s.concludes_passUnowned _ _
    · exact s.concludes_misroute _ f
  · exact s.concludes_misroute _ f

theorem State.concludes_takeUnowned : s.Concludes s.takeUnowned := by
  unfold State.takeUnowned
  split
  · exact .refl s
  · split
    · exact .trans (.of_same (by rfl) (by rfl) (by rfl)) (State.concludes_sortField _ _)
    · exact .refl s

theorem State.concludes_hear (port : Port) (x : Heard) : s.Concludes (s.hear port x) := by
  unfold State.hear
  split
  · refine ((s.concludes_count port .good).trans (.of_same (by simp) (by simp) (by simp))).trans
      (t := (s.count port .good).hearStation port) ?_
    unfold State.offer
    split
    · exact .of_same (by simp) (by simp) (by simp)
    · exact State.concludes_count _ _ _
  · exact s.concludes_count _ _

theorem State.concludes_rescan (port : Port) (cs : List RxChar) : s.Concludes (s.rescan port cs) := by
  have all (t : State) (xs : List Heard) : t.Concludes (xs.foldl (fun s x => s.hear port x) t) := by
    induction xs generalizing t with
    | nil => exact .refl t
    | cons x xs ih => exact (t.concludes_hear port x).trans (ih _)
  exact State.Concludes.trans (.of_same (by simp) (by simp) (by simp)) (all (s.setReceiver port _) _)

theorem State.concludes_abandon (port : Port) : s.Concludes (s.abandon port) := by
  unfold State.abandon
  split
  · exact .refl s
  · exact (s.concludes_hear port .bad).trans (State.concludes_rescan _ port _)

theorem State.concludes_transmitStation : s.Concludes s.transmitStation := by
  unfold State.transmitStation
  split <;> exact .of_same rfl rfl rfl

theorem State.concludes_transmitField : s.Concludes s.transmitField := by
  unfold State.transmitField
  split <;> exact .of_same rfl rfl rfl

theorem State.concludes_takeStation (row : StationRow) (handle : State → RxFrame → State)
    (one : ∀ (t : State) f, t.Concludes (handle t f)) : s.Concludes (s.takeStation row handle) := by
  obtain e | ⟨f, rest, e⟩ := s.takeStation_cases row handle <;> rw [e]
  · exact .refl s
  · exact .trans (.of_same (by rfl) (by rfl) (by rfl)) (one { s with spRx := rest } f)

theorem State.concludes_takeReport (owner : FieldRow → Option (State → RxFrame → State))
    (one : ∀ row act, owner row = some act → ∀ (t : State) f, t.Concludes (act t f)) :
    s.Concludes (s.takeReport owner) := by
  unfold State.takeReport
  split
  · exact .refl s
  · rename_i f rest _
    split
    · rename_i act e
      have found : s.Concludes { s with fpRx := rest } := .of_same rfl rfl rfl
      exact (found.trans (one _ _ e _ f)).trans (State.concludes_passReport _ _ _)
    · exact .refl s

/-! ### The Level Unit -/

theorem State.concludes_recomputeCeilings : s.Concludes s.recomputeCeilings.1 :=
  s.concludes_sweep _ fun t g => t.concludes_setGate g id

theorem State.concludes_ceilingPath : s.Concludes s.ceilingPath := by
  have checked := s.concludes_recomputeCeilings.toUpholds.trans
    (State.reach_sweep s.recomputeCeilings.1 s.recomputeCeilings.2 _ State.reach_ceilingCheck).upholds
  unfold State.ceilingPath
  simp only
  split
  · rename_i none
    rw [List.isEmpty_iff.mp none]
    exact s.concludes_recomputeCeilings
  · exact checked.evaluateNow

theorem State.concludes_recomputeBank (b : Bank) : s.Concludes (s.recomputeBank b) := by
  have banked (x : BankState) : s.Concludes (s.setBank b x) := .of_same (by simp) (by simp) (by simp)
  unfold State.recomputeBank
  simp only
  split
  · exact banked _
  · split
    · exact banked _
    · exact (banked _).trans (State.concludes_post _ _)

theorem State.concludes_newHead (head : Option Head) : s.Concludes (s.newHead head) := by
  have headed : s.Concludes (s.headed head) := (s.concludes_postAll _).trans (.of_same (by rfl) (by rfl) (by rfl))
  by_cases same : s.head = head ∧ s.mode = modeAfter s.settings s.mode head
  · rw [State.newHead_same s same.1 same.2]
    exact .refl s
  · have pathed := headed.trans (State.concludes_ceilingPath _)
    obtain e | e := s.newHead_changed same <;> rw [e]
    · exact pathed
    · exact pathed.evaluateNow

theorem State.concludes_relevel (bs : List Bank) : s.Concludes (s.relevel bs) := by
  have banked (t : State) : t.Concludes (t.rebanked bs) := by
    unfold State.rebanked
    induction bs generalizing t with
    | nil => exact .refl t
    | cons b bs ih => exact (t.concludes_recomputeBank b).trans (ih _)
  exact (banked s).trans (State.concludes_newHead _ _)

theorem State.concludes_takeLevel (n : GaugeId) (p : List Byte) : s.Concludes (s.takeLevel n p) := by
  unfold State.takeLevel
  split
  · split
    · exact .trans (.of_same (by rfl) (by rfl) (by rfl)) (State.concludes_relevel _ _)
    · exact .refl s
  · exact .refl s

theorem State.concludes_gaugeGoesStale (n : GaugeId) : s.Concludes (s.gaugeGoesStale n) := by
  unfold State.gaugeGoesStale
  split
  · exact s.concludes_relevel _
  · exact .refl s

/-! ### The hoist exchange -/

theorem State.concludes_faultSettled (c : Bool) (g : GateId) (r : HoldReason) :
    s.Concludes (if c then (s.fault g r).settle else s) := by
  split
  · exact (s.reach_fault g r).concludes
  · exact .refl s

theorem State.startCheck_evalDue (g : GateId) : (s.startCheck g).evalDue = s.evalDue := by
  unfold State.startCheck
  split
  · split
    · exact State.setMotion_evalDue _ _ _
    · rfl
  · rfl

theorem State.concludes_restCheck (g : GateId) : s.Concludes (s.restCheck g) := by
  refine ⟨(s.reach_restCheck g).upholds, fun paid => ?_⟩
  unfold State.restCheck
  split
  · split
    · exact State.settle_evalDue _
    · exact paid
  · split
    · exact State.settle_evalDue _
    · exact paid
  · exact paid

theorem State.trimCheck_evalDue (g : GateId) : (s.trimCheck g).evalDue = s.evalDue := by
  have sent (side : Side) {send : State → LinkAddr → State} (kept : ∀ t a, (send t a).evalDue = t.evalDue) (m : Motion) :
      ((s.forHoist g side send).setMotion g m).evalDue = s.evalDue := by
    rw [State.setMotion_evalDue]
    unfold State.forHoist
    split
    · exact kept _ _
    · rfl
  unfold State.trimCheck
  split
  · simp only
    split
    · split
      · split
        · exact sent _ (by simp) _
        · rfl
      · rfl
    · split
      · exact sent _ (by simp) _
      · rfl
  · rfl

theorem State.concludes_sampleChecks (g : GateId) (side : Side) (st : HoistState) :
    s.Concludes (s.sampleChecks g side st) := by
  have faulted (t : State) : t.Concludes (t.faultCheck g st) := by
    simpa [State.faultCheck] using t.concludes_faultSettled (decide (st = .fault)) g .hoistFault
  have evidence := (s.reach_takeEvidence g side st).concludes_paid (State.setMotion_evalDue _ _ _)
  have cleared (t : State) : t.Concludes (t.staleClearing g).settle := (t.reach_staleClearing g).concludes
  exact (((((evidence.trans (faulted _)).trans (State.concludes_faultSettled _ _ _ _)).trans (cleared _)).trans
    ((State.reach_startCheck _ g).concludes_paid (State.startCheck_evalDue _ g))).trans
    (State.concludes_restCheck _ g)).trans ((State.reach_trimCheck _ g).concludes_paid (State.trimCheck_evalDue _ g))

theorem State.concludes_openingChanged (g : GateId) : s.Concludes (s.openingChanged g) := by
  have told := (s.reach_excursionCheck g).trans (State.reach_tellNeighbours _ g)
  unfold State.openingChanged
  simp only
  split
  · exact (told.trans (State.reach_owe _)).concludes
  · exact told.concludes

theorem State.concludes_takePosition (g : GateId) (side : Side) (p : List Byte) (stamp : ClockWord) :
    s.Concludes (s.takePosition g side p stamp) := by
  unfold State.takePosition
  split
  · exact .refl s
  · have stored (x : Report) : s.Concludes (s.storeSample g side x stamp) :=
      s.concludes_setGate g (by cases side <;> exact id)
    have checked (x : Report) := (stored x).trans (State.concludes_sampleChecks _ g side x.state)
    simp only
    split
    · exact stored _
    · split
      · exact checked _
      · exact (checked _).trans (State.concludes_openingChanged _ g)

theorem State.concludes_takeAck (g : GateId) (side : Side) (p : List Byte) : s.Concludes (s.takeAck g side p) := by
  refine (s.reach_takeAck g side p).concludes_paid ?_
  unfold State.takeAck State.ackOfRun
  split
  · split
    · split
      · simp only
        split <;> exact State.setMotion_evalDue _ _ _
      · rfl
    · rfl
  · rfl

theorem State.concludes_ackWindowEnds (g : GateId) : s.Concludes (s.ackWindowEnds g) := by
  unfold State.ackWindowEnds
  split
  · exact (s.reach_fault _ _).concludes
  · exact .refl s

theorem State.concludes_deadlineEnds (g : GateId) : s.Concludes (s.deadlineEnds g) := by
  unfold State.deadlineEnds
  split
  · split
    · exact (s.reach_fault _ _).concludes
    · exact .refl s
  · exact .refl s

theorem State.concludes_haltWindowEnds (g : GateId) : s.Concludes (s.haltWindowEnds g) := by
  unfold State.haltWindowEnds
  split
  · exact (s.reach_fault _ _).concludes
  · exact .refl s

theorem State.concludes_position : s.Concludes (s.takeReport positionOwner) := by
  refine s.concludes_takeReport _ fun row act e t f => ?_
  cases row <;> simp only [positionOwner, reduceCtorEq, Option.some.injEq] at e
  subst e
  exact t.concludes_takePosition _ _ _ _

theorem State.concludes_ack : s.Concludes (s.takeReport ackOwner) := by
  refine s.concludes_takeReport _ fun row act e t f => ?_
  cases row <;> simp only [ackOwner, reduceCtorEq, Option.some.injEq] at e
  subst e
  exact t.concludes_takeAck _ _ _

theorem State.concludes_level : s.Concludes (s.takeReport levelOwner) := by
  refine s.concludes_takeReport _ fun row act e t f => ?_
  cases row <;> simp only [levelOwner, reduceCtorEq, Option.some.injEq] at e
  subst e
  exact t.concludes_takeLevel _ _

/-! ### The motion requests, STOP_N and silence -/

theorem State.concludes_takeMove (p : List Byte) : s.Concludes (s.takeMove p) := by
  unfold State.takeMove
  split
  · exact s.concludes_reply _ _ _ _
  · unfold State.moveGate
    simp only
    split
    · exact s.concludes_reply _ _ _ _
    · rename_i free
      split
      · exact s.concludes_reply _ _ _ _
      · exact (s.reach_command _ _ _ _ (by simpa using free)).concludes.trans (State.concludes_reply _ _ _ _ _)

theorem State.concludes_takeStop (p : List Byte) : s.Concludes (s.takeStop p) := by
  unfold State.takeStop
  split
  · exact s.concludes_reply _ _ _ _
  · exact (s.reach_stopGate _).concludes.trans (State.concludes_reply _ _ _ _ _)

theorem State.concludes_takeGroupSet (p : List Byte) : s.Concludes (s.takeGroupSet p) := by
  unfold State.takeGroupSet
  simp only
  split
  · exact s.concludes_reply _ _ _ _
  · rename_i free
    exact (s.reach_groupSet _ _ _ (by simpa using free)).concludes.trans (State.concludes_reply _ _ _ _ _)

theorem State.concludes_takeGroupStop (p : List Byte) : s.Concludes (s.takeGroupStop p) :=
  (s.concludes_sweep _ fun t g => (t.reach_stopGate g).concludes).trans (State.concludes_reply _ _ _ _ _)

theorem State.concludes_takeClearHold (p : List Byte) : s.Concludes (s.takeClearHold p) := by
  unfold State.takeClearHold
  split
  · exact s.concludes_reply _ _ _ _
  · unfold State.clearHold
    split
    · split
      · exact s.concludes_reply _ _ _ _
      · exact (s.reach_leaveHold _ _ _).concludes.trans (State.concludes_reply _ _ _ _ _)
    · exact s.concludes_reply _ _ _ _

theorem State.enterStopping_evalDue (g : GateId) (next : NextStep) (l : Leg) :
    (s.enterStopping g next l).evalDue = s.evalDue := (s.actsOn_enterStopping next l).due

theorem State.quellGate_evalDue (g : GateId) : (s.quellGate g).evalDue = s.evalDue := by
  unfold State.quellGate
  split
  · exact s.leaveList_evalDue g _
  · exact s.enterStopping_evalDue g _ _
  · exact s.enterStopping_evalDue g _ _
  · exact s.setMotion_evalDue g _
  · exact s.setMotion_evalDue g _
  · rfl

theorem State.concludes_checkExcursionOf (g : GateId) : s.Concludes (s.checkExcursionOf g) :=
  (s.reach_excursionCheck g).concludes

theorem State.concludes_quell : s.Concludes s.quell :=
  (s.concludes_sweep _ fun t g => (t.reach_quellGate g).concludes_paid (t.quellGate_evalDue g)).trans
    (State.concludes_sweep _ _ State.concludes_checkExcursionOf)

theorem State.concludes_assertStop : s.Concludes s.assertStop := by
  unfold State.assertStop
  simp only
  split
  · exact .of_same rfl rfl rfl
  · exact (State.Concludes.trans (.of_same (by rfl) (by rfl) (by rfl))
      (State.concludes_post { s with stopPinLow := true, stopFilter := 0, stopAsserted := true } _)).trans
      (State.concludes_quell _)

theorem State.concludes_releaseStop : s.Concludes s.releaseStop := by
  unfold State.releaseStop
  simp only
  split
  · exact (State.Concludes.trans (.of_same (by rfl) (by rfl) (by rfl))
      (State.concludes_post { s with stopPinLow := false, stopFilter := 0, stopAsserted := false } _)).evaluateNow
  · exact .of_same rfl rfl rfl

theorem State.concludes_silenceEnds : s.Concludes s.silenceEnds := by
  unfold State.silenceEnds
  split
  · exact (State.Concludes.trans (.of_same (by rfl) (by rfl) (by rfl))
      (State.concludes_post { s with silence := .waiting } _)).trans (State.concludes_quell _)
  · exact .refl s

/-! ### Warm restart -/

theorem State.restartGate_evalDue (g : GateId) : (s.restartGate g).evalDue = s.evalDue := by
  unfold State.restartGate
  simp only
  split
  · split
    · simp
    · simp [State.makeHold, State.postHeld]
  · simp

theorem State.concludes_warmRestart : s.Concludes s.warmRestart := by
  have emptied : s.Concludes s.emptied := .of_same rfl rfl rfl
  have halted (t : State) (g : GateId) : t.Concludes (t.haltGate g) :=
    (t.reach_haltGate g).concludes_paid (by rw [t.haltGate_frame g])
  have restarted (t : State) (g : GateId) : t.Concludes (t.restartGate g) :=
    (t.reach_restartGate g).concludes_paid (t.restartGate_evalDue g)
  have levelled (t : State) : t.Concludes t.restartLevel :=
    .trans (.of_same (by rfl) (by rfl) (by rfl)) (State.concludes_newHead _ _)
  exact ((((emptied.trans (State.concludes_sweep _ _ halted)).trans (State.concludes_sweep _ _ restarted)).trans
    (levelled _)).trans (State.concludes_recomputeCeilings _)).trans
    (State.concludes_sweep _ _ State.concludes_checkExcursionOf)

/-! ### The Management Unit -/

theorem State.concludes_rebind (old new : Option LinkAddr) (role : Role) (b : Binding) :
    s.Concludes (s.rebind old new role b) := by
  unfold State.rebind
  split
  · exact .refl s
  · cases old <;> cases new <;> exact .of_same rfl rfl rfl

theorem State.concludes_rebindHoist (g : GateId) (side : Side) (old new : Option LinkAddr) :
    s.Concludes (s.rebindHoist g side old new) := by
  unfold State.rebindHoist
  split
  · exact .refl s
  · exact (s.concludes_rebind _ _ _ _).trans (State.concludes_setGate _ g (by cases side <;> exact id))

theorem Motion.lowered_holdSound {m : Motion} (sound : m.holdSound) (travel : Nat) : (m.lowered travel).holdSound := by
  cases m <;> exact sound

theorem State.concludes_retravel (g : GateId) (old new : GateRecord) : s.Concludes (s.retravel g old new) := by
  have corrected : s.Concludes (if old.travelChanged new then s.setGate g (s.gate g).recorrected else s) := by
    split
    · exact s.concludes_setGate g id
    · exact .refl s
  unfold State.retravel
  simp only
  split
  · exact corrected.trans (State.concludes_setGate _ g fun sound => Motion.lowered_holdSound sound _)
  · exact corrected

theorem State.concludes_writeGate (g : GateId) (new : GateRecord) : s.Concludes (s.writeGate g new) := by
  have recorded : s.Concludes (s.recorded g new) :=
    ((s.concludes_setGate g (by exact id)).trans (State.concludes_rebindHoist _ _ _ _ _)).trans
      (State.concludes_rebindHoist _ _ _ _ _)
  have remeasured : s.Concludes (s.remeasured g new) := recorded.trans (State.concludes_retravel _ _ _ _)
  have receilinged : s.Upholds (s.receilinged g new) :=
    (remeasured.toUpholds.trans (s.reach_reserved g new).upholds).trans
      (State.concludes_setGate (s.reserved g new) g (by exact id)).toUpholds
  obtain ⟨tell, e⟩ := s.writeGate_eq g new
  rw [e]
  refine State.Upholds.evaluateNow ((receilinged.trans (State.reach_ceilingCheck _ g).upholds).trans ?_)
  unfold State.toldOf
  split
  · exact (State.reach_tellNeighbours _ g).upholds
  · exact .refl _

theorem State.concludes_writeReply (p : List Byte) (r : Result) (d : Nat) (gen : CountWord) :
    s.Concludes (s.writeReply p r d gen) := .of_same rfl rfl rfl

theorem State.concludes_writeNoRecord (p : List Byte) : s.Concludes (s.writeNoRecord p) := .of_same rfl rfl rfl

theorem State.concludes_takeWriteGate (p : List Byte) : s.Concludes (s.takeWriteGate p) := by
  unfold State.takeWriteGate
  split
  · exact s.concludes_writeNoRecord p
  · split
    · exact s.concludes_writeReply _ _ _ _
    · exact (s.concludes_writeGate _ _).trans (State.concludes_writeReply _ _ _ _ _)

theorem State.concludes_writeCurve (c : Fin 4) (points : List Breakpoint) : s.Concludes (s.writeCurve c points) :=
  .trans (.of_same (by rfl) (by rfl) (by rfl)) (State.concludes_ceilingPath _)

theorem State.concludes_staging (x : Option Staging) : s.Concludes { s with staging := x } := .of_same rfl rfl rfl

theorem State.concludes_takeWriteFirstPart (p : List Byte) : s.Concludes (s.takeWriteFirstPart p) := by
  unfold State.takeWriteFirstPart
  split
  · exact s.concludes_writeNoRecord p
  · split
    · exact s.concludes_writeReply _ _ _ _
    · split
      · exact (s.concludes_writeCurve _ _).trans (State.concludes_writeReply _ _ _ _ _)
      · exact (s.concludes_staging _).trans (State.concludes_writeReply _ _ _ _ _)

theorem State.concludes_takeWriteSecondPart (p : List Byte) : s.Concludes (s.takeWriteSecondPart p) := by
  unfold State.takeWriteSecondPart
  split
  · exact s.concludes_writeNoRecord p
  · split
    · exact s.concludes_writeReply _ _ _ _
    · split
      · exact (s.concludes_staging none).trans (State.concludes_writeReply _ _ _ _ _)
      · exact ((s.concludes_staging none).trans (State.concludes_writeCurve _ _ _)).trans
          (State.concludes_writeReply _ _ _ _ _)

theorem State.concludes_writeGauge (n : GaugeId) (new : GaugeRecord) : s.Concludes (s.writeGauge n new) :=
  ((s.concludes_rebind _ _ _ _).trans (.of_same (by rfl) (by rfl) (by rfl))).trans (State.concludes_relevel _ _)

theorem State.concludes_takeWriteGauge (p : List Byte) : s.Concludes (s.takeWriteGauge p) := by
  unfold State.takeWriteGauge
  split
  · exact s.concludes_writeNoRecord p
  · split
    · exact s.concludes_writeReply _ _ _ _
    · exact (s.concludes_writeGauge _ _).trans (State.concludes_writeReply _ _ _ _ _)

theorem State.concludes_takeWriteRoute (p : List Byte) : s.Concludes (s.takeWriteRoute p) := by
  unfold State.takeWriteRoute
  split
  · exact s.concludes_writeNoRecord p
  · split <;> exact .of_same rfl rfl rfl

theorem State.concludes_writeSettings (new : Settings) : s.Concludes (s.writeSettings new) := by
  have levelled (t : State) : t.Concludes (t.relevelFor s.settings new) := by
    unfold State.relevelFor
    split
    · exact t.concludes_relevel _
    · split
      · exact t.concludes_newHead _
      · exact .refl t
  have stored (silence : Silence) :
      s.Concludes { s with settings := new, settingsGen := s.settingsGen + 1, silence := silence } := .of_same rfl rfl rfl
  unfold State.writeSettings
  simp only
  split
  · exact (stored _).trans (levelled _)
  · exact ((stored _).trans (levelled _)).evaluateNow

theorem State.concludes_takeWriteSettings (p : List Byte) : s.Concludes (s.takeWriteSettings p) := by
  unfold State.takeWriteSettings
  split
  · split
    · exact s.concludes_writeReply _ _ _ _
    · exact (s.concludes_writeSettings _).trans (State.concludes_writeReply _ _ _ _ _)
  · exact s.concludes_writeNoRecord p

theorem State.concludes_takeRead (p : List Byte) : s.Concludes (s.takeRead p) := by
  unfold State.takeRead
  split <;> exact s.concludes_reply _ _ _ _

theorem State.concludes_takeStatus (p : List Byte) : s.Concludes (s.takeStatus p) := by
  unfold State.takeStatus
  split
  · split <;> exact s.concludes_reply _ _ _ _
  · exact s.concludes_reply _ _ _ _

theorem State.concludes_takeSnapshot (p : List Byte) : s.Concludes (s.takeSnapshot p) := by
  unfold State.takeSnapshot
  split <;> exact .of_same rfl rfl rfl

/-! ### One millisecond -/

theorem Motion.later_isHold (m : Motion) : m.later.isHold = m.isHold := by cases m <;> rfl

theorem Motion.later_holdSound {m : Motion} (sound : m.holdSound) : m.later.holdSound := by cases m <;> exact sound

theorem State.concludes_elapse : s.Concludes s.elapse where
  fault shown := by
    have held (g : GateId) : (s.elapse.gate g).motion.isHold = (s.gate g).motion.isHold := by
      rw [State.elapse_gate]
      exact Motion.later_isHold _
    have output : s.elapse.faultN = s.faultN := rfl
    simpa only [State.FaultShown, held, output] using shown
  holds sound := by
    rw [State.holdsSound_iff] at sound ⊢
    intro g
    rw [State.elapse_gate]
    exact Motion.later_holdSound (sound g)
  paid := id

end

/-! ### Every step -/

/-- A command other than a cold reset keeps FAULT_N, holds and the mark of an owed evaluation as they must be. -/
theorem exec_concludes (c : Instr) (s t : State) (running : ∀ a b d, c ≠ .coldReset a b d) (e : exec c s = .next t) :
    s.Concludes t := by
  cases c with
  | coldReset a b d => exact absurd rfl (running a b d)
  | stopNAssertion => cases e; exact s.concludes_assertStop
  | stopNRelease => cases e; exact s.concludes_releaseStop
  | frameCheck => cases e; exact s.concludes_rescan _ _
  | receiveGapAbandon => cases e; exact s.concludes_abandon _
  | stationFrameSort => cases e; exact s.concludes_takeStation _ _ fun t f => t.concludes_sortStation f
  | fieldFrameSort => cases e; exact s.concludes_takeUnowned
  | position => cases e; exact s.concludes_position
  | ack => cases e; exact s.concludes_ack
  | level => cases e; exact s.concludes_level
  | move => cases e; exact s.concludes_takeStation _ _ fun t _ => t.concludes_takeMove _
  | stop => cases e; exact s.concludes_takeStation _ _ fun t _ => t.concludes_takeStop _
  | groupSet => cases e; exact s.concludes_takeStation _ _ fun t _ => t.concludes_takeGroupSet _
  | groupStop => cases e; exact s.concludes_takeStation _ _ fun t _ => t.concludes_takeGroupStop _
  | groupInvalidAction => cases e; exact s.concludes_takeStation _ _ fun t _ => t.concludes_reply _ _ _ _
  | clearHold => cases e; exact s.concludes_takeStation _ _ fun t _ => t.concludes_takeClearHold _
  | tableRead => cases e; exact s.concludes_takeStation _ _ fun t _ => t.concludes_takeRead _
  | tableWriteGate => cases e; exact s.concludes_takeStation _ _ fun t _ => t.concludes_takeWriteGate _
  | tableWriteCurveFirstPart => cases e; exact s.concludes_takeStation _ _ fun t _ => t.concludes_takeWriteFirstPart _
  | tableWriteCurveSecondPart => cases e; exact s.concludes_takeStation _ _ fun t _ => t.concludes_takeWriteSecondPart _
  | tableWriteGauge => cases e; exact s.concludes_takeStation _ _ fun t _ => t.concludes_takeWriteGauge _
  | tableWriteRoute => cases e; exact s.concludes_takeStation _ _ fun t _ => t.concludes_takeWriteRoute _
  | tableWriteSettings => cases e; exact s.concludes_takeStation _ _ fun t _ => t.concludes_takeWriteSettings _
  | statusRead => cases e; exact s.concludes_takeStation _ _ fun t _ => t.concludes_takeStatus _
  | counterSnapshot => cases e; exact s.concludes_takeStation _ _ fun t _ => t.concludes_takeSnapshot _
  | misrouteRead => cases e; exact s.concludes_takeStation _ _ fun t _ => .of_same rfl rfl rfl
  | timeSet => cases e; exact s.concludes_takeStation _ _ fun t _ => .of_same rfl rfl rfl
  | restart =>
    cases e
    exact s.concludes_takeStation _ _ fun t _ => t.concludes_warmRestart.trans (State.concludes_reply _ _ _ _ _)
  | spTransmit => cases e; exact s.concludes_transmitStation
  | fpTransmit => cases e; exact s.concludes_transmitField
  | hoistStale g side => cases e; exact s.concludes_faultSettled _ g .stale
  | gaugeStale => cases e; exact s.concludes_gaugeGoesStale _
  | ackWindowExpiry => cases e; exact s.concludes_ackWindowEnds _
  | deadlineExpiry => cases e; exact s.concludes_deadlineEnds _
  | haltWindowExpiry => cases e; exact s.concludes_haltWindowEnds _
  | silenceExpiry => cases e; exact s.concludes_silenceEnds
  | candidateSync => cases e; exact s.concludes_rescan _ _
  | lengthOver48 => cases e; exact s.concludes_rescan _ _

/-- After a cold reset no gate is in HOLD, FAULT_N is released, and no evaluation is owed (R18, R79). -/
theorem exec_coldReset_invariants {a : BitVec 6} {b d : Bool} {s t : State} (e : exec (.coldReset a b d) s = .next t) :
    t.faultN = false ∧ t.FaultShown ∧ t.HoldsSound ∧ t.evalDue = false := by
  cases e
  have same : (State.cold a b d).Concludes (s.coldReset a b d) := .of_same rfl rfl rfl
  exact ⟨rfl, same.fault (State.cold_faultShown a b d), same.holds (State.cold_holdsSound a b d), rfl⟩

/-- What holds after a cold reset, and is kept by every other event, is kept by every step. -/
theorem step_keeps {P : State → Prop} (kept : ∀ s t : State, s.Concludes t → P s → P t)
    (cold : ∀ (a : BitVec 6) (b d : Bool) (s t : State), exec (.coldReset a b d) s = .next t → P t) (s t : State) (h : P s)
    (e : step s = .next t) : P t := by
  unfold step at e
  split at e
  · cases e
    exact kept _ _ s.concludes_elapse h
  · rename_i c rest _
    by_cases reset : ∃ a b d, c = .coldReset a b d
    · obtain ⟨a, b, d, rfl⟩ := reset
      exact cold a b d _ t e
    · simp only [not_exists] at reset
      have taken : s.Concludes { s with pending := rest } := .of_same rfl rfl rfl
      exact kept _ _ (taken.trans (exec_concludes c _ t reset e)) h

/-- Settles O6: every event keeps FAULT_N on the holds (`State.Concludes`), and a cold reset leaves no hold. -/
theorem faultOutputShowsHolds : Obligations.FaultOutputShowsHolds := by
  refine ⟨step_keeps (fun s t k => k.fault) fun a b d s t e => ?_, fun a b d s t e => ?_⟩
  · exact (exec_coldReset_invariants e).2.1
  · obtain ⟨released, shown, -, -⟩ := exec_coldReset_invariants e
    exact ⟨released, shown⟩

/-- Settles O12: every event keeps the holds sound, and ends with the evaluations that it owes made (`State.Concludes`). -/
theorem holdsAndEvaluationsStaySound : Obligations.HoldsAndEvaluationsStaySound := by
  refine ⟨step_keeps (fun s t k => k.holds) fun a b d s t e => ?_, step_keeps (fun s t k => k.paid) fun a b d s t e => ?_⟩
  · obtain ⟨-, -, sound, -⟩ := exec_coldReset_invariants e
    exact sound
  · obtain ⟨-, -, -, paid⟩ := exec_coldReset_invariants e
    exact paid

end Sys2Proof.Machine

/-! ## Motion requests that leave every gate as it was, or change a motion state alone (R57 to R61, R70, R77, R94) -/

namespace Sys2Proof.Machine

/-! ### A request and its handler -/

section
variable {s : State} {p : List Byte} {rest : List RxFrame}

theorem State.HasRequest.exec_move (found : s.HasRequest 0x10#8 p rest) (row : requestRow 0x10#8 p = some .move) :
    exec .move s = .next ((s.taken rest).takeMove p) :=
  congrArg Host.Outcome.next (found.takeStation row fun t q => t.takeMove q)

theorem State.HasRequest.exec_stop (found : s.HasRequest 0x11#8 p rest) (row : requestRow 0x11#8 p = some .stop) :
    exec .stop s = .next ((s.taken rest).takeStop p) :=
  congrArg Host.Outcome.next (found.takeStation row fun t q => t.takeStop q)

theorem State.HasRequest.exec_clearHold (found : s.HasRequest 0x13#8 p rest)
    (row : requestRow 0x13#8 p = some .clearHold) : exec .clearHold s = .next ((s.taken rest).takeClearHold p) :=
  congrArg Host.Outcome.next (found.takeStation row fun t q => t.takeClearHold q)

theorem State.HasRequest.exec_groupSet (found : s.HasRequest 0x12#8 p rest)
    (row : requestRow 0x12#8 p = some .groupSet) : exec .groupSet s = .next ((s.taken rest).takeGroupSet p) :=
  congrArg Host.Outcome.next (found.takeStation row fun t q => t.takeGroupSet q)

theorem State.HasRequest.exec_groupStop (found : s.HasRequest 0x12#8 p rest)
    (row : requestRow 0x12#8 p = some .groupStop) : exec .groupStop s = .next ((s.taken rest).takeGroupStop p) :=
  congrArg Host.Outcome.next (found.takeStation row fun t q => t.takeGroupStop q)

theorem State.HasRequest.exec_groupInvalid (found : s.HasRequest 0x12#8 p rest)
    (row : requestRow 0x12#8 p = some .groupInvalid) :
    exec .groupInvalidAction s = .next (s.taken rest).takeGroupInvalid :=
  congrArg Host.Outcome.next (found.takeStation row fun t _ => t.takeGroupInvalid)

/-- A GROUP that is not SET is taken by the row of its action (R94). -/
theorem asksGroup.row_of_action {action : Byte} {mask target level : Nat} (h : asksGroup p action mask target level) :
    requestRow 0x12#8 p = some (groupRow action.toNat) := by
  obtain ⟨m, n, hi, lo, -, -, ⟨rfl, -⟩ | ⟨lv, rfl, -⟩⟩ := h <;> rfl

theorem groupRow_invalid {action : Byte} (notStop : action ≠ 0) (notSet : action ≠ 1) :
    groupRow action.toNat = .groupInvalid := by
  have zero : action.toNat ≠ 0 := fun e => notStop (BitVec.eq_of_toNat_eq e)
  have one : action.toNat ≠ 1 := fun e => notSet (BitVec.eq_of_toNat_eq e)
  simp only [groupRow]

/-- A gate field above 11 names no gate (R135). -/
theorem gateOf_above {n : Byte} (above : 11 < n.toNat) (p : List Byte) : gateOf (byteAt (n :: p) 0) = none := by
  have here : byteAt (n :: p) 0 = n.toNat := rfl
  simp only [gateOf, here, dif_neg (by omega : ¬ n.toNat < 12)]

theorem State.AsksMove.refused_stopped {g : GateId} {asked level : Nat} (asks : s.AsksMove g p asked level)
    (stopped : s.stopAsserted = true) : (s.taken rest).takeMove p = (s.taken rest).reply 0x10#8 .stopInput 0 [] := by
  unfold State.takeMove State.moveGate
  simp [asks.gateOf, stopped, Config.kindMove]

theorem State.AsksMove.refused_outranked {g : GateId} {asked level : Nat} {r : Request} (asks : s.AsksMove g p asked level)
    (free : s.stopAsserted = false) (request : (s.gate g).motion.request = some r) (outranks : r.level < level) :
    (s.taken rest).takeMove p = (s.taken rest).reply 0x10#8 .outranked r.level
      (be16 (min asked (s.record g).fullTravel) ++ [byte level]) := by
  have applied : (s.taken rest).moveLevel g p = level := asks.level
  have outranked : (s.taken rest).outrankedBy g level = some r.level := by
    simp [State.outrankedBy, request, outranks]
  unfold State.takeMove State.moveGate
  simp [asks.gateOf, free, Config.kindMove, applied, outranked, asks.target, State.appliedTarget]

/-- Settles O41: each refusal is the reply alone, on the state that the frame has left. -/
theorem refusedMotionRequestsChangeNothing : Obligations.RefusedMotionRequestsChangeNothing := by
  intro s kind p rest found
  refine ⟨fun n hi lo above => ⟨?_, ?_, ?_⟩, fun action mask target level kind asks notStop notSet => ?_,
    fun g asked level kind asks stopped => ?_, fun mask target level kind asks stopped => ?_,
    fun g asked level r kind asks free request outranks => ?_⟩
  · rintro rfl payload
    have row : requestRow 0x10#8 p = some .move := by obtain rfl | ⟨lv, rfl⟩ := payload <;> rfl
    have unknown : gateOf (byteAt p 0) = none := by obtain rfl | ⟨lv, rfl⟩ := payload <;> exact gateOf_above above _
    rw [found.exec_move row, State.takeMove, unknown]
    rfl
  · rintro rfl rfl
    rw [found.exec_stop rfl, State.takeStop, gateOf_above above]
    rfl
  · rintro rfl rfl
    rw [found.exec_clearHold rfl, State.takeClearHold, gateOf_above above]
    rfl
  · subst kind
    rw [found.exec_groupInvalid (asks.row_of_action.trans (congrArg some (groupRow_invalid notStop notSet)))]
    rfl
  · subst kind
    rw [found.exec_move asks.row, asks.refused_stopped stopped]
    rfl
  · subst kind
    obtain ⟨-, -, atLevel⟩ := asks.fields
    rw [found.exec_groupSet asks.row, State.takeGroupSet, atLevel, State.taken_stopAsserted, if_pos stopped]
    rfl
  · subst kind
    rw [found.exec_move asks.row, asks.refused_outranked free request outranks]
    rfl

/-! ### MOVE to a gate that cannot move -/

/-- What a command makes of the motion state of a gate that cannot move for it now: out of service, held or stopping
(R58, R70). -/
def Motion.keeping (m : Motion) (k : Target) (origin : Origin) : Option Motion :=
  match m with
  | .outOfService _ => some (.outOfService (some k))
  | .hold h _ => some (.hold h (some k))
  | .stopping (.outOfService _) l w => some (.stopping (.outOfService (some k)) l w)
  | .stopping .idle l w => some (.stopping (.restartLeg (.fresh k.target k.level origin)) l w)
  | .stopping (.restartLeg r) l w => some (.stopping (.restartLeg (r.replaced k.target k.level origin)) l w)
  | .stopping (.requeue r) l w => some (.stopping (.requeue (r.replaced k.target k.level origin)) l w)
  | _ => none

theorem State.applyTarget_of_keeping {t : State} {g : GateId} {k : Target} {origin : Origin} {m : Motion}
    (kept : (t.gate g).motion.keeping k origin = some m) : t.applyTarget g k.target k.level origin = t.setMotion g m := by
  unfold State.applyTarget
  cases e : (t.gate g).motion with
  | idle | pending | starting | travelling => simp [e, Motion.keeping] at kept
  | stopping n l w => cases n <;> simp_all [Motion.keeping]
  | outOfService | hold => simp_all [Motion.keeping]

/-- A MOVE to a gate that cannot move changes its motion state alone, so no evaluation is owed (R57, R58). -/
theorem State.AsksMove.keeps {g : GateId} {asked level : Nat} {m : Motion} (asks : s.AsksMove g p asked level)
    (found : s.HasRequest 0x10#8 p rest) (free : s.stopAsserted = false) (paid : s.evalDue = false)
    (stands : s.outrankedBy g level = none)
    (kept : (s.gate g).motion.keeping { target := min asked (s.record g).fullTravel, level := level } .station = some m) :
    exec .move s = .next ((((s.taken rest).travelPosted g asked).setMotion g m).reply 0x10#8 (s.moveResult g asked) 0
      (be16 (min asked (s.record g).fullTravel) ++ [byte level])) := by
  have applied := State.applyTarget_of_keeping (t := (s.taken rest).travelPosted g asked) (g := g) (origin := .station)
    (by rw [State.travelPosted_gate]; exact kept)
  rw [asks.handled found free stands, State.command_eq, State.taken_record, applied,
    State.settle_of_not_due _ (by simpa using paid)]

theorem State.moveResult_of_stores {g : GateId} (asked : Nat) (stores : (s.gate g).motion.stores = true) :
    s.moveResult g asked = .deferred := by
  rw [State.moveResult, stores, if_pos rfl]

theorem State.moveResult_of_takes {g : GateId} (asked : Nat) (takes : (s.gate g).motion.stores = false) :
    s.moveResult g asked = if (s.record g).fullTravel < asked then .clamped else .accepted := by
  simp [State.moveResult, takes]

theorem State.travelPosted_eq (g : GateId) (asked : Nat) : s.travelPosted g asked =
    if (s.record g).fullTravel < asked then s.post (.clamped g asked (s.record g).fullTravel .travel) else s := by
  unfold State.travelPosted
  split <;> rfl

/-- Settles O42: the command sets the motion state of R58 and R70 (`State.AsksMove.keeps`). -/
theorem movesToGatesThatCannotMoveAreKept : Obligations.MovesToGatesThatCannotMoveAreKept := by
  intro s g p asked level rest found asks free paid
  have told := (s.taken rest).travelPosted_eq g asked
  have keeps {m m' : Motion} (e : (s.gate g).motion = m) (stands : s.outrankedBy g level = none)
      (kept : m.keeping { target := min asked (s.record g).fullTravel, level := level } .station = some m') :=
    told ▸ asks.keeps found free paid stands (e ▸ kept)
  refine ⟨fun d e => ?_, fun h d e => ?_, fun c l w e => ?_, fun l w e => ?_, fun r l w le => ⟨fun e => ?_, fun e => ?_⟩⟩
  · rw [keeps e (State.outrankedBy_of_none (by rw [e]; rfl)) rfl, State.moveResult_of_stores asked (by rw [e]; rfl)]
    rfl
  · rw [keeps e (State.outrankedBy_of_none (by rw [e]; rfl)) rfl, State.moveResult_of_stores asked (by rw [e]; rfl)]
    rfl
  · rw [keeps e (State.outrankedBy_of_none (by rw [e]; rfl)) rfl, State.moveResult_of_stores asked (by rw [e]; rfl)]
    rfl
  · rw [keeps e (State.outrankedBy_of_none (by rw [e]; rfl)) rfl, State.moveResult_of_takes asked (by rw [e]; rfl)]
    rfl
  · rw [keeps e (State.outrankedBy_of_le (by rw [e]; rfl) le) rfl, State.moveResult_of_takes asked (by rw [e]; rfl)]
    rfl
  · rw [keeps e (State.outrankedBy_of_le (by rw [e]; rfl) le) rfl, State.moveResult_of_takes asked (by rw [e]; rfl)]
    rfl

end

/-! ### What STOP does in each motion state (R61, R70) -/

section
variable {s : State} {g : GateId}

theorem State.stopGate_outOfService {d : Option Target} (e : (s.gate g).motion = .outOfService d) :
    s.stopGate g = s.setMotion g (.outOfService none) := by simp only [State.stopGate, e]

theorem State.stopGate_idle (e : (s.gate g).motion = .idle) : s.stopGate g = s := by simp only [State.stopGate, e]

theorem State.stopGate_pending {r : Request} (e : (s.gate g).motion = .pending r) :
    s.stopGate g = (s.leaveList g .idle).excursionCheck g := by simp only [State.stopGate, e]

theorem State.stopGate_moving {r : Request} {l : Leg} {window : Option Nat} (e : (s.gate g).motion = movingWith r l window) :
    s.stopGate g = s.enterStopping g .idle l := by
  cases window <;> simp only [State.stopGate, e, movingWith]

theorem State.stopGate_leaving {c : Option Target} {l : Leg} {w : Nat}
    (e : (s.gate g).motion = .stopping (.outOfService c) l w) :
    s.stopGate g = s.setMotion g (.stopping (.outOfService none) l w) := by simp only [State.stopGate, e]

theorem State.stopGate_stopping {n : NextStep} {l : Leg} {w : Nat} (e : (s.gate g).motion = .stopping n l w)
    (stays : ∀ c, n ≠ .outOfService c) : s.stopGate g = s.setMotion g (.stopping .idle l w) := by
  cases n with
  | outOfService c => exact absurd rfl (stays c)
  | _ => simp only [State.stopGate, e]

theorem State.stopGate_hold {h : Hold} {d : Option Target} (e : (s.gate g).motion = .hold h d) :
    s.stopGate g = s.setMotion g (.hold h none) := by simp only [State.stopGate, e]

/-- The excursion check that finds nothing clears the mark (R72, R73). -/
theorem State.excursionCheck_of_none (idle : (s.gate g).motion = .idle) (quiet : (s.gate g).excursion = none) :
    s.excursionCheck g = s.setExcursion g false := by
  simp only [State.excursionCheck, idle, quiet]

/-- The excursion check is made in IDLE alone (R72). -/
theorem State.excursionCheck_of_not_idle (busy : (s.gate g).motion ≠ .idle) : s.excursionCheck g = s := by
  unfold State.excursionCheck
  split
  · exact absurd ‹_› busy
  · rfl

theorem State.stopGate_pending_quiet {r : Request} (e : (s.gate g).motion = .pending r)
    (quiet : (s.gate g).excursion = none) : s.stopGate g = (s.leaveList g .idle).setExcursion g false := by
  rw [State.stopGate_pending e, State.excursionCheck_of_none]
  · simp
  · rw [State.leaveList_gate, State.setMotion_gate_self]
    exact quiet

end

/-- Settles O46: STOP is the one change of its state (`State.stopGate_idle` and the others), with no evaluation owed. -/
theorem stopActsByTheGateState : Obligations.StopActsByTheGateState := by
  intro s g rest found paid
  have answers {t : State} (stopped : (s.taken rest).stopGate g = t) (due : t.evalDue = s.evalDue) :
      exec .stop s = .next (t.reply 0x11#8 .accepted 0 []) := by
    rw [found.exec_stop rfl, State.takeStop, gateOf_byte]
    simp only [stopped, State.settle_of_not_due t (due.trans paid), Config.kindStop]
  refine ⟨fun d e => ?_, fun e => ?_, fun r e quiet => ?_, fun r l w e => ?_, fun c l w e => ?_, fun n l w e stays => ?_,
    fun h d e => ?_⟩
  · exact answers (State.stopGate_outOfService e) (State.setMotion_evalDue _ _ _)
  · exact answers (State.stopGate_idle e) rfl
  · exact answers (State.stopGate_pending_quiet e quiet) (by simp)
  · obtain ⟨window, moving⟩ := moves_movingWith (m := (s.gate g).motion) (r := r) (l := l) (e.imp_left fun k => ⟨w, k⟩)
    have stopped := State.stopGate_moving (s := s.taken rest) moving
    rw [answers stopped (State.enterStopping_evalDue _ _ _ _), State.enterStopping, State.haltGate_record]
    rfl
  · exact answers (State.stopGate_leaving e) (State.setMotion_evalDue _ _ _)
  · exact answers (State.stopGate_stopping e stays) (State.setMotion_evalDue _ _ _)
  · exact answers (State.stopGate_hold e) (State.setMotion_evalDue _ _ _)

end Sys2Proof.Machine

/-! ## A fault handed to a gate holds it (R74, R75, R114, R116, R120, R122 to R124) -/

namespace Sys2Proof.Machine

/-! ### What a fault makes of the state (R74) -/

/-- A fault condition finds the gate in a state other than HOLD and OUT_OF_SERVICE. -/
structure Motion.Faultable (m : Motion) : Prop where
  serves : m.isOutOfService = false
  free : m.isHold = false

theorem Motion.Faultable.faulted {m : Motion} (h : m.Faultable) (r : HoldReason) :
    m.faulted r = .hold { primary := r, further := [] } m.keptTarget := by
  obtain ⟨serves, free⟩ := h
  cases m with
  | outOfService => cases serves
  | hold => cases free
  | stopping n => cases n <;> rfl
  | _ => rfl

theorem State.fault_motion {s : State} {g : GateId} (h : (s.gate g).motion.Faultable) (r : HoldReason) :
    ((s.fault g r).gate g).motion = .hold { primary := r, further := [] } (s.gate g).motion.keptTarget := by
  rw [State.fault_gate]
  exact h.faulted r

theorem State.fault_faultN {s : State} {g : GateId} (h : (s.gate g).motion.Faultable) (r : HoldReason) :
    (s.fault g r).faultN = true := by
  have held : holdPresent (s.fault g r).gates = true := holdPresent_of_isHold (g := g) (by rw [State.fault_motion h]; rfl)
  have shown : (s.fault g r).faultN = holdPresent (s.fault g r).gates := by
    obtain ⟨serves, -⟩ := h
    unfold State.fault
    split <;> rename_i e
    · rw [e] at serves; cases serves
    all_goals simp [State.makeHold, State.postHeld, State.releaseSlot, State.leaveList, State.setMotion_eq,
      State.setGate_faultN]
  rw [shown, held]

/-- The HELD notice is posted (R74, R182). -/
theorem State.fault_notices {s : State} {g : GateId} (h : (s.gate g).motion.Faultable) (r : HoldReason) :
    (s.fault g r).notices = (s.post (.held g r (s.gate g).opening (s.gate g).skew)).notices := by
  obtain ⟨serves, free⟩ := h
  have posted {t : State} (notices : t.notices = s.notices) (clock : t.tideClock = s.tideClock)
      (opening : (t.gate g).opening = (s.gate g).opening) (skew : (t.gate g).skew = (s.gate g).skew) :
      (t.postHeld g r).notices = (s.post (.held g r (s.gate g).opening (s.gate g).skew)).notices := by
    unfold State.postHeld State.post
    rw [notices, clock, opening, skew]
    split <;> rfl
  have set (t : State) (m : Motion) (same : t.gate g = s.gate g) :
      ((t.setMotion g m).gate g).opening = (s.gate g).opening ∧ ((t.setMotion g m).gate g).skew = (s.gate g).skew := by
    rw [State.setMotion_gate_self, same]
    exact ⟨rfl, rfl⟩
  have halted (d : Option Target) : (((s.haltGate g).makeHold g r d).releaseSlot).notices =
      (s.post (.held g r (s.gate g).opening (s.gate g).skew)).notices :=
    posted (by simp) (by rw [State.setMotion_tideClock, s.haltGate_frame g]) (set _ _ (s.haltGate_gate g g)).1
      (set _ _ (s.haltGate_gate g g)).2
  unfold State.fault
  split <;> rename_i e
  · rw [e] at serves; cases serves
  · exact posted (by simp) (by simp) (set s _ rfl).1 (set s _ rfl).2
  · exact posted (by simp) (by simp) (set s _ rfl).1 (set s _ rfl).2
  · exact halted _
  · exact halted _
  · exact halted _
  · rw [e] at free; cases free

/-- A gate that holds a slot has its hoists halted (R74). -/
theorem State.fault_halts {s : State} {g : GateId} (slot : (s.gate g).motion.holdsSlot = true) (r : HoldReason) {side : Side}
    {a : LinkAddr} (names : (s.record g).hoist side = some a) : a ∈ (s.fault g r).haltQueue := by
  have halted (d : Option Target) : a ∈ (((s.haltGate g).makeHold g r d).releaseSlot).haltQueue := by
    have kept : (((s.haltGate g).makeHold g r d).releaseSlot).haltQueue = (s.haltGate g).haltQueue := by
      simp [State.releaseSlot, State.makeHold, State.postHeld]
    rw [kept]
    exact s.haltGate_haltQueue names
  unfold State.fault
  split <;> rename_i e
  · rw [e] at slot; cases slot
  · rw [e] at slot; cases slot
  · rw [e] at slot; cases slot
  · exact halted _
  · exact halted _
  · exact halted _
  · rw [e] at slot; cases slot

theorem State.heldFor_fault {s : State} {g : GateId} (h : (s.gate g).motion.Faultable) (r : HoldReason) :
    s.heldFor (s.fault g r) g r := by
  refine ⟨State.fault_motion h r, State.fault_faultN h r, fun room => ?_, fun slot side a names => State.fault_halts slot r names⟩
  have samples : ((s.fault g r).gate g).opening = (s.gate g).opening ∧ ((s.fault g r).gate g).skew = (s.gate g).skew := by
    rw [State.fault_gate]
    exact ⟨rfl, rfl⟩
  rw [State.fault_notices h, State.post_of_room _ _ room, samples.1, samples.2]
  simp

/-- What a chain of motion changes leaves of a hold just made, when it leaves the gate as it is. -/
theorem State.heldFor.reach {s t u : State} {g : GateId} {r : HoldReason} (h : s.heldFor t g r) (k : t.Reach u)
    (same : u.gate g = t.gate g) : s.heldFor u g r := by
  obtain ⟨motion, faultN, notice, halts⟩ := h
  have held : holdPresent t.gates = true := holdPresent_of_isHold (g := g) (by rw [motion]; rfl)
  have still : holdPresent u.gates = true := holdPresent_of_isHold (g := g) (by rw [same, motion]; rfl)
  refine ⟨by rw [same, motion], (k.faultN (faultN.trans held.symm)).trans still, fun room => ?_,
    fun slot side a names => k.haltQueue (halts slot side a names)⟩
  rw [same]
  exact k.notices (notice room)

theorem State.settle_gate_of_stands {s : State} {g : GateId} (h : (s.gate g).motion.stands) : s.settle.gate g = s.gate g :=
  (s.passes_evaluateDue Config.evaluationRounds (g := g)).gate.standing h

theorem State.heldFor.stands {s t : State} {g : GateId} {r : HoldReason} (h : s.heldFor t g r) :
    (t.gate g).motion.stands := by
  rw [h.1]
  trivial

theorem State.heldFor_fault_settle {s : State} {g : GateId} (h : (s.gate g).motion.Faultable) (r : HoldReason) :
    s.heldFor (s.fault g r).settle g r :=
  (State.heldFor_fault h r).reach (State.reach_settle _) (State.settle_gate_of_stands (State.heldFor_fault h r).stands)

/-! ### The windows of a gate (R114, R116, R122, R123) -/

theorem State.fault_of_hold {s : State} {g : GateId} {h : Hold} {d : Option Target} (e : (s.gate g).motion = .hold h d)
    (r : HoldReason) : s.fault g r = s.setMotion g (.hold (h.withReason r) d) := by
  simp only [State.fault, e]

theorem Gate.serves_of_stale {x : Gate} {side : Side} (stale : x.stale side = true) : x.motion.isOutOfService = false := by
  unfold Gate.stale at stale
  simp_all

/-- Settles O59: a window that has run out hands its fault (`State.heldFor_fault_settle`). -/
theorem expiriesHoldTheGate : Obligations.ExpiriesHoldTheGate := by
  intro s g
  refine ⟨fun r l e => ?_, fun r l w e zero => ?_, fun n l e => ?_, fun side stale free => ?_,
    fun side h d stale e paid => ?_, fun side fresh => ?_⟩
  · have expired : s.ackWindowEnds g = (s.fault g (s.record g).handshake.noStart).settle := by
      simp only [State.ackWindowEnds, e]
    refine ⟨_, congrArg Host.Outcome.next expired, ?_⟩
    cases (s.record g).handshake <;> exact State.heldFor_fault_settle ⟨by rw [e]; rfl, by rw [e]; rfl⟩ _
  · have counts : (s.gate g).motion.countingLeg = some l := by obtain e | e := e <;> rw [e] <;> rfl
    have faultable : (s.gate g).motion.Faultable := by obtain e | e := e <;> exact ⟨by rw [e]; rfl, by rw [e]; rfl⟩
    have expired : s.deadlineEnds g = (s.fault g .timeout).settle := by
      simp only [State.deadlineEnds, counts, zero, if_true]
    exact ⟨_, congrArg Host.Outcome.next expired, State.heldFor_fault_settle faultable _⟩
  · have expired : s.haltWindowEnds g = (s.fault g .noStop).settle := by simp only [State.haltWindowEnds, e]
    exact ⟨_, congrArg Host.Outcome.next expired,
      State.heldFor_fault_settle ⟨by rw [e]; rfl, by rw [e]; rfl⟩ _⟩
  · exact ⟨_, congrArg Host.Outcome.next (if_pos stale), State.heldFor_fault_settle ⟨Gate.serves_of_stale stale, free⟩ _⟩
  · have held : (s.fault g .stale).settle = s.setMotion g (.hold (h.withReason .stale) d) := by
      rw [State.fault_of_hold e, State.settle_of_not_due _ (by simpa using paid)]
    refine ⟨_, congrArg Host.Outcome.next ((if_pos stale).trans held), State.setMotion_notices _ _ _, ?_⟩
    rw [State.setMotion_gate_self, Hold.withReason_eq]
  · exact congrArg Host.Outcome.next (if_neg (by simp [fresh]))

end Sys2Proof.Machine

/-! ## POSITION and ACK reports: the checks they make (R109 to R113, R120, R124) -/

namespace Sys2Proof.Machine

/-! ### A motion state set again -/

theorem State.setGate_setGate (s : State) (g : GateId) (x y : Gate) : (s.setGate g x).setGate g y = s.setGate g y := by
  simp [State.setGate]

theorem State.setMotion_setMotion (s : State) (g : GateId) (m n : Motion) :
    (s.setMotion g m).setMotion g n = s.setMotion g n := by
  rw [State.setMotion_eq, State.setMotion_gate_self, State.setMotion_eq, State.setGate_setGate]
  rfl

/-- A gate replaced by itself changes nothing where FAULT_N shows the holds (R79). -/
theorem State.setMotion_same {s : State} {g : GateId} {m : Motion} (e : (s.gate g).motion = m)
    (shown : s.faultN = holdPresent s.gates) : s.setMotion g m = s := by
  subst e
  have same : s.gates.set g (s.gates[g]) = s.gates := by simp
  simp only [State.setMotion, State.gate, State.setGate, same, ← shown]

/-! ### A report that reaches the Sequencer -/

section
variable {s : State} {f : RxFrame} {rest : List RxFrame} {g : GateId} {side : Side}

/-- The checks that follow the storing of a sample, from the opening that the gate had before (R15, R110). -/
def State.judged (stored : State) (g : GateId) (side : Side) (st : HoistState) (before : Option Nat) : State :=
  if before = (stored.gate g).opening then stored.sampleChecks g side st
  else (stored.sampleChecks g side st).openingChanged g

/-- Steps 4 to 7 of the checks on a sample (R110). -/
def State.laterChecks (s : State) (g : GateId) : State :=
  (((s.staleClearing g).settle.startCheck g).restCheck g).trimCheck g

theorem State.storeSample_motion (s : State) (g : GateId) (side : Side) (x : Report) (stamp : ClockWord) :
    ((s.storeSample g side x stamp).gate g).motion = (s.gate g).motion := by
  cases side <;> simp [State.storeSample, Gate.withSample]

theorem State.takePosition_eq {p : List Byte} {x : Report} {stamp : ClockWord} (parsed : parseReport p = some x)
    (serves : (s.gate g).motion.isOutOfService = false) : s.takePosition g side p stamp =
      (s.storeSample g side x stamp).judged g side x.state (s.gate g).opening := by
  simp [State.takePosition, parsed, State.storeSample_motion, serves, State.judged]

theorem State.HasHoistReport.fieldRow_ack (h : s.HasHoistReport f rest 0x51#8 g side) :
    s.fieldRow f.frame = .ack g side := by
  obtain ⟨-, kind, dest, role, binding⟩ := h
  have owned : s.reportDest f.frame = true := by simpa [State.reportDest] using dest
  simp [State.fieldRow, owned, role, binding, kind, Config.kindPosition, Config.kindAck]

theorem exec_ack (h : s.HasHoistReport f rest 0x51#8 g side) :
    exec .ack s = .next (s.sentOn ({ s with fpRx := rest }.takeAck g side f.frame.payload) f.frame) := by
  change Host.Outcome.next (s.takeReport ackOwner) = _
  rw [State.sentOn_eq_passReport, State.takeReport, h.1]
  simp only [h.fieldRow_ack, ackOwner]

/-- A report without a fault names its hoist state (R109). -/
theorem namesState.parsed {code : Byte} {state : HoistState} {hi lo : Byte} {p : Frame} (named : namesState code state)
    (reports : p.Reports hi lo code) :
    parseReport p.payload = some ⟨min (hi.toNat * 256 + lo.toNat) 16383, state, none⟩ := by
  obtain ⟨rfl, rfl⟩ | ⟨rfl, rfl⟩ | ⟨rfl, rfl⟩ := named <;> obtain e | ⟨c, e⟩ := reports <;> rw [e] <;> rfl

theorem namesState.ne_fault {code : Byte} {state : HoistState} (named : namesState code state) : state ≠ .fault := by
  obtain ⟨-, rfl⟩ | ⟨-, rfl⟩ | ⟨-, rfl⟩ := named <;> decide

section
variable {hi lo : Byte} {state : HoistState}

theorem State.reported_gate_ne {h : GateId} (other : h ≠ g) :
    (s.reported f rest g side hi lo state).gate h = s.gate h := State.setGate_gate_ne _ _ other

theorem State.reported_motion : ((s.reported f rest g side hi lo state).gate g).motion = (s.gate g).motion := by
  rw [State.reported, State.setGate_gate_self]
  cases side <;> rfl

theorem State.reported_record (h : GateId) : (s.reported f rest g side hi lo state).record h = s.record h := by
  by_cases same : h = g
  · subst same
    rw [State.record, State.reported, State.setGate_gate_self]
    cases side <;> rfl
  · rw [State.record, State.reported_gate_ne same, State.record]

theorem State.reported_faultN :
    (s.reported f rest g side hi lo state).faultN = holdPresent (s.reported f rest g side hi lo state).gates := rfl

/-- A report without a fault is stored and judged, and sent on (R109, R110, R155). -/
theorem State.HasQuietReport.exec (h : s.HasQuietReport f rest g side hi lo state)
    (serves : (s.gate g).motion.isOutOfService = false) : exec .position s =
      .next (s.sentOn ((s.reported f rest g side hi lo state).judged g side state (s.gate g).opening) f.frame) := by
  obtain ⟨report, ⟨code, reports, named⟩, -⟩ := h
  rw [exec_position report, State.takePosition_eq (s := { s with fpRx := rest }) (named.parsed reports) serves]
  rfl

/-- Steps 2 and 3 of the checks find nothing in a quiet report (R110, R120, R124). -/
theorem State.HasQuietReport.sampleChecks (h : s.HasQuietReport f rest g side hi lo state) :
    let stored := s.reported f rest g side hi lo state
    stored.sampleChecks g side state = (stored.takeEvidence g side state).laterChecks g := by
  obtain ⟨-, ⟨code, -, named⟩, within⟩ := h
  intro stored
  have evidence : (stored.takeEvidence g side state).gate g = { stored.gate g with
      motion := ((stored.gate g).motion.evidence (stored.record g).handshake side state) } :=
    State.setMotion_gate_self _ _ _
  have untripped : ((stored.takeEvidence g side state).gate g).tripped = false := by
    have skew : ((stored.takeEvidence g side state).gate g).skew = (stored.gate g).skew := by rw [evidence]; rfl
    have record : ((stored.takeEvidence g side state).gate g).record = s.record g := by
      rw [evidence]
      exact State.reported_record g
    unfold Gate.tripped
    rw [skew, record]
    split
    · rename_i k e
      simpa using within k e
    · rfl
  have calm : (stored.takeEvidence g side state).faultCheck g state = stored.takeEvidence g side state :=
    if_neg named.ne_fault
  simp only [State.sampleChecks, calm, State.tripCheck, untripped, Bool.false_eq_true, if_false, State.laterChecks]

end

/-! ### A gate that the checks find held (R74, R120, R124) -/

/-- After a fault the later checks leave the gate as the fault left it (R110). -/
theorem State.checks_of_held {t : State} {r : HoldReason} {d : Option Target}
    (held : (t.gate g).motion = .hold { primary := r, further := [] } d) (other : r ≠ .stale) :
    t.Reach (t.laterChecks g) ∧ (t.laterChecks g).gate g = t.gate g := by
  have cleared : ((t.staleClearing g).gate g) = t.gate g := by
    unfold State.staleClearing
    simp only [held, other, if_false]
    split
    · rw [State.setMotion_gate_self, List.filter_nil, ← held]
    · rfl
  have settled : (t.staleClearing g).settle.gate g = t.gate g := by
    rw [State.settle_gate_of_stands, cleared]
    rw [cleared, held]
    trivial
  have reach := (t.reach_staleClearing g).trans (State.reach_settle _)
  unfold State.laterChecks
  generalize (t.staleClearing g).settle = u at settled reach
  have still : (u.gate g).motion = .hold { primary := r, further := [] } d := by rw [settled, held]
  have started : u.startCheck g = u := by simp only [State.startCheck, still]
  have rested : u.restCheck g = u := by simp only [State.restCheck, still]
  have trimmed : u.trimCheck g = u := by simp only [State.trimCheck, still]
  simp only [started, rested, trimmed]
  exact ⟨reach, settled⟩

/-- The event of a gate that is held or out of service leaves the gate as it is (R15, R73). -/
theorem State.openingChanged_gate_of_stands {t : State} (stands : (t.gate g).motion.stands) :
    (t.openingChanged g).gate g = t.gate g := by
  have checked : t.excursionCheck g = t := State.excursionCheck_of_not_idle fun idle => by
    rw [idle] at stands
    exact stands
  have told := (t.tellNeighbours_spares g).1
  have owed (u : State) (same : u.gate g = t.gate g) : u.settle.gate g = t.gate g := by
    rw [State.settle_gate_of_stands (same ▸ stands), same]
  unfold State.openingChanged
  simp only [checked]
  split
  · exact owed _ told
  · exact owed _ told

theorem State.heldFor.judged {u stored faulted : State} {st : HoistState} {r : HoldReason} (held : u.heldFor faulted g r)
    (other : r ≠ .stale) (checks : stored.sampleChecks g side st = faulted.laterChecks g) (before : Option Nat) :
    u.heldFor (stored.judged g side st before) g r := by
  obtain ⟨reach, same⟩ := State.checks_of_held held.1 other
  have checked : u.heldFor (faulted.laterChecks g) g r := held.reach reach same
  unfold State.judged
  rw [checks]
  split
  · exact checked
  · exact checked.reach (State.reach_openingChanged _ g) (State.openingChanged_gate_of_stands checked.stands)

theorem State.heldFor.sentOn {t : State} {r : HoldReason} (h : s.heldFor t g r) (f : Frame) : s.heldFor (s.sentOn t f) g r := by
  have gate : (s.sentOn t f).gate g = t.gate g := State.sentOn_read s t f (·.gate g) fun _ _ _ => rfl
  have faultN : (s.sentOn t f).faultN = t.faultN := State.sentOn_read s t f State.faultN fun _ _ _ => rfl
  have notices : (s.sentOn t f).notices = t.notices := State.sentOn_read s t f State.notices fun _ _ _ => rfl
  have halts : (s.sentOn t f).haltQueue = t.haltQueue := State.sentOn_read s t f State.haltQueue fun _ _ _ => rfl
  unfold State.heldFor
  rw [gate, faultN, notices, halts]
  exact h

/-! ### O31 -/

theorem Motion.evidence_keeps (m : Motion) (k : Handshake) (side : Side) (st : HoistState) :
    (m.evidence k side st).keptTarget = m.keptTarget ∧ (m.evidence k side st).holdsSlot = m.holdsSlot ∧
      (m.Faultable → (m.evidence k side st).Faultable) := by
  cases m with
  | stopping n => cases n <;> exact ⟨rfl, rfl, fun _ => ⟨rfl, rfl⟩⟩
  | starting => cases k <;> cases st <;> exact ⟨rfl, rfl, fun _ => ⟨rfl, rfl⟩⟩
  | travelling => exact ⟨rfl, rfl, fun _ => ⟨rfl, rfl⟩⟩
  | _ => exact ⟨rfl, rfl, id⟩

/-- The gate as the storing of a sample and its evidence leave it (R109, R110). -/
theorem State.takeEvidence_gate (s : State) (g : GateId) (side : Side) (st : HoistState) :
    (s.takeEvidence g side st).gate g =
      { s.gate g with motion := (s.gate g).motion.evidence (s.record g).handshake side st } := State.setMotion_gate_self _ _ _

theorem State.takeEvidence_tripped (s : State) (g : GateId) (side : Side) (st : HoistState) :
    ((s.takeEvidence g side st).gate g).tripped = (s.gate g).tripped := by
  rw [State.takeEvidence_gate]
  rfl

theorem State.sampleChecks_tripped {st : HoistState} (calm : st ≠ .fault) (tripped : (s.gate g).tripped = true) :
    s.sampleChecks g side st = ((s.takeEvidence g side st).fault g .skew).settle.laterChecks g := by
  have calm : (s.takeEvidence g side st).faultCheck g st = s.takeEvidence g side st := if_neg calm
  simp only [State.sampleChecks, calm, State.tripCheck, State.takeEvidence_tripped, tripped, if_true, State.laterChecks]

theorem State.sampleChecks_faulted (untripped : (s.gate g).tripped = false) :
    s.sampleChecks g side .fault = ((s.takeEvidence g side .fault).fault g .hoistFault).settle.laterChecks g := by
  have faulted : (s.takeEvidence g side .fault).faultCheck g .fault =
      ((s.takeEvidence g side .fault).fault g .hoistFault).settle := if_pos rfl
  have reach := (State.reach_fault (s.takeEvidence g side .fault) g .hoistFault).trans (State.reach_settle _)
  have still : (((s.takeEvidence g side .fault).fault g .hoistFault).settle.gate g).tripped = false := by
    rw [reach.gate g, State.takeEvidence_gate]
    exact untripped
  simp only [State.sampleChecks, faulted, State.tripCheck, still, Bool.false_eq_true, if_false, State.laterChecks]

/-- The state once a report is taken from the buffer and its sample stored (R109). -/
def State.storing (s : State) (rest : List RxFrame) (g : GateId) (side : Side) (x : Report) (stamp : ClockWord) : State :=
  { s with fpRx := rest }.storeSample g side x stamp

section
variable (x : Report) (stamp : ClockWord)

theorem State.storing_gate : (s.storing rest g side x stamp).gate g =
    (s.gate g).withSample side (some ((s.record g).sampleOf side x stamp)) := State.setGate_gate_self _ _ _

theorem State.storing_motion : ((s.storing rest g side x stamp).gate g).motion = (s.gate g).motion :=
  State.storeSample_motion _ g side x stamp

theorem State.storing_record : (s.storing rest g side x stamp).record g = s.record g := by
  rw [State.record, State.storing_gate]
  cases side <;> rfl

/-- A fault found in a stored sample holds the gate for what it was before the report (R74). -/
theorem State.heldFor_report (faultable : (s.gate g).motion.Faultable) (st : HoistState) (r : HoldReason) :
    s.heldFor (((s.storing rest g side x stamp).takeEvidence g side st).fault g r).settle g r := by
  have motion : (((s.storing rest g side x stamp).takeEvidence g side st).gate g).motion =
      (s.gate g).motion.evidence (s.record g).handshake side st := by
    rw [State.takeEvidence_gate, State.storing_motion, State.storing_record]
  obtain ⟨target, slot, kept⟩ := (s.gate g).motion.evidence_keeps (s.record g).handshake side st
  have record : ((s.storing rest g side x stamp).takeEvidence g side st).record g = s.record g := by
    rw [State.record, State.takeEvidence_gate]
    exact State.storing_record x stamp
  obtain ⟨held, faultN, notice, halts⟩ := State.heldFor_fault_settle (g := g) (motion ▸ kept faultable) r
  exact ⟨held.trans (by rw [motion, target]), faultN, notice,
    fun holds side a names => halts (by rw [motion, slot, holds]) side a (record ▸ names)⟩

end

/-- The skew that a sample leaves depends on its corrected position alone (R14). -/
theorem Gate.skew_withSample (x : Gate) (side : Side) {a b : Sample} (e : a.corrected = b.corrected) :
    (x.withSample side (some a)).skew = (x.withSample side (some b)).skew := by
  cases side with
  | left => cases right : x.right <;> simp [Gate.skew, Gate.withSample, right, e]
  | right => cases left : x.left <;> simp [Gate.skew, Gate.withSample, left, e]

theorem Gate.tripped_iff (x : Gate) : x.tripped = true ↔ ∃ k, x.skew = some k ∧ x.record.trip < k.natAbs := by
  unfold Gate.tripped
  cases x.skew <;> simp

/-- Settles O31: the fault found is handed before the later checks, and they leave the hold (`State.heldFor.judged`). -/
theorem skewAndFaultReportsHoldTheGate : Obligations.SkewAndFaultReportsHoldTheGate := by
  intro s f rest g side hi lo st x report reports serves free corrected
  obtain ⟨code, payload⟩ : ∃ code, f.frame.payload = [hi, lo, st] ∧ code = 0 ∨
      ∃ c, f.frame.payload = [hi, lo, st, c] ∧ code = c.toNat := by
    obtain e | ⟨c, e⟩ := reports
    · exact ⟨0, .inl ⟨e, rfl⟩⟩
    · exact ⟨c.toNat, .inr ⟨c, e, rfl⟩⟩
  have parsed := parseReport_position payload
  obtain ⟨zero, one, two, three, more⟩ := reportState_cases st code
  generalize reportState st.toNat code = reported at parsed zero one two three more
  let r : Report := ⟨min (hi.toNat * 256 + lo.toNat) 16383, reported.1, reported.2⟩
  let stored := s.storing rest g side r f.stamp
  have skew : (stored.gate g).skew = ((s.gate g).withSample side (some x)).skew := by
    rw [State.storing_gate]
    exact Gate.skew_withSample _ side corrected.symm
  have record : (stored.gate g).record = s.record g := State.storing_record r f.stamp
  have taken : exec .position s = .next (s.sentOn (stored.judged g side reported.1 (s.gate g).opening) f.frame) := by
    rw [exec_position report, State.takePosition_eq (s := { s with fpRx := rest }) parsed serves]
    rfl
  have held (hold : HoldReason) (other : hold ≠ .stale) (checks : stored.sampleChecks g side reported.1 =
      ((stored.takeEvidence g side reported.1).fault g hold).settle.laterChecks g) :
      ∃ t, exec .position s = .next t ∧ s.heldFor t g hold :=
    ⟨_, taken, ((State.heldFor_report r f.stamp ⟨serves, free⟩ reported.1 hold).judged other checks _).sentOn f.frame⟩
  refine ⟨fun calm trips => held .skew (by decide) (State.sampleChecks_tripped ?_ ?_), fun faults within => ?_⟩
  · have known : st = 0 ∨ st = 1 ∨ st = 2 := by bv_omega
    rcases known with e | e | e
    · simp [zero e]
    · simp [one e]
    · simp [two e]
  · rw [Gate.tripped_iff, skew, record]
    exact trips
  · have faulty : reported.1 = .fault := by
      obtain e | large : st = 3 ∨ 3 < st.toNat := by bv_omega
      · simp [three e]
      · simp [more large]
    have untripped : (stored.gate g).tripped = false := by
      rw [Bool.eq_false_iff, ne_eq, Gate.tripped_iff, skew, record]
      rintro ⟨k, e, trips⟩
      exact absurd (within k e) (by omega)
    exact held .hoistFault (by decide) (faulty ▸ State.sampleChecks_faulted untripped)

end

end Sys2Proof.Machine

/-! ## The evidence of a start (R110 to R113) -/

namespace Sys2Proof.Machine

section
variable {s t : State} {f : RxFrame} {rest : List RxFrame} {g : GateId} {side : Side} {r : Request} {l : Leg} {w : Nat}

theorem State.linkingToward_of_records (records : ∀ h, t.record h = s.record h) (g : GateId) :
    t.linkingToward g = s.linkingToward g := by simp only [State.linkingToward, records]

/-- Where no gate links toward a gate that is not idle, its opening changes nothing further (R15, R72). -/
theorem State.openingChanged_of_unwatched (busy : (s.gate g).motion ≠ .idle) (unlinked : s.linkingToward g = [])
    (paid : s.evalDue = false) : s.openingChanged g = s := by
  have checked := State.excursionCheck_of_not_idle busy
  have told : s.tellNeighbours g = s := by rw [State.tellNeighbours, unlinked]; rfl
  have quiet : s.neighboursPending g = false := by rw [State.neighboursPending, unlinked]; rfl
  simp only [State.openingChanged, checked, told, quiet, Bool.false_eq_true, if_false, State.settle_of_not_due _ paid]

/-- The checks after the fault checks, where no hold is to be cleared and no evaluation is owed (R76, R110). -/
theorem State.laterChecks_of_not_hold (free : (s.gate g).motion.isHold = false) (paid : s.evalDue = false) :
    s.laterChecks g = ((s.startCheck g).restCheck g).trimCheck g := by
  have kept : s.staleClearing g = s := by
    unfold State.staleClearing
    split
    · rename_i held
      simp [held, Motion.isHold] at free
    · rfl
  rw [State.laterChecks, kept, State.settle_of_not_due _ paid]

/-- A gate still starting has nothing further to check (R110). -/
theorem State.laterChecks_starting (starting : (s.gate g).motion = .starting r l w) (paid : s.evalDue = false)
    (waits : l.acks.both = false) : s.laterChecks g = s := by
  have started : s.startCheck g = s := by simp [State.startCheck, starting, waits]
  have rested : s.restCheck g = s := by simp only [State.restCheck, starting]
  have trimmed : s.trimCheck g = s := by simp only [State.trimCheck, starting]
  rw [State.laterChecks_of_not_hold (by rw [starting]; rfl) paid, started, rested, trimmed]

/-- A gate that begins to travel with its skew within trim has no hoist to pause (R113, R118). -/
theorem State.laterChecks_started (starting : (s.gate g).motion = .starting r l w) (pulsed : (s.record g).handshake = .pulsed)
    (unpaused : l.paused = none) (paid : s.evalDue = false) (both : l.acks.both = true)
    (within : (s.gate g).needsTrim = false) : s.laterChecks g = s.enterTravelling g r l := by
  have started : s.startCheck g = s.enterTravelling g r l := by simp [State.startCheck, starting, pulsed, both]
  have travelling : ((s.enterTravelling g r l).gate g).motion = .travelling r { l with acks := .empty } :=
    by rw [State.enterTravelling, State.setMotion_gate_self]
  have rested : (s.enterTravelling g r l).restCheck g = s.enterTravelling g r l := by
    simp [State.restCheck, travelling, SideSet.both, SideSet.empty]
  have still : ((s.enterTravelling g r l).gate g).needsTrim = false := by
    rw [State.enterTravelling, State.setMotion_gate_self]
    exact within
  have trimmed : (s.enterTravelling g r l).trimCheck g = s.enterTravelling g r l := by
    simp only [State.trimCheck, travelling, unpaused, still]
    split <;> rfl
  rw [State.laterChecks_of_not_hold (by rw [starting]; rfl) paid, started, rested, trimmed]

theorem SideSet.add_eq (a : SideSet) (side : Side) : a.add side = match side with
    | .left => { a with left := true }
    | .right => { a with right := true } := by cases side <;> rfl

/-- An ACK of RUN in STARTING under INTERLOCKED adds its side, and the second starts the travel (R111). -/
theorem State.takeAck_run (starting : (s.gate g).motion = .starting r l w) (locked : (s.record g).handshake = .interlocked)
    {p : List Byte} (run : p = [0x40#8]) : s.takeAck g side p = s.setMotion g
      (if (l.acks.add side).both then .travelling r { l with acks := .empty }
       else .starting r { l with acks := l.acks.add side } w) := by
  simp only [State.takeAck, run, Config.kindRun, if_true, State.ackOfRun, starting, locked, State.enterTravelling]
  split <;> rfl

/-- Every other ACK leaves the state (R112). -/
theorem State.takeAck_ignored {p : List Byte} (ignored : (∀ r l w, (s.gate g).motion ≠ .starting r l w) ∨
    (s.record g).handshake = .pulsed ∨ p ≠ [0x40#8]) : s.takeAck g side p = s := by
  unfold State.takeAck
  split
  · next run =>
    unfold State.ackOfRun
    split
    · next starting =>
      obtain busy | pulsed | other := ignored
      · exact absurd starting (busy _ _ _)
      · simp [pulsed]
      · exact absurd run other
    · rfl
  · rfl

/-- A report that leaves its gate starting or sets it travelling is stored, judged so, and sent on (R110, R113). -/
theorem exec_of_checks {hi lo : Byte} {state : HoistState} (h : s.HasQuietReport f rest g side hi lo state)
    (serves : (s.gate g).motion.isOutOfService = false) (unlinked : s.linkingToward g = [])
    (checks : (s.reported f rest g side hi lo state).sampleChecks g side state = t)
    (records : ∀ h, t.record h = s.record h) (busy : (t.gate g).motion ≠ .idle) (paid : t.evalDue = false) :
    exec .position s = .next (s.sentOn t f.frame) := by
  have changed := State.openingChanged_of_unwatched busy
    ((State.linkingToward_of_records records g).trans unlinked) paid
  rw [h.exec serves, State.judged, checks, changed, ite_self]

/-- Settles O36: an ACK of RUN changes its gate alone (`State.takeAck_run`), and a report to a gate in STARTING ends the
checks with its start (`State.laterChecks_started`) or before it (`State.laterChecks_starting`). -/
theorem startEvidenceStartsTheTravel : Obligations.StartEvidenceStartsTheTravel := by
  refine ⟨fun s f rest g side report => ⟨fun r l w starting locked run => ?_, fun ignored => ?_⟩,
    fun s f rest g side hi lo state r l w quiet starting pulsed unpaused paid unlinked within => ?_⟩
  · rw [exec_ack report, State.takeAck_run (s := { s with fpRx := rest }) starting locked run]
    cases side <;> rfl
  · rw [exec_ack report, State.takeAck_ignored (s := { s with fpRx := rest }) ignored]
  · have serves : (s.gate g).motion.isOutOfService = false := by rw [starting]; rfl
    let stored := s.reported f rest g side hi lo state
    have still : (stored.gate g).motion = .starting r l w := State.reported_motion.trans starting
    have handshake : (stored.record g).handshake = .pulsed := by rw [State.reported_record, pulsed]
    have record : (stored.gate g).record = s.record g := State.reported_record g
    have untrimmed : (stored.gate g).needsTrim = false := by
      unfold Gate.needsTrim
      split
      · next k e => simpa [record] using within k e
      · rfl
    have kept (m : Motion) (h : GateId) : (stored.setMotion g m).record h = s.record h := by
      rw [State.setMotion_record, State.reported_record]
    refine ⟨fun moving => ?_, fun rests waits => ?_⟩
    · subst moving
      have taken : stored.takeEvidence g side .moving =
          stored.setMotion g (.starting r { l with acks := l.acks.add side } w) := by
        rw [State.takeEvidence, still, handshake]
        rfl
      have added : ((stored.takeEvidence g side .moving).gate g).motion =
          .starting r { l with acks := l.acks.add side } w := by rw [taken, State.setMotion_gate_self]
      have checks : (stored.takeEvidence g side .moving).laterChecks g = stored.setMotion g
          (if (l.acks.add side).both then .travelling r { l with acks := .empty }
           else .starting r { l with acks := l.acks.add side } w) := by
        by_cases both : (l.acks.add side).both = true
        · rw [State.laterChecks_started added (by rw [taken, kept, pulsed]) unpaused (by rw [taken]; exact paid) both
            (by rw [State.takeEvidence_gate]; exact untrimmed), State.enterTravelling, taken, State.setMotion_setMotion,
            if_pos both]
        · rw [State.laterChecks_starting added (by rw [taken]; exact paid) (by simpa using both), taken, if_neg both]
      have busy : ((stored.setMotion g (if (l.acks.add side).both then .travelling r { l with acks := .empty }
          else .starting r { l with acks := l.acks.add side } w)).gate g).motion ≠ .idle := by
        rw [State.setMotion_gate_self]
        split <;> nofun
      have result := exec_of_checks quiet serves unlinked (quiet.sampleChecks.trans checks) (kept _) busy paid
      rw [SideSet.add_eq] at result
      exact result
    · have unchanged : stored.takeEvidence g side state = stored := State.setMotion_same
        (by
          rw [still, handshake]
          cases state with
          | moving => exact absurd rfl rests
          | _ => rfl) State.reported_faultN
      have waiting : l.acks.both = false := waits
      exact exec_of_checks quiet serves unlinked
        (quiet.sampleChecks.trans (by rw [unchanged]; exact State.laterChecks_starting still paid waiting))
        State.reported_record (by rw [still]; nofun) paid

end

end Sys2Proof.Machine

/-! ## Where an evaluation leads a gate (R69, R73, R74, R88 to R92) -/

namespace Sys2Proof.Machine

/-! ### What is told of one gate -/

/-- A gate that an evaluation does not move: IDLE, HOLD or OUT_OF_SERVICE. -/
def Motion.rests (m : Motion) : Prop := m = .idle ∨ m.stands

/-- The gate moves, or it stops for REQUEUE with a HALT waiting for each hoist (R69, R92). -/
def State.Runs (s : State) (g : GateId) : Prop :=
  (∃ r l w, (s.gate g).motion = .starting r l w) ∨ (∃ r l, (s.gate g).motion = .travelling r l) ∨
    ∃ r l w, (s.gate g).motion = .stopping (.requeue r) l w ∧
      ∀ side a, (s.record g).hoist side = some a → a ∈ s.haltQueue

/-- The gate would ask for its ceiling on entry to IDLE (R73). -/
def State.Follows (s : State) (g : GateId) : Prop :=
  (s.record g).trackCeiling = true ∧ s.stopAsserted = false ∧ (s.gate g).excursion ≠ none

/-- What may have become of a gate that was PENDING: it waits, runs, a hold keeps its target, or its request was satisfied and
the gate is IDLE with no excursion that it follows. -/
def State.Awaits (s : State) (g : GateId) : Prop :=
  (∃ r, (s.gate g).motion = .pending r) ∨ s.Runs g ∨ (∃ h k, (s.gate g).motion = .hold h (some k)) ∨
    ((s.gate g).motion = .idle ∧ ¬ s.Follows g)

/-- No leg of the gate has both its acks. -/
def Motion.unready (m : Motion) : Prop := ∀ l, m.leg = some l → l.acks.both = false

/-- From `s` to `t` a gate turns as an evaluation may turn it. -/
structure State.Turns (g : GateId) (s t : State) : Prop where
  reach : s.Reach t
  resting : (s.gate g).motion.rests → t.gate g = s.gate g
  stopping : ∀ n l w, (s.gate g).motion = .stopping n l w → ∃ l', (t.gate g).motion = .stopping n l' w
  running : s.Runs g → t.Runs g
  awaiting : s.Awaits g → t.Awaits g
  unready : (s.gate g).motion.unready → (t.gate g).motion.unready

section
variable {s t u : State} {g h : GateId} {r q : Request}

theorem State.Turns.refl (s : State) : State.Turns g s s := ⟨.refl, fun _ => rfl, fun _ l _ e => ⟨l, e⟩, id, id, id⟩

theorem State.Turns.trans (a : State.Turns g s t) (b : State.Turns g t u) : State.Turns g s u where
  reach := a.reach.trans b.reach
  resting rests := by
    have first := a.resting rests
    exact (b.resting (first ▸ rests)).trans first
  stopping n l w e := by
    obtain ⟨l', stops⟩ := a.stopping n l w e
    exact b.stopping n l' w stops
  running e := b.running (a.running e)
  awaiting e := b.awaiting (a.awaiting e)
  unready e := b.unready (a.unready e)

theorem State.Reach.follows (reach : s.Reach t) : t.Follows g ↔ s.Follows g := by
  have excursion : (t.gate g).excursion = (s.gate g).excursion := by rw [reach.gate g]; rfl
  rw [State.Follows, State.Follows, reach.record, reach.stopAsserted, excursion]

/-- A gate whose motion is another only in the stamp of its leg turns so. -/
theorem State.turns_of_restamped (reach : s.Reach t) (f : Nat → Nat)
    (same : t.gate g = { s.gate g with motion := (s.gate g).motion.restamped f }) : State.Turns g s t := by
  have motion : (t.gate g).motion = (s.gate g).motion.restamped f := by rw [same]
  have running : s.Runs g → t.Runs g := by
    rintro (⟨r, l, w, e⟩ | ⟨r, l, e⟩ | ⟨r, l, w, e, halted⟩)
    · exact .inl ⟨r, _, w, by rw [motion, e]; rfl⟩
    · exact .inr (.inl ⟨r, _, by rw [motion, e]; rfl⟩)
    · exact .inr (.inr ⟨r, _, w, by rw [motion, e]; rfl, fun side a names =>
        reach.haltQueue (halted side a (reach.record g ▸ names))⟩)
  refine ⟨reach, fun rests => ?_, fun n l w e => ⟨_, by rw [motion, e]; rfl⟩, running, ?_, fun unready l leg => ?_⟩
  · have still : (s.gate g).motion.restamped f = (s.gate g).motion := by
      obtain idle | stands := rests
      · rw [idle]; rfl
      · generalize (s.gate g).motion = m at stands
        cases m with
        | outOfService | hold => rfl
        | _ => exact stands.elim
    rw [same, still]
  · rintro (⟨r, e⟩ | runs | ⟨h, k, e⟩ | ⟨e, quiet⟩)
    · exact .inl ⟨r, by rw [motion, e]; rfl⟩
    · exact .inr (.inl (running runs))
    · exact .inr (.inr (.inl ⟨h, k, by rw [motion, e]; rfl⟩))
    · exact .inr (.inr (.inr ⟨by rw [motion, e]; rfl, fun follows => quiet (reach.follows.mp follows)⟩))
  · rw [motion] at leg
    generalize (s.gate g).motion = m at unready leg
    cases m with
    | starting r l' => cases leg; exact unready l' rfl
    | travelling r l' => cases leg; exact unready l' rfl
    | stopping n l' => cases leg; exact unready l' rfl
    | _ => cases leg

theorem Motion.restamped_id (m : Motion) : m.restamped id = m := by cases m <;> rfl

theorem State.turns_of_same (reach : s.Reach t) (same : t.gate g = s.gate g) : State.Turns g s t :=
  State.turns_of_restamped reach id (by rw [same, Motion.restamped_id])

/-- A gate that was PENDING turns as its awaiting tells. -/
theorem State.turns_of_pending (reach : s.Reach t) (pending : (s.gate g).motion = .pending r) (awaits : t.Awaits g)
    (unready : (t.gate g).motion.unready) : State.Turns g s t where
  reach := reach
  resting rests := by rw [pending] at rests; obtain e | e := rests; cases e; exact e.elim
  stopping n l w e := by rw [pending] at e; cases e
  running := by
    rintro (⟨r, l, w, e⟩ | ⟨r, l, e⟩ | ⟨r, l, w, e, -⟩) <;> rw [pending] at e <;> cases e
  awaiting _ := awaits
  unready _ := unready

/-- What an act on one gate does to the gates is told by that gate. -/
theorem State.turns_of_one (reach : s.Reach t) (others : g ≠ h → t.gate g = s.gate g)
    (own : g = h → State.Turns g s t) : State.Turns g s t := by
  by_cases same : g = h
  · exact own same
  · exact State.turns_of_same reach (others same)

theorem State.turns_sweep (hs : List GateId) {act : State → GateId → State} (one : ∀ (t : State) h, State.Turns g t (act t h))
    (s : State) : State.Turns g s (s.sweep hs act) := by
  unfold State.sweep
  induction hs generalizing s with
  | nil => exact .refl s
  | cons h hs ih => exact (one s h).trans (ih _)

/-! ### Marking, weighing and granting -/

theorem Motion.unready_of_leg {m : Motion} (e : m.leg = none) : m.unready := fun l leg => by rw [e] at leg; cases leg

theorem Motion.unready_of_empty {m : Motion} {l : Leg} (e : m.leg = some l) (empty : l.acks = .empty) : m.unready :=
  fun l' leg => by
    cases e.symm.trans leg
    rw [empty]
    rfl

/-- A request that waits on, with a new wait reason or as asked anew (R50, R89). -/
theorem State.turns_setMotion_pending (pending : (s.gate h).motion = .pending r) (q : Request) :
    State.Turns g s (s.setMotion h (.pending q)) := by
  have reach := s.reach_setMotion h (.pending q) (fun _ => trivial) fun _ e => by rw [pending] at e; cases e
  refine State.turns_of_one reach (fun other => s.setMotion_gate_ne _ other) fun same => ?_
  subst same
  have motion : ((s.setMotion g (.pending q)).gate g).motion = .pending q := by rw [State.setMotion_gate_self]
  exact State.turns_of_pending reach pending (.inl ⟨q, motion⟩) (Motion.unready_of_leg (by rw [motion]; rfl))

theorem State.turns_markMasked (s : State) : State.Turns g s s.markMasked := by
  refine State.turns_sweep _ (fun t h => ?_) s
  unfold State.markOne
  split
  · exact State.turns_setMotion_pending ‹_› _
  · exact .refl t

theorem State.turns_readyCounter (s : State) : State.Turns g s s.readyCounter := by
  unfold State.readyCounter
  split
  · exact .refl s
  · have swept : State.Turns g s (s.restampAll fun x => (s.heldStamps.filter fun y => y < x).length + 1) := by
      refine State.turns_sweep allGates (fun t h => ?_) s
      have reach := t.reach_setMotion h _ (Motion.restamped_holdSound _ fun x =>
        (s.heldStamps.filter fun y => y < x).length + 1) fun _ k => by rw [Motion.restamped_request, k]
      exact State.turns_of_one reach (fun other => t.setMotion_gate_ne _ other)
        fun same => State.turns_of_restamped reach _ (by rw [same, State.setMotion_gate_self])
    rw [State.renumber_eq]
    exact swept.trans (State.turns_of_same (.counts _ _ _ _ .refl) (State.grants_gate _ _ g))

theorem State.turns_grant (p : Plan) (pending : (s.gate h).motion = .pending r) (free : s.stopAsserted = false) :
    State.Turns g s (s.grant h q p) := by
  have ready := State.readyCounter_pending pending
  have counter := State.turns_readyCounter (g := g) s
  obtain ⟨others, own⟩ := ((s.readyCounter.counted h).startLeg h q p (s.readyCounter.grantCounter + 1)).faultIfStale_gate h
  have granted : s.grant h q p =
      ((s.readyCounter.counted h).startLeg h q p (s.readyCounter.grantCounter + 1)).faultIfStale h := rfl
  have reach : s.readyCounter.Reach (s.grant h q p) := by
    have counted : s.readyCounter.Reach (s.readyCounter.counted h) := .counts _ _ _ _ .refl
    exact (counted.trans (State.reach_startLeg _ h q p _ fun a =>
      absurd (a.symm.trans ((s.reach_readyCounter.trans counted).free free)) (by decide))).trans (State.reach_faultIfStale _ h)
  refine counter.trans (State.turns_of_one (h := h) reach (fun other => ?_) fun same => ?_)
  · rw [granted, others g other, State.startLeg_gate, if_neg other, State.counted_gate]
  · subst same
    rw [State.startLeg_gate, if_pos rfl, State.counted_gate] at own
    obtain started | held := own
    · have motion := congrArg Gate.motion started
      rw [← granted] at motion
      exact State.turns_of_pending reach ready (.inr (.inl (.inl ⟨_, _, _, motion⟩)))
        (motion ▸ Motion.unready_of_empty rfl rfl)
    · have motion := congrArg Gate.motion held
      rw [← granted] at motion
      exact State.turns_of_pending reach ready (.inr (.inr (.inl ⟨_, _, motion⟩))) (motion ▸ Motion.unready_of_leg rfl)

/-- The excursion check of an IDLE gate leaves it IDLE, or PENDING where it follows its ceiling (R73). -/
theorem State.excursionCheck_awaits (idle : (s.gate g).motion = .idle) :
    (s.excursionCheck g).Awaits g ∧ ((s.excursionCheck g).gate g).motion.leg = none := by
  have reach := s.reach_excursionCheck g
  have still (quiet : ¬ s.Follows g) (same : ((s.excursionCheck g).gate g).motion = .idle) :
      (s.excursionCheck g).Awaits g ∧ ((s.excursionCheck g).gate g).motion.leg = none :=
    ⟨.inr (.inr (.inr ⟨same, fun follows => quiet (reach.follows.mp follows)⟩)), by rw [same]; rfl⟩
  cases excursion : (s.gate g).excursion with
  | none =>
    refine still (fun follows => follows.2.2 excursion) ?_
    rw [State.excursionCheck_of_none idle excursion]
    simp [idle]
  | some oc =>
    have checked : s.excursionCheck g = s.actOnExcursion g oc.1 oc.2 := by simp [State.excursionCheck, idle, excursion]
    unfold State.actOnExcursion at checked
    split at checked
    · have motion : ((s.excursionCheck g).gate g).motion =
          .pending (.fresh oc.2 (s.envelopeLevel g) .envelope) := by rw [checked]; simp
      exact ⟨.inl ⟨_, motion⟩, by rw [motion]; rfl⟩
    · rename_i drops
      refine still (fun follows => drops (by simp [follows.1, follows.2.1])) ?_
      rw [checked]
      split <;> simp [idle]

theorem State.turns_completePending (pending : (s.gate h).motion = .pending r) : State.Turns g s (s.completePending h) := by
  refine State.turns_of_one (s.reach_completePending h) (fun other => s.completePending_gate_ne other) fun same => ?_
  subst same
  obtain ⟨awaits, leg⟩ := State.excursionCheck_awaits (s := (s.leaveList g .idle).postArrived g) (g := g) (by simp)
  exact State.turns_of_pending (s.reach_completePending g) pending awaits (Motion.unready_of_leg leg)

/-- The weighing of a request that waits, as the walk and the preemption test make it (R50, R89, R91). -/
theorem State.turns_weighed (pending : (s.gate h).motion = .pending r) :
    State.Turns g s ((s.weighPosted h r).setMotion h (.pending (s.weighed h r))) ∧
      (∀ p, s.stopAsserted = false → State.Turns g s ((s.weighPosted h r).grant h (s.weighed h r) p)) ∧
      State.Turns g s ((s.weighPosted h r).completePending h) := by
  have reach : s.Reach (s.weighPosted h r) := s.reach_postSome _
  have posted : State.Turns g s (s.weighPosted h r) := State.turns_of_same reach (s.postSome_gate _ g)
  have still : ((s.weighPosted h r).gate h).motion = .pending r := by
    rw [State.weighPosted, State.postSome_gate]
    exact pending
  exact ⟨posted.trans (State.turns_setMotion_pending still _),
    fun p free => posted.trans (State.turns_grant p still (reach.free free)), posted.trans (State.turns_completePending still)⟩

theorem State.turns_weighInWalk (s : State) (h : GateId) (free : s.stopAsserted = false) :
    State.Turns g s (s.weighInWalk h) := by
  by_cases pending : ∃ r, (s.gate h).motion = .pending r
  · obtain ⟨r, pending⟩ := pending
    obtain ⟨left, granted, completed⟩ := State.turns_weighed (g := g) pending
    rw [State.weighInWalk_eq pending]
    split
    · exact granted _ free
    · exact completed
    · exact left
  · unfold State.weighInWalk
    split
    · exact absurd ⟨_, ‹_›⟩ pending
    · exact .refl s

theorem State.turns_weighForPreemption (s : State) (h : GateId) : State.Turns g s (s.weighForPreemption h).1 := by
  by_cases pending : ∃ r, (s.gate h).motion = .pending r
  · obtain ⟨r, pending⟩ := pending
    obtain ⟨left, -, completed⟩ := State.turns_weighed (g := g) pending
    rw [State.weighForPreemption_eq pending]
    split
    · exact completed
    · exact left
  · rw [State.weighForPreemption_of_not fun r e => pending ⟨r, e⟩]
    exact .refl s

/-! ### Walk, preemption and evaluation -/

theorem State.turns_walk (hs : List GateId) (s : State) (free : s.stopAsserted = false) : State.Turns g s (s.walk hs).1 := by
  induction hs generalizing s with
  | nil => exact .refl s
  | cons h hs ih =>
    unfold State.walk
    split
    · have weighed := State.turns_weighInWalk (g := g) s h free
      exact weighed.trans (ih _ (weighed.reach.free free))
    · exact .refl s

theorem State.turns_movable (hs : List GateId) (s : State) : State.Turns g s (s.movable hs).1 := by
  induction hs generalizing s with
  | nil => exact .refl s
  | cons h hs ih => exact (State.turns_weighForPreemption s h).trans (ih _)

/-- A gate that moves and is stopped for REQUEUE with HALT to its hoists still runs (R69, R92). -/
theorem State.turns_requeued {l : Leg}
    (moves : (∃ w, (s.gate h).motion = .starting r l w) ∨ (s.gate h).motion = .travelling r l) :
    State.Turns g s (s.enterStopping h (.requeue r) l) := by
  have asks : (s.gate h).motion.request = some r := by
    obtain ⟨w, e⟩ | e := moves <;> rw [e] <;> rfl
  have reach := s.reach_enterStopping h (.requeue r) l fun _ none => by rw [asks] at none; cases none
  refine State.turns_of_one (h := h) reach (fun other => ?_) fun same => ?_
  · rw [State.enterStopping, State.setMotion_gate_ne _ _ other, State.haltGate_gate]
  · subst same
    have motion : ((s.enterStopping g (.requeue r) l).gate g).motion = .stopping (.requeue r)
        { l with acks := .empty, paused := none } (4 * ((s.haltGate g).record g).sampleWindow) := by
      rw [State.enterStopping, State.setMotion_gate_self]
    have runs : (s.enterStopping g (.requeue r) l).Runs g := .inr (.inr ⟨_, _, _, motion, fun side a names => by
      rw [State.enterStopping, State.setMotion_haltQueue]
      exact s.haltGate_haltQueue (reach.record g ▸ names)⟩)
    refine ⟨reach, fun rests => ?_, fun n l w e => ?_, fun _ => runs, fun _ => .inr (.inl runs),
      fun _ => motion ▸ Motion.unready_of_empty rfl rfl⟩
    · obtain ⟨w, e⟩ | e := moves <;> rw [e] at rests <;> obtain e | e := rests <;> cases e
    · obtain ⟨w, m⟩ | m := moves <;> rw [m] at e <;> cases e

theorem State.turns_preempt (s : State) (v b : GateId) : State.Turns g s (s.preempt v b) := by
  have done {t : State} (turns : State.Turns g s t) : State.Turns g s (t.post (.preempted v b)) :=
    turns.trans (State.turns_of_same (.post _ .refl) (t.post_gate _ g))
  unfold State.preempt
  simp only
  split
  · exact done (State.turns_requeued (.inl ⟨_, ‹_›⟩))
  · exact done (State.turns_requeued (.inr ‹_›))
  · exact done (.refl s)

theorem State.turns_preemptFor (bs : List GateId) (s : State) : State.Turns g s (s.preemptFor bs) := by
  induction bs generalizing s with
  | nil => exact .refl s
  | cons b bs ih =>
    unfold State.preemptFor
    split
    · exact .refl s
    · exact (s.turns_preempt _ b).trans (ih _)

theorem State.turns_evaluate (s : State) : State.Turns g s s.evaluate := by
  have marked : State.Turns g s s.paid.markMasked :=
    (State.turns_of_same s.reach_paid (s.paid_gate g)).trans s.paid.turns_markMasked
  by_cases free : s.stopAsserted = false
  · have walked := marked.trans (State.turns_walk s.paid.markMasked.walkOrder _ (marked.reach.free free))
    rw [State.evaluate_eq free]
    split
    · exact walked
    · exact walked.trans ((State.turns_movable _ _).trans (State.turns_preemptFor _ _))
  · have stopped : s.evaluate = s.paid.markMasked := by
      unfold State.evaluate
      have still : s.paid.markMasked.stopAsserted = true := by rw [marked.reach.stopAsserted]; simpa using free
      simp only [show { s with evalDue := false } = s.paid from rfl, still, if_true]
    rwa [stopped]

theorem State.turns_evaluateDue (n : Nat) (s : State) : State.Turns g s (State.evaluateDue n s) := by
  induction n generalizing s with
  | zero => exact State.turns_of_same s.reach_paid (s.paid_gate g)
  | succ n ih =>
    unfold State.evaluateDue
    split
    · exact s.turns_evaluate.trans (ih _)
    · exact .refl s

/-- Where the evaluations of an event lead every gate (R88 to R92). -/
theorem State.turns_settle (s : State) (g : GateId) : State.Turns g s s.settle := s.turns_evaluateDue _

theorem State.settle_gate_of_rests (rests : (s.gate g).motion.rests) : s.settle.gate g = s.gate g :=
  (s.turns_settle g).resting rests

end

end Sys2Proof.Machine

/-! ## The excursion check of an opening change (R15, R72, R73) -/

namespace Sys2Proof.Machine

section
variable {s t u : State} {f : RxFrame} {rest : List RxFrame} {g h : GateId} {side : Side} {hi lo : Byte} {state : HoistState}

/-! ### The gates that are told -/

theorem State.Reach.notices_prefix (reach : s.Reach t) : s.notices <+: t.notices := by
  induction reach with
  | refl => exact List.prefix_refl _
  | post m _ ih =>
    unfold State.post
    split
    · exact ih.trans (List.prefix_append _ _)
    · exact ih
  | pushPause b _ ih => rw [State.pushPause_eq]; exact ih
  | pushResume b _ ih => rw [State.pushResume_eq]; exact ih
  | _ => simpa using ‹_ <+: _›

/-- From `s` to `t` gates that move may be re-targeted, the gate `g` not among them (R15, R66). -/
structure State.Nudges (g : GateId) (s t : State) : Prop where
  reach : s.Reach t
  gate : t.gate g = s.gate g
  waiting : t.waiting = s.waiting
  slots : t.slotsInUse = s.slotsInUse
  due : t.evalDue = s.evalDue
  pending : ∀ k q, (t.gate k).motion = .pending q → (s.gate k).motion = .pending q

theorem State.Nudges.refl (s : State) : State.Nudges g s s := ⟨.refl, rfl, rfl, rfl, rfl, fun _ _ => id⟩

theorem State.Nudges.trans (a : State.Nudges g s t) (b : State.Nudges g t u) : State.Nudges g s u :=
  ⟨a.reach.trans b.reach, b.gate.trans a.gate, b.waiting.trans a.waiting, b.slots.trans a.slots, b.due.trans a.due,
    fun k q e => a.pending k q (b.pending k q e)⟩

/-- A re-target check leaves its gate moving or stopping (R66 to R68). -/
theorem State.retargetMoving_not_pending (s : State) (h : GateId) (r q : Request) (l : Leg) (window : Option Nat) :
    ((s.retargetMoving h r l window).gate h).motion ≠ .pending q := by
  have stops (t : State) (next : NextStep) : ((t.enterStopping h next l).gate h).motion ≠ .pending q := by
    rw [State.enterStopping, State.setMotion_gate_self]
    nofun
  have moves (t : State) (r : Request) : ((t.setMotion h (movingWith r l window)).gate h).motion ≠ .pending q := by
    rw [State.setMotion_gate_self]
    cases window <;> nofun
  rw [State.retargetMoving_eq]
  split
  · exact stops _ _
  · exact stops _ _
  · exact moves _ _
  · split
    · split
      · exact moves _ _
      · rw [State.goOn_motion]
        split <;> nofun
    · exact stops _ _

theorem State.nudges_retarget (s : State) (other : g ≠ h) : State.Nudges g s (s.retarget h) := by
  have reach := s.reach_retarget h
  have moving (r : Request) (l : Leg) (window : Option Nat) (e : s.retarget h = s.retargetMoving h r l window) :
      State.Nudges g s (s.retarget h) := by
    have acts := s.actsOn_retargetMoving h r l window
    rw [← e] at acts
    refine ⟨reach, acts.others g other, acts.waiting, acts.slots, acts.due, fun k q pending => ?_⟩
    by_cases own : k = h
    · subst own
      rw [e] at pending
      exact absurd pending (s.retargetMoving_not_pending k r q l window)
    · rwa [acts.others k own] at pending
  cases motion : (s.gate h).motion with
  | starting r l w => exact moving r l (some w) (by simp only [State.retarget, motion])
  | travelling r l => exact moving r l none (by simp only [State.retarget, motion])
  | _ =>
    have same : s.retarget h = s := by simp only [State.retarget, motion]
    rw [same]
    exact .refl s

theorem State.nudges_tellNeighbours (s : State) (g : GateId) : State.Nudges g s (s.tellNeighbours g) := by
  have apart : ∀ h ∈ s.linkingToward g, g ≠ h := fun _ linked => (State.ne_of_linkingToward linked).symm
  unfold State.tellNeighbours State.sweep
  generalize s.linkingToward g = hs at apart
  induction hs generalizing s with
  | nil => exact .refl s
  | cons h hs ih =>
    exact (s.nudges_retarget (apart h List.mem_cons_self)).trans
      (ih (s.retarget h) fun k hk => apart k (List.mem_cons_of_mem h hk))

/-- The event of an opening change: the excursion check, the gates that are told, and the evaluations (R15). -/
theorem State.openingChanged_steps (s : State) (g : GateId) : ∃ t, State.Nudges g (s.excursionCheck g) t ∧
    (s.openingChanged g = t.settle ∨ s.openingChanged g = t.owe.settle) := by
  refine ⟨_, State.nudges_tellNeighbours (s.excursionCheck g) g, ?_⟩
  unfold State.openingChanged
  simp only
  split
  · exact .inr rfl
  · exact .inl rfl

/-- A gate that the check leaves at rest is left so by the event (R73). -/
theorem State.openingChanged_gate_of_rests (rests : ((s.excursionCheck g).gate g).motion.rests) :
    (s.openingChanged g).gate g = (s.excursionCheck g).gate g := by
  obtain ⟨t, nudges, e⟩ := s.openingChanged_steps g
  rw [← nudges.gate] at rests ⊢
  obtain e | e := e <;> rw [e]
  · exact State.settle_gate_of_rests rests
  · exact State.settle_gate_of_rests (s := t.owe) rests

/-! ### Evaluations that only mark -/

/-- Where every request that waits is masked, the evaluations of an event only mark (R89). -/
theorem State.settle_of_masked (due : s.evalDue = true) (masked : s.AllMasked) : s.settle = s.paid.markMasked := by
  have marked := s.paid.marks_markMasked
  have settings : s.paid.markMasked.settings = s.settings := (s.reach_paid.trans s.paid.reach_markMasked).settings
  have hidden (level : Nat) (h : GateId) (e : s.paid.markMasked.pendingLevel h = some level) :
      s.paid.markMasked.settings.masks level = true := by
    rw [marked.levels] at e
    rw [settings, State.masks_iff]
    change s.pendingLevel h = some level at e
    unfold State.pendingLevel at e
    split at e
    · cases e
      exact masked h _ ‹_›
    · cases e
  have order : s.paid.markMasked.walkOrder = [] := by
    simp only [State.walkOrder, List.flatMap_eq_nil_iff, List.filter_eq_nil_iff]
    intro level _ h _
    simp only [decide_eq_true_eq, not_and, Bool.not_eq_true', Bool.not_eq_false]
    exact hidden level h
  have done : s.evaluate = s.paid.markMasked := by
    by_cases free : s.stopAsserted = false
    · rw [State.evaluate_eq free, order]
      split
      · rfl
      · exact State.preemptionTest_of_none nofun
    · have still : s.paid.markMasked.stopAsserted = true := by
        rw [(s.reach_paid.trans s.paid.reach_markMasked).stopAsserted]
        simpa using free
      unfold State.evaluate
      simp only [show { s with evalDue := false } = s.paid from rfl, still, if_true]
  rw [State.settle_of_evaluate due (by rw [done]; exact marked.due), done]

/-! ### A request that asks for the ceiling -/

/-- The request of a gate that follows its ceiling (R73). -/
def State.follower (s : State) (g : GateId) (c : Nat) : Request := .fresh c (s.envelopeLevel g) .envelope

/-- Above its ceiling, an IDLE gate that follows it asks for it (R73). -/
theorem State.excursionCheck_follows {o c : Nat} (idle : (s.gate g).motion = .idle)
    (excursion : (s.gate g).excursion = some (o, c))
    (tracks : (s.record g).trackCeiling = true) (free : s.stopAsserted = false) :
    s.excursionCheck g = s.joinTail g (s.follower g c) := by
  simp [State.excursionCheck, idle, excursion, State.actOnExcursion, tracks, free, State.follower]

/-- Above its ceiling, an IDLE gate that does not follow it is reported, where it is not yet (R73). -/
theorem State.excursionCheck_reports {o c : Nat} (idle : (s.gate g).motion = .idle)
    (excursion : (s.gate g).excursion = some (o, c))
    (leads : (s.record g).trackCeiling = false ∨ s.stopAsserted = true) : s.excursionCheck g =
      if (s.gate g).excursionReported then s else (s.post (.excursion g o c)).setExcursion g true := by
  have drops : ((s.record g).trackCeiling && !s.stopAsserted) = false := by
    obtain e | e := leads <;> simp [e]
  simp [State.excursionCheck, idle, excursion, State.actOnExcursion, drops]

theorem Gate.excursion_of_above {x : Gate} {o c : Nat} (opening : x.opening = some o) (ceiling : x.ceiling = some c)
    (above : c + x.record.arriveTol < o) : x.excursion = some (o, c) := by
  simp [Gate.excursion, opening, ceiling, above]

theorem Gate.excursion_of_within {x : Gate} {o c : Nat} (opening : x.opening = some o) (ceiling : x.ceiling = some c)
    (within : o ≤ c + x.record.arriveTol) : x.excursion = none := by
  simp [Gate.excursion, opening, ceiling, Nat.not_lt.mpr within]

/-! ### A report to an IDLE gate -/

theorem State.laterChecks_idle (idle : (s.gate g).motion = .idle) (paid : s.evalDue = false) : s.laterChecks g = s := by
  have started : s.startCheck g = s := by simp only [State.startCheck, idle]
  have rested : s.restCheck g = s := by simp only [State.restCheck, idle]
  have trimmed : s.trimCheck g = s := by simp only [State.trimCheck, idle]
  rw [State.laterChecks_of_not_hold (by rw [idle]; rfl) paid, started, rested, trimmed]

/-- A report that changes the opening of an IDLE gate makes the event of the change alone (R15, R110). -/
theorem exec_of_idle (quiet : s.HasQuietReport f rest g side hi lo state) (idle : (s.gate g).motion = .idle)
    (paid : s.evalDue = false)
    (changed : (s.gate g).opening ≠ ((s.reported f rest g side hi lo state).gate g).opening) : exec .position s =
      .next (s.sentOn ((s.reported f rest g side hi lo state).openingChanged g) f.frame) := by
  have still : ((s.reported f rest g side hi lo state).gate g).motion = .idle := State.reported_motion.trans idle
  have evidence : (s.reported f rest g side hi lo state).takeEvidence g side state = s.reported f rest g side hi lo state :=
    State.setMotion_same (by rw [still]; rfl) State.reported_faultN
  have checks := quiet.sampleChecks
  simp only [evidence, State.laterChecks_idle still paid] at checks
  rw [quiet.exec (by rw [idle]; rfl), State.judged, if_neg changed, checks]

/-- A sample says nothing of the ceiling, nor of the excursion reported (R13, R73). -/
theorem State.reported_ceiling : ((s.reported f rest g side hi lo state).gate g).ceiling = (s.gate g).ceiling ∧
    ((s.reported f rest g side hi lo state).gate g).excursionReported = (s.gate g).excursionReported := by
  rw [State.reported, State.setGate_gate_self]
  cases side <;> exact ⟨rfl, rfl⟩

theorem State.sentOn_gate (s t : State) (f : Frame) (g : GateId) : (s.sentOn t f).gate g = t.gate g :=
  State.sentOn_read s t f (·.gate g) fun _ _ _ => rfl

theorem State.sentOn_notices (s t : State) (f : Frame) : (s.sentOn t f).notices = t.notices :=
  State.sentOn_read s t f State.notices fun _ _ _ => rfl

theorem State.sentOn_waiting (s t : State) (f : Frame) : (s.sentOn t f).waiting = t.waiting :=
  State.sentOn_read s t f State.waiting fun _ _ _ => rfl

/-! ### O35 -/

/-- A gate that asks for its ceiling asks for it still when the event is over (R73, R88). -/
theorem State.openingChanged_follows {c : Nat} (joined : s.excursionCheck g = s.joinTail g (s.follower g c))
    (free : s.stopAsserted = false) (far : ∀ o, (s.gate g).opening = some o → (s.record g).arriveTol < distance c o) :
    ((s.openingChanged g).gate g).Asks { target := c, level := s.envelopeLevel g } .envelope := by
  obtain ⟨t, nudges, e⟩ := s.openingChanged_steps g
  have gate : t.gate g = { s.gate g with motion := .pending (s.follower g c) } := by
    rw [nudges.gate, joined, State.joinTail_gate, State.setMotion_gate_self]
  have asks : (t.gate g).Asks { target := c, level := s.envelopeLevel g } .envelope := by
    rw [gate]
    exact ⟨far, .inl ⟨_, rfl, rfl, rfl⟩⟩
  have released : t.stopAsserted = false :=
    ((s.reach_excursionCheck g).trans nudges.reach).free free
  obtain e | e := e <;> rw [e]
  · exact (t.settles_settle released g).asking _ _ asks
  · exact (State.settles_settle t.owe released g).asking _ _ asks

/-- Where an evaluation finds nothing to grant, the gate that asks for its ceiling waits at the tail of the list (R73, R89). -/
theorem State.openingChanged_waits {c : Nat} (joined : s.excursionCheck g = s.joinTail g (s.follower g c))
    (free : s.stopAsserted = false) (masked : s.AllMasked)
    (held : s.Masked (s.envelopeLevel g) ∨ s.envelopeLevel g ≠ 0 ∧ s.settings.slots ≤ s.slotsInUse) :
    ((s.openingChanged g).gate g).motion = .pending (s.settings.mark (s.follower g c)) ∧
      (s.openingChanged g).waiting = s.waiting ++ [g] := by
  have waits (t : State) (nudges : State.Nudges g (s.excursionCheck g) t) :
      (t.settle.gate g).motion = .pending (s.settings.mark (s.follower g c)) ∧ t.settle.waiting = s.waiting ++ [g] := by
    have reach : s.Reach t := (s.reach_excursionCheck g).trans nudges.reach
    have due : t.evalDue = true := by rw [nudges.due, joined]; rfl
    have waiting : t.waiting = s.waiting ++ [g] := by rw [nudges.waiting, joined, State.joinTail_waiting]
    have own : (t.gate g).motion = .pending (s.follower g c) := by
      rw [nudges.gate, joined, State.joinTail_gate, State.setMotion_gate_self]
    have others (k : GateId) (q : Request) (pending : (t.gate k).motion = .pending q) (other : k ≠ g) : s.Masked q.level := by
      have before := nudges.pending k q pending
      rw [joined, State.joinTail_gate, State.setMotion_gate_ne _ _ other] at before
      exact masked k q before
    have settled : t.settle = t.paid.markMasked := by
      obtain hidden | ⟨above, full⟩ := held
      · refine State.settle_of_masked due fun k q pending => ?_
        rw [State.Masked, reach.settings]
        by_cases same : k = g
        · subst same
          cases pending.symm.trans own
          exact hidden
        · exact others k q pending same
      · have slots : t.slotsInUse = s.slotsInUse := by rw [nudges.slots, joined, State.joinTail_slotsInUse]
        refine State.settle_of_full due (reach.free free) (by simpa [State.slotFree, reach.settings, slots] using full)
          fun k zero => ?_
        unfold State.pendingLevel at zero
        split at zero
        · rename_i q pending
          by_cases same : k = g
          · subst same
            cases pending.symm.trans own
            exact above (Option.some.inj zero)
          · exact (others k q pending same).1 (Option.some.inj zero)
        · cases zero
    have marked := t.paid.marks_markMasked
    rw [settled, marked.waiting, ← reach.settings]
    exact ⟨marked.marked g _ (by simp [waiting]) own, waiting⟩
  obtain ⟨t, nudges, e⟩ := s.openingChanged_steps g
  obtain e | e := e <;> rw [e]
  · exact waits t nudges
  · exact waits t.owe ⟨nudges.reach.trans t.reach_owe, nudges.gate, nudges.waiting, nudges.slots, by rw [joined]; rfl,
      nudges.pending⟩

/-- Settles O35: the report makes the event of the opening change alone (`exec_of_idle`), and the check that opens it is
reported, followed or finds nothing. -/
theorem excursionsAreFollowedOrReported : Obligations.ExcursionsAreFollowedOrReported := by
  refine ⟨fun s g => State.excursionCheck_of_not_idle, fun s f rest g side hi lo state o c quiet idle paid opening changed
    ceiling => ?_⟩
  let stored := s.reported f rest g side hi lo state
  have ran := exec_of_idle quiet idle paid (opening ▸ changed)
  have still : (stored.gate g).motion = .idle := State.reported_motion.trans idle
  have record : (stored.gate g).record = s.record g := State.reported_record g
  obtain ⟨capped, reported⟩ := State.reported_ceiling (s := s) (f := f) (rest := rest) (g := g) (side := side) (hi := hi)
    (lo := lo) (state := state)
  have settled (rests : ((stored.excursionCheck g).gate g).motion = .idle) :
      (s.sentOn (stored.openingChanged g) f.frame).gate g = (stored.excursionCheck g).gate g := by
    rw [State.sentOn_gate, State.openingChanged_gate_of_rests (.inl rests)]
  refine ⟨fun within => ⟨_, ran, ?_⟩, fun above leads => ⟨_, ran, ?_⟩, fun above tracks free => ⟨_, ran, ?_⟩⟩
  · have checked := State.excursionCheck_of_none still (Gate.excursion_of_within opening (capped.trans ceiling) (by rwa [record]))
    have gate : (stored.excursionCheck g).gate g = { stored.gate g with excursionReported := false } := by
      rw [checked, State.setExcursion_gate_self]
    rw [settled (by rw [gate]; exact still), gate]
    exact ⟨still, rfl⟩
  · have checked := State.excursionCheck_reports still (Gate.excursion_of_above opening (capped.trans ceiling) (by rwa [record]))
      (by rwa [State.record, record])
    have gate : (stored.excursionCheck g).gate g = { stored.gate g with excursionReported := true } := by
      rw [checked]
      split
      · next marked => rw [← marked]
      · rw [State.setExcursion_gate_self, State.post_gate]
    rw [settled (by rw [gate]; exact still), gate, State.sentOn_notices]
    refine ⟨still, rfl, fun unreported room => ?_, fun marked unlinked => ?_⟩
    · obtain ⟨t, nudges, e⟩ := stored.openingChanged_steps g
      have posted : (stored.excursionCheck g).notices =
          s.notices ++ [{ notice := .excursion g o c, stamp := s.tideClock }] := by
        rw [checked, reported, unreported, if_neg (by simp), State.setExcursion_notices, stored.post_of_room _ room]
        rfl
      rw [← posted]
      obtain e | e := e <;> rw [e]
      · exact (nudges.reach.trans t.reach_settle).notices_prefix
      · exact (nudges.reach.trans (t.reach_owe.trans (State.reach_settle _))).notices_prefix
    · have unchanged : stored.excursionCheck g = stored := by rw [checked, reported, marked, if_pos rfl]
      have unwatched : stored.linkingToward g = [] :=
        (State.linkingToward_of_records State.reported_record g).trans unlinked
      have quiet : stored.openingChanged g = stored := by
        have told : stored.tellNeighbours g = stored := by rw [State.tellNeighbours, unwatched]; rfl
        have none : stored.neighboursPending g = false := by rw [State.neighboursPending, unwatched]; rfl
        simp only [State.openingChanged, unchanged, told, none, Bool.false_eq_true, if_false,
          State.settle_of_not_due stored paid]
      rw [quiet]
      rfl
  · have joined := State.excursionCheck_follows still
      (Gate.excursion_of_above opening (capped.trans ceiling) (by rwa [record])) (by rwa [State.record, record]) free
    have asked : stored.envelopeLevel g = if s.mode = .reverse then 0 else (s.record g).defaultPriority := by
      rw [State.envelopeLevel, State.reported_record]
      rfl
    have asks := State.openingChanged_follows joined free fun p e => by
      cases opening.symm.trans e
      rw [State.record, record]
      rw [distance, if_pos (by omega)]
      omega
    have waits := State.openingChanged_waits joined free
    have hidden (masked : s.AllMasked) : stored.AllMasked := fun k q pending => by
      by_cases same : k = g
      · subst same
        cases still.symm.trans pending
      · exact masked k q (by rwa [← State.reported_gate_ne same])
    rw [State.sentOn_gate, State.sentOn_waiting]
    refine ⟨?_, fun masked held => ?_, fun masked unheld above full => ?_⟩
    · rw [asked] at asks
      obtain ⟨-, ⟨q, request, same, origin⟩ | held⟩ := asks
      · exact .inl ⟨q, request, congrArg Target.target same, congrArg Target.level same, origin⟩
      · exact .inr held
    · rw [← asked] at held ⊢
      obtain ⟨motion, waiting⟩ := waits (hidden masked) (.inl held)
      rw [State.mark_of_masked (s := stored) (r := stored.follower g c) held] at motion
      exact ⟨motion, waiting⟩
    · rw [← asked] at unheld above ⊢
      obtain ⟨motion, waiting⟩ := waits (hidden masked) (.inr ⟨above, full⟩)
      rw [State.mark_of_unmasked (s := stored) (r := stored.follower g c) unheld] at motion
      exact ⟨motion, waiting⟩

end

end Sys2Proof.Machine

/-! ## A stop that ends with a level no evaluation weighs (R71, R87, R89)

As at the end of a leg (`not_restReportsEndTheLeg`), level 8 under priority mask 8 is unmasked and never weighed: no run reaches
such a state, and the statement takes it. -/

namespace Sys2Proof.Machine

/-- The request for 1000 at level 8. -/
def level8Request : Request :=
  { target := 1000, level := 8, origin := .station, clampReported := false, waitReason := .none }

/-- The leg that was stopped, with the right hoist at rest. -/
def level8Leg : Leg :=
  { target := 500, direction := .raise, speed := 300, deadline := 60000, acks := { left := false, right := true }
    paused := none, stamp := 1 }

/-- The gate of `restedAtLevel8`, stopped for REQUEUE. -/
def requeuedAtLevel8 : State :=
  restedAtLevel8.setGate 0 { restingAtLevel8 with motion := .stopping (.requeue level8Request) level8Leg 8000 }

set_option maxRecDepth 100000 in
theorem requeuedAtLevel8_pends : pendsAfter (exec .position requeuedAtLevel8) 0 = true := by decide

set_option maxRecDepth 100000 in
theorem requeuedAtLevel8_skew :
    ((requeuedAtLevel8.reported restReport [] 0 .left 0x01 0xF4 .atRest).gate 0).skew = some 0 := by decide

set_option maxRecDepth 100000 in
theorem requeuedAtLevel8_hasReport : requeuedAtLevel8.HasQuietReport restReport [] 0 .left 0x01 0xF4 .atRest := by
  refine ⟨?_, ⟨0, .inl rfl, .inl ⟨rfl, rfl⟩⟩, fun k skew => ?_⟩
  · unfold State.HasHoistReport
    decide
  · cases requeuedAtLevel8_skew.symm.trans skew
    exact Nat.zero_le _

set_option maxRecDepth 100000 in
theorem requeuedAtLevel8_allMasked : requeuedAtLevel8.AllMasked := by
  have none_pends : ∀ h, (requeuedAtLevel8.gate h).motion.isPending = false := by decide
  intro h q pending
  have idle := none_pends h
  rw [pending] at idle
  cases idle

theorem requeuedAtLevel8_unmasked : ¬ requeuedAtLevel8.Masked 8 := by
  rintro ⟨-, above⟩
  exact absurd above (by decide)

set_option maxRecDepth 100000 in
theorem requeuedAtLevel8_needsLeg :
    ((requeuedAtLevel8.reported restReport [] 0 .left 0x01 0xF4 .atRest).decideFor 0 1000).decision =
      .legNeeded furtherLeg := by decide

set_option maxRecDepth 100000 in
/-- Refutes O33: in `requeuedAtLevel8` the request that is requeued needs a leg (`requeuedAtLevel8_needsLeg`), and waits after the
report (`requeuedAtLevel8_pends`) where the statement has it granted. -/
theorem not_stopsEndByTheirNextStep : ¬ Obligations.StopsEndByTheirNextStep := by
  intro claim
  obtain ⟨t, after, -, -, ends⟩ := claim requeuedAtLevel8 restReport [] 0 .left 0x01 0xF4 (.requeue level8Request) level8Leg
    8000 500 requeuedAtLevel8_hasReport (by decide) rfl (by decide) rfl rfl requeuedAtLevel8_allMasked (by decide) (by decide)
    (by decide) (by decide) (by decide)
  obtain ⟨-, -, -, needed⟩ := ends level8Request (.inr rfl)
  obtain ⟨-, requeued⟩ := needed furtherLeg requeuedAtLevel8_needsLeg
  obtain ⟨-, -, starting⟩ := requeued rfl requeuedAtLevel8_unmasked (by decide)
  have pends := requeuedAtLevel8_pends
  rw [after] at pends
  simp [pendsAfter, starting, Motion.isPending] at pends

end Sys2Proof.Machine

/-! ## The preemption test (R91, R92) -/

namespace Sys2Proof.Machine

/-! ### Counting gates -/

theorem allGates_nodup : allGates.Nodup := by decide

/-- Where one gate comes to satisfy a test and no other changes, one more gate satisfies it. -/
theorem gates_count_gained {p q : GateId → Bool} {v : GateId} (others : ∀ h, h ≠ v → q h = p h) (before : p v = false)
    (after : q v = true) : (allGates.filter q).length = (allGates.filter p).length + 1 := by
  obtain ⟨as, bs, split⟩ := List.append_of_mem (mem_allGates v)
  have nodup := allGates_nodup
  rw [split] at nodup ⊢
  have apart : v ∉ as ++ bs := (List.nodup_middle.mp nodup).notMem
  have same (hs : List GateId) (out : v ∉ hs) : hs.filter q = hs.filter p :=
    List.filter_congr fun h listed => others h fun e => out (e ▸ listed)
  simp only [List.mem_append, not_or] at apart
  simp only [List.filter_append, List.filter_cons, before, after, same as apart.1, same bs apart.2, if_true, Bool.false_eq_true,
    if_false, List.length_append, List.length_cons]
  omega

/-! ### Victims -/

section
variable {s t : State} {g v b : GateId}

/-- The gates that move for a request above level 0 (R92). -/
def State.movers (s : State) : List GateId := allGates.filter fun h => (s.gate h).motion.victimKey.isSome

/-- The gate stops with next step REQUEUE (R91). -/
def Motion.requeues (m : Motion) : Bool :=
  match m with
  | .stopping (.requeue _) _ _ => true
  | _ => false

theorem State.requeueing_eq (s : State) :
    s.requeueing = (allGates.filter fun h => (s.gate h).motion.requeues).length := rfl

theorem State.victimAmong_none {gs : List GateId} (absent : s.victimAmong gs = none) :
    ∀ h ∈ gs, (s.gate h).motion.victimKey = none := by
  induction gs with
  | nil => exact fun _ listed => absurd listed (by simp)
  | cons g gs ih =>
    unfold State.victimAmong at absent
    split at absent
    · rename_i key
      exact List.forall_mem_cons.mpr ⟨key, ih absent⟩
    · cases absent
    · split at absent <;> cases absent

theorem State.victimAmong_some {gs : List GateId} {k : Nat × Nat} (best : s.victimAmong gs = some (v, k)) :
    (s.gate v).motion.victimKey = some k := by
  induction gs generalizing v k with
  | nil => cases best
  | cons g gs ih =>
    unfold State.victimAmong at best
    split at best
    · exact ih best
    · cases best
      assumption
    · rename_i rest
      split at best
      · cases best
        exact ih rest
      · cases best
        assumption

theorem State.victimAmong_congr (keys : ∀ h, (t.gate h).motion.victimKey = (s.gate h).motion.victimKey) (gs : List GateId) :
    t.victimAmong gs = s.victimAmong gs := by
  induction gs with
  | nil => rfl
  | cons g gs ih => simp only [State.victimAmong, keys, ih]

theorem State.movers_of_no_victim (absent : s.victim = none) : s.movers = [] := by
  have keys := State.victimAmong_none (Option.map_eq_none_iff.mp absent)
  exact List.filter_eq_nil_iff.mpr fun h listed => by simp [keys h listed]

/-- The motion of a gate with a victim's key. -/
theorem Motion.moves_of_victimKey {m : Motion} (key : m.victimKey.isSome = true) :
    ∃ r l, (∃ w, m = .starting r l w) ∨ m = .travelling r l := by
  cases m with
  | starting r l w => exact ⟨r, l, .inl ⟨w, rfl⟩⟩
  | travelling r l => exact ⟨r, l, .inr rfl⟩
  | _ => cases key

theorem State.victim_key (chosen : s.victim = some v) : (s.gate v).motion.victimKey.isSome = true := by
  obtain ⟨⟨h, k⟩, among, rfl⟩ := Option.map_eq_some_iff.mp chosen
  rw [State.victimAmong_some among]
  rfl

theorem State.preempt_eq {r : Request} {l : Leg} (moves : (∃ w, (s.gate v).motion = .starting r l w) ∨
    (s.gate v).motion = .travelling r l) : s.preempt v b = (s.enterStopping v (.requeue r) l).post (.preempted v b) := by
  obtain ⟨w, e⟩ | e := moves <;> simp only [State.preempt, e]

/-- The gates once a victim is stopped (R69, R92). -/
theorem State.preempt_gate {r : Request} {l : Leg} (moves : (∃ w, (s.gate v).motion = .starting r l w) ∨
    (s.gate v).motion = .travelling r l) : ((s.preempt v b).gate v).motion =
      .stopping (.requeue r) { l with acks := .empty, paused := none } (4 * (s.record v).sampleWindow) ∧
      ∀ h, h ≠ v → (s.preempt v b).gate h = s.gate h := by
  rw [State.preempt_eq moves]
  refine ⟨?_, fun h other => ?_⟩
  · rw [State.post_gate]
    exact (s.stopped_enterStopping v _ l).motion
  · rw [State.post_gate, State.enterStopping, State.setMotion_gate_ne _ _ other, State.haltGate_gate]

/-- One more gate stops for REQUEUE for each preemption, as long as there is a victim (R91). -/
theorem State.requeueing_preemptFor (bs : List GateId) (s : State) :
    (s.preemptFor bs).requeueing = s.requeueing + min bs.length s.movers.length := by
  induction bs generalizing s with
  | nil => simp [State.preemptFor]
  | cons b bs ih =>
    unfold State.preemptFor
    split
    · rename_i none
      simp [State.movers_of_no_victim none]
    · rename_i v victim
      have key := State.victim_key victim
      obtain ⟨r, l, moves⟩ := Motion.moves_of_victimKey key
      obtain ⟨own, others⟩ := State.preempt_gate (b := b) moves
      have stays : (s.gate v).motion.requeues = false := by
        obtain ⟨w, e⟩ | e := moves <;> rw [e] <;> rfl
      have requeued : (s.preempt v b).requeueing = s.requeueing + 1 :=
        gates_count_gained (fun h other => by rw [others h other]) stays (by rw [own])
      have fewer : s.movers.length = (s.preempt v b).movers.length + 1 :=
        gates_count_gained (fun h other => by rw [others h other]) (by rw [own]; rfl) key
      rw [ih, requeued, fewer, List.length_cons]
      omega

/-- The gates that O21 counts are the movers. -/
theorem Motion.victimKey_isSome (m : Motion) : m.victimKey.isSome = match m with
    | .starting r _ _ => decide (0 < r.level)
    | .travelling r _ => decide (0 < r.level)
    | _ => false := by
  cases m with
  | starting r l w => by_cases above : 0 < r.level <;> simp [Motion.victimKey, above]
  | travelling r l => by_cases above : 0 < r.level <;> simp [Motion.victimKey, above]
  | _ => rfl

theorem State.preemptionTest_eq (s : State) (gs : List GateId) : s.preemptionTest gs =
    (s.movable (gs.filter fun g => s.pendingLevel g = some 0)).1.preemptFor
      ((s.movable (gs.filter fun g => s.pendingLevel g = some 0)).2.drop
        (s.movable (gs.filter fun g => s.pendingLevel g = some 0)).1.requeueing) := rfl

theorem State.preemptionTest_requeueing (s : State) (gs : List GateId) :
    let weighed := s.movable (gs.filter fun g => s.pendingLevel g = some 0)
    (s.preemptionTest gs).requeueing =
      weighed.1.requeueing + min (weighed.2.length - weighed.1.requeueing) weighed.1.movers.length := by
  rw [State.preemptionTest_eq, State.requeueing_preemptFor, List.length_drop]

/-! ### One level-0 request that waits without a slot -/

/-- The one request that waits at level 0 while no slot is free, weighed and found to need a leg (R91). -/
def State.urgent (v : State) (g : GateId) (q : Request) : State :=
  ((v.markedAt g q).weighPosted g (v.settings.mark q)).setMotion g
    (.pending ((v.markedAt g q).weighed g (v.settings.mark q)))

section
variable {q : Request} {p : Plan} {u : State}

theorem State.preempt_evalDue (s : State) (v b : GateId) : (s.preempt v b).evalDue = s.evalDue := by
  unfold State.preempt
  simp only
  split <;> simp [State.enterStopping_evalDue]

/-- With no slot free, the evaluation of a level-0 request that needs a leg makes one preemption test (R89, R91). -/
theorem State.Waits.settle_urgent (h : s.Waits u g q) (level : q.level = 0) (full : s.settings.slots ≤ s.slotsInUse)
    (needed : (s.decideFor g q.target).decision = .legNeeded p) :
    u.settle = (u.urgent g q).preemptFor ([g].drop (u.urgent g q).requeueing) := by
  have unmasked : ¬ u.Masked q.level := fun masked => masked.1 level
  have marked : ((u.markedAt g q).gate g).motion = .pending (u.settings.mark q) := State.markedAt_motion
  have order : (u.markedAt g q).walkOrder = [g] :=
    State.walkOrder_of_unmasked h.waiting marked (by rw [Settings.mark_level]; exact unmasked) (by simp [level])
  have none : (u.markedAt g q).slotFree = false := by
    show u.slotFree = false
    simpa [State.slotFree, h.settings, h.slots] using full
  have decision : ((u.markedAt g q).decideFor g (u.settings.mark q).target).decision = .legNeeded p := by
    rw [h.settings, h.decides_marked, needed]
  have weighed : (u.markedAt g q).weighForPreemption g = (u.urgent g q, true) := by
    unfold State.weighForPreemption State.urgent State.weighed State.weighPosted
    simp only [marked]
    rw [State.weigh_eq, decision]
  have tested : [g].filter (fun k => decide ((u.markedAt g q).pendingLevel k = some 0)) = [g] := by
    simp [State.pendingLevel_eq marked, level]
  have evaluated : u.evaluate = (u.urgent g q).preemptFor ([g].drop (u.urgent g q).requeueing) := by
    rw [State.evaluate_eq h.free, State.markMasked_one h.waiting h.pending, order, State.walk_of_full none,
      if_neg (by simp [none]), State.preemptionTest_eq, tested]
    simp only [State.movable, weighed, if_true]
  have paid : ((u.urgent g q).preemptFor ([g].drop (u.urgent g q).requeueing)).evalDue = false := by
    have paid : (u.urgent g q).evalDue = false := by simp [State.urgent, State.weighPosted, State.markedAt, State.paid]
    generalize (u.urgent g q).requeueing = n
    cases n with
    | zero =>
      unfold State.preemptFor
      simp only [List.drop_zero]
      split
      · exact paid
      · exact (State.preempt_evalDue _ _ _).trans paid
    | succ n => simpa [State.preemptFor] using paid
  rw [State.settle_of_evaluate h.due (by rw [evaluated]; exact paid), evaluated]

/-- The gates once the urgent request is weighed. -/
theorem State.Waits.urgent_gate (h : s.Waits u g q) (k : GateId) : (u.urgent g q).gate k = if k = g then
    { s.gate g with motion := .pending ((u.markedAt g q).weighed g (u.settings.mark q)) } else s.gate k := by
  have posted := h.posted_gate
  rw [← h.settings] at posted
  rw [State.urgent, State.setMotion_gate, posted, posted, if_pos rfl]
  split <;> rfl

/-- The preemption test sees the other gates as they were (R91, R92). -/
theorem State.Waits.urgent_victim (h : s.Waits u g q) (idle : (s.gate g).motion = .idle) :
    (u.urgent g q).victim = s.victim ∧ (u.urgent g q).requeueing = s.requeueing := by
  have seen (k : GateId) : ((u.urgent g q).gate k).motion.victimKey = (s.gate k).motion.victimKey ∧
      ((u.urgent g q).gate k).motion.requeues = (s.gate k).motion.requeues := by
    rw [h.urgent_gate]
    split
    · next same =>
      rw [same, idle]
      exact ⟨rfl, rfl⟩
    · exact ⟨rfl, rfl⟩
  refine ⟨congrArg (Option.map _) (State.victimAmong_congr (fun k => (seen k).1) _), ?_⟩
  rw [State.requeueing_eq, State.requeueing_eq]
  exact congrArg List.length (List.filter_congr fun k _ => (seen k).2)

theorem State.Waits.urgent_keeps (h : s.Waits u g q) : (u.urgent g q).waiting = [g] ∧
    (u.urgent g q).slotsInUse = s.slotsInUse := by
  simp [State.urgent, State.weighPosted, State.markedAt, h.waiting, h.slots]

/-- The weighing posts one notice at most (R51). -/
theorem State.urgent_notices_length (u : State) (g : GateId) (q : Request) :
    (u.urgent g q).notices.length ≤ u.notices.length + 1 := by
  rw [State.urgent, State.setMotion_notices, State.weighPosted]
  exact State.postSome_notices_length (u.markedAt g q) _

theorem State.urgent_tideClock (u : State) (g : GateId) (q : Request) : (u.urgent g q).tideClock = u.tideClock := by
  simp [State.urgent, State.weighPosted, State.markedAt]

theorem Motion.requeues_iff (m : Motion) : m.requeues = true ↔ ∃ r l w, m = .stopping (.requeue r) l w := by
  constructor
  · intro e
    unfold Motion.requeues at e
    split at e
    · exact ⟨_, _, _, rfl⟩
    · cases e
  · rintro ⟨r, l, w, rfl⟩
    rfl

theorem State.requeueing_zero_iff (s : State) :
    s.requeueing = 0 ↔ ∀ h r l w, (s.gate h).motion ≠ .stopping (.requeue r) l w := by
  rw [State.requeueing_eq, List.length_eq_zero_iff, List.filter_eq_nil_iff]
  refine ⟨fun none h r l w e => none h (mem_allGates h) ((Motion.requeues_iff _).mpr ⟨r, l, w, e⟩), fun none h _ e => ?_⟩
  obtain ⟨r, l, w, e⟩ := (Motion.requeues_iff _).mp e
  exact none h r l w e

/-- The request waits on: beside gates that stop for REQUEUE, without a victim, or with the victim stopped (R91). -/
theorem State.Waits.settle_urgent_cases (h : s.Waits u g q) (idle : (s.gate g).motion = .idle) (level : q.level = 0)
    (full : s.settings.slots ≤ s.slotsInUse) (needed : (s.decideFor g q.target).decision = .legNeeded p) :
    (s.requeueing ≠ 0 ∨ s.victim = none → u.settle = u.urgent g q) ∧
      ∀ v, s.requeueing = 0 → s.victim = some v → u.settle = (u.urgent g q).preempt v g := by
  obtain ⟨victim, requeueing⟩ := h.urgent_victim idle
  rw [h.settle_urgent level full needed, requeueing]
  refine ⟨?_, fun v zero chosen => by simp [zero, State.preemptFor, victim, chosen]⟩
  rintro (stopping | absent)
  · obtain ⟨n, e⟩ := Nat.exists_eq_succ_of_ne_zero stopping
    simp [e, State.preemptFor]
  · cases s.requeueing with
    | zero => simp [State.preemptFor, victim, absent]
    | succ n => simp [State.preemptFor]

theorem State.preempt_keeps (s : State) (v b : GateId) :
    (s.preempt v b).waiting = s.waiting ∧ (s.preempt v b).slotsInUse = s.slotsInUse := by
  unfold State.preempt
  simp only
  split
  · rename_i r l w e
    have acts := s.actsOn_enterStopping (g := v) (.requeue r) l
    simpa using ⟨acts.waiting, acts.slots⟩
  · rename_i r l e
    have acts := s.actsOn_enterStopping (g := v) (.requeue r) l
    simpa using ⟨acts.waiting, acts.slots⟩
  · simp

end

/-- A MOVE leads where its command and evaluations lead, beside the reply (R57). -/
theorem State.AsksMove.leads {payload : List Byte} {asked level : Nat} {rest : List RxFrame}
    (asks : s.AsksMove g payload asked level) (found : s.HasRequest 0x10#8 payload rest) (free : s.stopAsserted = false)
    (idle : (s.gate g).motion = .idle) : ∃ t, exec .move s = .next t ∧
      (∀ h, t.gate h = ((s.taken rest).command g asked level .station).settle.gate h) ∧
      t.waiting = ((s.taken rest).command g asked level .station).settle.waiting ∧
      t.slotsInUse = ((s.taken rest).command g asked level .station).settle.slotsInUse ∧
      t.haltQueue = ((s.taken rest).command g asked level .station).settle.haltQueue ∧
      t.notices = ((s.taken rest).command g asked level .station).settle.notices :=
  ⟨_, asks.answers found free (State.outrankedBy_of_none (Motion.request_of_idle idle)) (Motion.stores_of_idle idle),
    fun _ => rfl, rfl, rfl, rfl, rfl⟩

/-- The preemption told of: the victim's state, the HALTs and the notice (R69, R92). -/
theorem State.preempt_posts {r : Request} {l : Leg} (moves : (∃ w, (s.gate v).motion = .starting r l w) ∨
    (s.gate v).motion = .travelling r l) : (∀ side a, (s.record v).hoist side = some a → a ∈ (s.preempt v b).haltQueue) ∧
      (s.notices.length < 16 → { notice := .preempted v b, stamp := s.tideClock } ∈ (s.preempt v b).notices) := by
  have stopped := s.stopped_enterStopping v (.requeue r) l
  have notices : (s.enterStopping v (.requeue r) l).notices = s.notices ∧
      (s.enterStopping v (.requeue r) l).tideClock = s.tideClock := by
    rw [State.enterStopping, s.haltGate_frame v]
    exact ⟨rfl, rfl⟩
  rw [State.preempt_eq moves]
  refine ⟨fun side a names => ?_, fun room => ?_⟩
  · rw [State.post_haltQueue]
    exact stopped.halted side a names
  · rw [State.post_of_room _ _ (by rwa [notices.1]), notices.2]
    simp

/-- Settles O21: each preemption turns one mover into a gate that stops for REQUEUE (`State.requeueing_preemptFor`), and a MOVE
at level 0 without a slot is one preemption test (`State.Waits.settle_urgent`). -/
theorem preemptionStopsTheVictims : Obligations.PreemptionStopsTheVictims := by
  refine ⟨fun s unweighed => ?_, fun s g payload asked rest p c found asks free paid idle empty full far decided => ?_⟩
  · have counted := s.preemptionTest_requeueing unweighed
    simp only [State.movers, Motion.victimKey_isSome] at counted
    exact counted
  · have waits := State.waits_of_idle (asked := asked) (level := 0) (rest := rest) free empty idle far
    have needed := congrArg Weighing.decision decided
    obtain ⟨t, ran, gates, list, count, halts, notices⟩ := asks.leads (rest := rest) found free idle
    obtain ⟨spared, preempts⟩ := waits.settle_urgent_cases idle rfl full needed
    obtain ⟨waiting, slots⟩ := waits.urgent_keeps
    have clock := ((s.taken rest).reach_command g asked 0 .station free).tideClock
    have posted : ((s.taken rest).command g asked 0 .station).notices.length ≤ s.notices.length + 1 := by
      rw [State.command_eq, State.applyTarget_far (by simpa using idle) (by simpa using far), State.joinTail_notices]
      exact (s.taken rest).travelPosted_notices_length g asked
    generalize (s.taken rest).command g asked 0 .station = u at *
    have weighed : (u.urgent g (.fresh (min asked (s.record g).fullTravel) 0 .station)).gate g = { s.gate g with
        motion := .pending { target := min asked (s.record g).fullTravel, level := 0, origin := .station
                             clampReported := c.isSome, waitReason := .none } } := by
      rw [waits.urgent_gate, if_pos rfl, waits.settings, waits.weighed_marked, State.mark_of_unmasked fun masked => masked.1 rfl]
      simp [Request.fresh, decided, Weighing.marks, waitAfter]
    have unmoved (h : GateId) (other : h ≠ g) := (waits.urgent_gate h).trans (if_neg other)
    have length := (u.urgent_notices_length g (.fresh (min asked (s.record g).fullTravel) 0 .station)).trans
      (Nat.succ_le_succ posted)
    have clock := (u.urgent_tideClock g (.fresh (min asked (s.record g).fullTravel) 0 .station)).trans clock
    generalize u.urgent g (.fresh (min asked (s.record g).fullTravel) 0 .station) = m at *
    refine ⟨t, ran, ?_⟩
    by_cases still : s.requeueing ≠ 0 ∨ s.victim = none
    · rw [spared still] at gates list count
      refine ⟨list.trans waiting, count.trans slots, by rw [gates, weighed], fun _ h other => by rw [gates, unmoved h other],
        fun v r l none chosen _ => ?_⟩
      obtain stopping | absent := still
      · exact absurd (s.requeueing_zero_iff.mpr none) stopping
      · cases absent.symm.trans chosen
    · obtain ⟨none, some⟩ : s.requeueing = 0 ∧ s.victim ≠ none := by simpa using still
      obtain ⟨v, chosen⟩ := Option.ne_none_iff_exists'.mp some
      obtain ⟨r, l, moves⟩ := Motion.moves_of_victimKey (State.victim_key chosen)
      have apart : v ≠ g := by
        rintro rfl
        obtain ⟨w, e⟩ | e := moves <;> cases idle.symm.trans e
      have kept : m.gate v = s.gate v := unmoved v apart
      have record : m.record v = s.record v := congrArg Gate.record kept
      obtain ⟨own, others⟩ := State.preempt_gate (s := m) (b := g) (by rwa [kept])
      obtain ⟨queued, notice⟩ := State.preempt_posts (s := m) (b := g) (by rwa [kept])
      obtain ⟨list', count'⟩ := m.preempt_keeps v g
      rw [preempts v none chosen] at gates list count halts notices
      refine ⟨list.trans (list'.trans waiting), count.trans (count'.trans slots), ?_, fun none' => ?_,
        fun v' r' l' _ chosen' moves' => ?_⟩
      · rw [gates, others g apart.symm, weighed]
      · obtain ⟨h, r, l, w, e⟩ | absent := none'
        · exact absurd e (s.requeueing_zero_iff.mp none h r l w)
        · exact absurd absent some
      · cases chosen.symm.trans chosen'
        have same : r' = r ∧ l' = l := by
          obtain ⟨w, e⟩ | e := moves <;> obtain ⟨w', e'⟩ | e' := moves' <;> cases e.symm.trans e' <;> exact ⟨rfl, rfl⟩
        obtain ⟨rfl, rfl⟩ := same
        rw [record] at own queued
        rw [gates, halts, notices]
        refine ⟨own, queued, fun room => ?_, fun h other apart' => by rw [gates, others h apart', unmoved h other]⟩
        have stamp : m.tideClock = s.tideClock := clock
        rw [← stamp]
        exact notice (by omega)

end

end Sys2Proof.Machine

/-! ## GROUP STOP (R61, R70, R94, R96) -/

namespace Sys2Proof.Machine

section
variable {s t u : State} {g h : GateId}

/-! ### A stop and the other gates -/

theorem State.excursionCheck_gate_ne (s : State) (other : h ≠ g) : (s.excursionCheck g).gate h = s.gate h :=
  (s.spares_excursionCheck other).gate

theorem State.enterStopping_gate_ne (s : State) (next : NextStep) (l : Leg) (other : h ≠ g) :
    (s.enterStopping g next l).gate h = s.gate h := (s.actsOn_enterStopping next l).others h other

theorem State.stopGate_gate_ne (s : State) (other : h ≠ g) : (s.stopGate g).gate h = s.gate h := by
  unfold State.stopGate
  split
  · exact s.setMotion_gate_ne _ other
  · rfl
  · rw [State.excursionCheck_gate_ne _ other, State.leaveList_gate, State.setMotion_gate_ne _ _ other]
  · exact s.enterStopping_gate_ne _ _ other
  · exact s.enterStopping_gate_ne _ _ other
  · exact s.setMotion_gate_ne _ other
  · exact s.setMotion_gate_ne _ other
  · exact s.setMotion_gate_ne _ other

/-- One stop of a GROUP STOP, with the evaluations that it causes (R96). -/
def State.stopOne (s : State) (g : GateId) : State := (s.stopGate g).settle

/-- A stop of another gate is an evaluation at most (R96). -/
theorem State.turns_stopOne (s : State) (other : g ≠ h) : State.Turns g s (s.stopOne h) :=
  (State.turns_of_same (s.reach_stopGate h) (s.stopGate_gate_ne other)).trans (State.turns_settle _ g)

theorem State.turns_stopAll {hs : List GateId} (others : g ∉ hs) (s : State) : State.Turns g s (s.sweep hs State.stopOne) := by
  unfold State.sweep
  induction hs generalizing s with
  | nil => exact .refl s
  | cons h hs ih =>
    have apart := List.ne_and_not_mem_of_not_mem_cons others
    exact (s.turns_stopOne apart.1).trans (ih apart.2 _)

/-- A request that is not satisfied is kept while other gates are stopped (R90, R91). -/
theorem State.stopAll_asking {hs : List GateId} {k : Target} {o : Origin} (others : g ∉ hs) (free : s.stopAsserted = false)
    (asks : (s.gate g).Asks k o) : ((s.sweep hs State.stopOne).gate g).Asks k o := by
  unfold State.sweep
  induction hs generalizing s with
  | nil => exact asks
  | cons h hs ih =>
    have apart := List.ne_and_not_mem_of_not_mem_cons others
    have released := (s.reach_stopGate h).free free
    refine ih apart.2 ((s.turns_stopOne apart.1).reach.free free) ((State.settles_settle _ released g).asking k o ?_)
    rwa [s.stopGate_gate_ne apart.1]

/-- A sweep meets a gate that is listed once between the gates before it and those after it. -/
theorem State.stopAll_split {gs : List GateId} (nodup : gs.Nodup) (listed : g ∈ gs) (s : State) :
    ∃ before after, g ∉ before ∧ g ∉ after ∧ s.sweep gs State.stopOne =
      ((s.sweep before State.stopOne).stopOne g).sweep after State.stopOne := by
  obtain ⟨before, after, rfl⟩ := List.append_of_mem listed
  have apart := (List.nodup_middle.mp nodup).notMem
  simp only [List.mem_append, not_or] at apart
  exact ⟨before, after, apart.1, apart.2, List.foldl_append⟩

/-! ### The stop of one gate -/

/-- The gate stops toward IDLE, with a HALT waiting for each hoist (R61, R69). -/
def State.Halts (s : State) (g : GateId) : Prop :=
  (∃ l w, (s.gate g).motion = .stopping .idle l w) ∧ ∀ side a, (s.record g).hoist side = some a → a ∈ s.haltQueue

theorem State.Turns.halts (turns : State.Turns g s t) (halts : s.Halts g) : t.Halts g := by
  obtain ⟨⟨l, w, e⟩, halted⟩ := halts
  obtain ⟨l', still⟩ := turns.stopping _ l w e
  exact ⟨⟨l', w, still⟩, fun side a names => turns.reach.haltQueue (halted side a (turns.reach.record g ▸ names))⟩

theorem State.halts_enterStopping (s : State) (g : GateId) (l : Leg) : (s.enterStopping g .idle l).Halts g := by
  have stopped := s.stopped_enterStopping g .idle l
  have record : (s.enterStopping g .idle l).record g = s.record g := by
    rw [State.enterStopping, State.setMotion_record, State.haltGate_record]
  exact ⟨⟨_, _, stopped.motion⟩, fun side a names => stopped.halted side a (record ▸ names)⟩

/-- STOP of a gate that runs leaves it stopping toward IDLE with its HALTs (R61, R69, R70). -/
theorem State.Runs.stopGate (runs : s.Runs g) : (s.stopGate g).Halts g := by
  obtain ⟨r, l, w, e⟩ | ⟨r, l, e⟩ | ⟨r, l, w, e, halted⟩ := runs
  · rw [State.stopGate_moving (r := r) (l := l) (window := some w) e]
    exact s.halts_enterStopping g l
  · rw [State.stopGate_moving (r := r) (l := l) (window := none) e]
    exact s.halts_enterStopping g l
  · rw [State.stopGate_stopping e nofun]
    refine ⟨⟨l, w, by rw [State.setMotion_gate_self]⟩, fun side a names => ?_⟩
    rw [State.setMotion_haltQueue]
    exact halted side a (by rwa [State.setMotion_record] at names)

theorem State.leaveList_idle (s : State) (g : GateId) : (s.leaveList g .idle).gate g = { s.gate g with motion := .idle } := by
  rw [State.leaveList_gate, State.setMotion_gate_self]

theorem State.leaveList_idle_record (s : State) (g : GateId) : (s.leaveList g .idle).record g = s.record g := by
  rw [State.record, State.leaveList_idle, State.record]

theorem State.leads_of_not_follows (quiet : ¬ s.Follows g) (above : (s.gate g).excursion ≠ none) :
    (s.record g).trackCeiling = false ∨ s.stopAsserted = true := by
  by_contra both
  simp only [not_or, Bool.not_eq_false, Bool.not_eq_true] at both
  exact quiet ⟨both.1, both.2, above⟩

/-- An IDLE gate that follows no ceiling stays IDLE at its excursion check (R73). -/
theorem State.excursionCheck_idle (idle : (s.gate g).motion = .idle) (quiet : ¬ s.Follows g) :
    ((s.excursionCheck g).gate g).motion = .idle := by
  cases excursion : (s.gate g).excursion with
  | none =>
    rw [State.excursionCheck_of_none idle excursion, State.setExcursion_gate_self]
    exact idle
  | some oc =>
    rw [State.excursionCheck_reports idle excursion (State.leads_of_not_follows quiet (by simp [excursion]))]
    split
    · exact idle
    · rw [State.setExcursion_gate_self, State.post_gate]
      exact idle

theorem State.leaveList_follows : (s.leaveList g .idle).Follows g ↔ s.Follows g := by
  have record := s.leaveList_idle_record g
  have excursion : ((s.leaveList g .idle).gate g).excursion = (s.gate g).excursion := by rw [s.leaveList_idle g]; rfl
  rw [State.Follows, State.Follows, record, excursion, State.leaveList_stopAsserted]

/-- What STOP leaves of a gate that was PENDING when the command began: with no ceiling to follow, IDLE, stopping or held with
no target (R61, R70, R72). -/
theorem State.Awaits.stopGate (awaits : s.Awaits g) : (s.stopGate g).Halts g ∨
    (∃ h, ((s.stopGate g).gate g).motion = .hold h none) ∨
    (¬ s.Follows g ∧ ((s.stopGate g).gate g).motion = .idle) ∨
      (∃ r, (s.gate g).motion = .pending r) ∧ s.Follows g := by
  obtain ⟨r, e⟩ | runs | ⟨h, k, e⟩ | ⟨e, quiet⟩ := awaits
  · by_cases follows : s.Follows g
    · exact .inr (.inr (.inr ⟨⟨r, e⟩, follows⟩))
    · refine .inr (.inr (.inl ⟨follows, ?_⟩))
      rw [State.stopGate_pending e]
      exact State.excursionCheck_idle (congrArg Gate.motion (s.leaveList_idle g)) fun f => follows (State.leaveList_follows.mp f)
  · exact .inl runs.stopGate
  · refine .inr (.inl ⟨h, ?_⟩)
    rw [State.stopGate_hold e, State.setMotion_gate_self]
  · refine .inr (.inr (.inl ⟨quiet, ?_⟩))
    rw [State.stopGate_idle e, e]

theorem Gate.excursion_eq_some {x : Gate} {o c : Nat} (e : x.excursion = some (o, c)) :
    x.opening = some o ∧ x.ceiling = some c ∧ c + x.record.arriveTol < o := by
  unfold Gate.excursion at e
  split at e
  · split at e
    · cases e
      exact ⟨‹_›, ‹_›, ‹_›⟩
    · cases e
  · cases e

/-- The target that a gate above its ceiling asks for (R73). -/
def State.ceilingTarget (s : State) (g : GateId) (c : Nat) : Target := { target := c, level := s.envelopeLevel g }

/-- A PENDING gate that follows its ceiling asks for it once its request is discarded (R61, R72, R73). -/
theorem State.stopGate_asks {r : Request} {o c : Nat} (pending : (s.gate g).motion = .pending r) (follows : s.Follows g)
    (excursion : (s.gate g).excursion = some (o, c)) : ((s.stopGate g).gate g).Asks (s.ceilingTarget g c) .envelope := by
  obtain ⟨tracks, free, -⟩ := follows
  obtain ⟨opening, -, above⟩ := Gate.excursion_eq_some excursion
  have left := s.leaveList_idle g
  have record := s.leaveList_idle_record g
  have level : (s.leaveList g .idle).envelopeLevel g = s.envelopeLevel g := by
    simp only [State.envelopeLevel, record, State.leaveList_mode]
  rw [State.stopGate_pending pending, State.excursionCheck_follows (s := s.leaveList g .idle) (o := o) (c := c) (by rw [left])
    (by rw [left]; exact excursion) (by rw [record, tracks]) free, State.joinTail_gate, State.setMotion_gate_self, left]
  refine ⟨fun p e => ?_, .inl ⟨_, rfl, ?_, rfl⟩⟩
  · cases opening.symm.trans e
    show (s.gate g).record.arriveTol < distance c o
    rw [distance, if_pos (by omega)]
    omega
  · rw [State.ceilingTarget, ← level]
    rfl

/-! ### Stops that cause no evaluation -/

/-- What STOP makes of a motion state, where no request follows it (R61, R70). -/
def Motion.afterStop (m : Motion) (window : Nat) : Motion :=
  match m with
  | .outOfService _ => .outOfService none
  | .idle => .idle
  | .pending _ => .idle
  | .starting _ l _ => .stopping .idle { l with acks := .empty, paused := none } window
  | .travelling _ l => .stopping .idle { l with acks := .empty, paused := none } window
  | .stopping (.outOfService _) l w => .stopping (.outOfService none) l w
  | .stopping _ l w => .stopping .idle l w
  | .hold h _ => .hold h none

/-- From `s` to `t` the listed gates are stopped, and nothing else of motion and Arbiter changes (R61, R69, R70). -/
structure State.StopsAll (gs : List GateId) (s t : State) : Prop where
  due : t.evalDue = s.evalDue
  waiting : t.waiting = s.waiting.filter fun h => !(decide (h ∈ gs) && (s.gate h).motion.isPending)
  slots : t.slotsInUse = s.slotsInUse
  halts : ∀ a, a ∈ t.haltQueue ↔
    a ∈ s.haltQueue ∨ ∃ h side, h ∈ gs ∧ (s.gate h).motion.moves ∧ (s.record h).hoist side = some a
  others : ∀ h, h ∉ gs → t.gate h = s.gate h
  motion : ∀ h, h ∈ gs → (t.gate h).motion = (s.gate h).motion.afterStop (4 * (s.record h).sampleWindow)

theorem State.StopsAll.refl (s : State) : State.StopsAll [] s s where
  due := rfl
  waiting := by simp
  slots := rfl
  halts := by simp
  others _ _ := rfl
  motion _ listed := absurd listed (by simp)

theorem State.StopsAll.cons {gs : List GateId} (one : State.StopsAll [g] s t) (all : State.StopsAll gs t u) (apart : g ∉ gs) :
    State.StopsAll (g :: gs) s u := by
  have same (h : GateId) (listed : h ∈ gs) : t.gate h = s.gate h :=
    one.others h (by simpa using fun e : h = g => apart (e ▸ listed))
  refine ⟨all.due.trans one.due, ?_, all.slots.trans one.slots, fun a => ?_, fun h unlisted => ?_, fun h listed => ?_⟩
  · rw [all.waiting, one.waiting, List.filter_filter]
    refine List.filter_congr fun h _ => ?_
    by_cases listed : h ∈ gs
    · have other : h ≠ g := fun e => apart (e ▸ listed)
      simp [listed, other, same h listed]
    · simp [listed]
  · rw [all.halts, one.halts, or_assoc]
    refine or_congr_right ⟨?_, ?_⟩
    · rintro (⟨h, side, own, moves, names⟩ | ⟨h, side, listed, moves, names⟩)
      · exact ⟨h, side, by simpa using .inl (List.mem_singleton.mp own), moves, names⟩
      · refine ⟨h, side, List.mem_cons_of_mem g listed, ?_, ?_⟩
        · rwa [← same h listed]
        · rwa [State.record, ← same h listed]
    · rintro ⟨h, side, listed, moves, names⟩
      obtain rfl | listed := List.mem_cons.mp listed
      · exact .inl ⟨h, side, by simp, moves, names⟩
      · refine .inr ⟨h, side, listed, ?_, ?_⟩
        · rwa [same h listed]
        · rwa [State.record, same h listed]
  · obtain ⟨other, rest⟩ := List.ne_and_not_mem_of_not_mem_cons unlisted
    rw [all.others h rest, one.others h (by simpa using other)]
  · obtain rfl | listed := List.mem_cons.mp listed
    · rw [all.others h apart, one.motion h (by simp)]
    · rw [all.motion h listed, State.record, same h listed, State.record]

theorem State.haltGate_mem_iff (s : State) (g : GateId) (a : LinkAddr) :
    a ∈ (s.haltGate g).haltQueue ↔ a ∈ s.haltQueue ∨ ∃ side, (s.record g).hoist side = some a := by
  have one (side : Side) (t : State) : a ∈ (t.forHoist g side State.pushHalt).haltQueue ↔
      a ∈ t.haltQueue ∨ (t.record g).hoist side = some a := by
    unfold State.forHoist
    cases (t.record g).hoist side with
    | none => simp
    | some b =>
      rw [State.pushHalt_haltQueue]
      split
      · next waits =>
        simp only [Option.some.injEq]
        exact ⟨.inl, fun either => either.elim id fun e => e ▸ waits⟩
      · simp [eq_comm]
  have record : (s.forHoist g .left State.pushHalt).record g = s.record g :=
    (s.reach_forHoist g .left State.pushHalt fun _ b => .pushHalt b .refl).record g
  rw [State.haltGate, one .right, one .left, record, or_assoc]
  refine or_congr_right ⟨?_, ?_⟩
  · rintro (e | e)
    · exact ⟨_, e⟩
    · exact ⟨_, e⟩
  · rintro ⟨side, e⟩
    cases side with
    | left => exact .inl e
    | right => exact .inr e

/-- The pending list of stops that find no request waiting. -/
theorem State.waiting_of_stays (stays : (s.gate g).motion.isPending = false) :
    s.waiting = s.waiting.filter fun h => !(decide (h ∈ [g]) && (s.gate h).motion.isPending) := by
  symm
  rw [List.filter_eq_self]
  intro h _
  by_cases own : h = g
  · simp [own, stays]
  · simp [own]

/-- The halt queue of stops that find no gate moving. -/
theorem State.halts_of_rests (rests : ¬ (s.gate g).motion.moves) (a : LinkAddr) : a ∈ s.haltQueue ↔
    a ∈ s.haltQueue ∨ ∃ h side, h ∈ [g] ∧ (s.gate h).motion.moves ∧ (s.record h).hoist side = some a := by
  refine ⟨.inl, fun either => either.elim id ?_⟩
  rintro ⟨h, side, own, moves, -⟩
  rw [List.mem_singleton.mp own] at moves
  exact absurd moves rests

theorem State.stopsAll_idle (idle : (s.gate g).motion = .idle) : State.StopsAll [g] s s where
  due := rfl
  waiting := State.waiting_of_stays (by rw [idle]; rfl)
  slots := rfl
  halts := State.halts_of_rests (by rw [idle]; exact id)
  others _ _ := rfl
  motion h own := by
    rw [List.mem_singleton.mp own, idle]
    rfl

/-- A stop that leaves pending list and halt queue as they are. -/
theorem State.stopsAll_of_motion {m : Motion} (stays : (s.gate g).motion.isPending = false) (rests : ¬ (s.gate g).motion.moves)
    (after : m = (s.gate g).motion.afterStop (4 * (s.record g).sampleWindow)) : State.StopsAll [g] s (s.setMotion g m) where
  due := rfl
  waiting := State.waiting_of_stays stays
  slots := rfl
  halts a := State.halts_of_rests rests a
  others h unlisted := s.setMotion_gate_ne m (by simpa using unlisted)
  motion h own := by rw [List.mem_singleton.mp own, State.setMotion_gate_self, after]

theorem State.stopsAll_enterStopping {l : Leg} (moves : (∃ r w, (s.gate g).motion = .starting r l w) ∨
    ∃ r, (s.gate g).motion = .travelling r l) : State.StopsAll [g] s (s.enterStopping g .idle l) := by
  have acts := s.actsOn_enterStopping (g := g) .idle l
  have stays : (s.gate g).motion.isPending = false := by
    obtain ⟨r, w, e⟩ | ⟨r, e⟩ := moves <;> rw [e] <;> rfl
  have runs : (s.gate g).motion.moves := by
    obtain ⟨r, w, e⟩ | ⟨r, e⟩ := moves <;> rw [e] <;> trivial
  refine ⟨acts.due, ?_, acts.slots, fun a => ?_, fun h unlisted => acts.others h (by simpa using unlisted), fun h own => ?_⟩
  · exact acts.waiting.trans (State.waiting_of_stays stays)
  · rw [State.enterStopping, State.setMotion_haltQueue, State.haltGate_mem_iff]
    refine or_congr_right ⟨fun ⟨side, e⟩ => ⟨g, side, by simp, runs, e⟩, ?_⟩
    rintro ⟨h, side, own, -, e⟩
    exact ⟨side, List.mem_singleton.mp own ▸ e⟩
  · rw [List.mem_singleton.mp own, (s.stopped_enterStopping g .idle l).motion]
    obtain ⟨r, w, e⟩ | ⟨r, e⟩ := moves <;> rw [e] <;> rfl

/-- The excursion check of an IDLE gate with no ceiling to follow is beside the Arbiter (R73). -/
theorem State.excursionCheck_calm (idle : (s.gate g).motion = .idle) (quiet : ¬ s.Follows g) :
    (s.excursionCheck g).evalDue = s.evalDue ∧ (s.excursionCheck g).waiting = s.waiting ∧
      (s.excursionCheck g).slotsInUse = s.slotsInUse ∧ (s.excursionCheck g).haltQueue = s.haltQueue := by
  cases excursion : (s.gate g).excursion with
  | none =>
    rw [State.excursionCheck_of_none idle excursion]
    exact ⟨rfl, rfl, rfl, rfl⟩
  | some oc =>
    rw [State.excursionCheck_reports idle excursion (State.leads_of_not_follows quiet (by simp [excursion]))]
    split
    · exact ⟨rfl, rfl, rfl, rfl⟩
    · simp

/-- Where the request of a PENDING gate is discarded with no ceiling to follow, no evaluation is owed (R72, R73). -/
theorem State.stopsAll_pending {r : Request} (pending : (s.gate g).motion = .pending r) (quiet : ¬ s.Follows g) :
    State.StopsAll [g] s (s.stopGate g) := by
  have idle := congrArg Gate.motion (s.leaveList_idle g)
  have calm : ¬ (s.leaveList g .idle).Follows g := fun f => quiet (State.leaveList_follows.mp f)
  obtain ⟨due, waiting, slots, halts⟩ := State.excursionCheck_calm idle calm
  have still := State.excursionCheck_idle idle calm
  rw [← State.stopGate_pending pending] at due waiting slots halts still
  refine ⟨due, ?_, slots, fun a => ?_, fun h unlisted => s.stopGate_gate_ne (by simpa using unlisted), fun h own => ?_⟩
  · rw [waiting, State.leaveList_waiting]
    refine List.filter_congr fun h _ => ?_
    by_cases own : h = g
    · simp [own, pending, Motion.isPending]
    · simp [own]
  · rw [halts, State.leaveList_haltQueue]
    exact State.halts_of_rests (by rw [pending]; exact id) a
  · rw [List.mem_singleton.mp own, still, pending]
    rfl

theorem State.stopsAll_stopGate (quiet : ∀ r, (s.gate g).motion = .pending r → ¬ s.Follows g) :
    State.StopsAll [g] s (s.stopGate g) := by
  cases e : (s.gate g).motion with
  | idle =>
    rw [State.stopGate_idle e]
    exact State.stopsAll_idle e
  | pending r => exact State.stopsAll_pending e (quiet r e)
  | starting r l w =>
    rw [State.stopGate_moving (r := r) (l := l) (window := some w) e]
    exact State.stopsAll_enterStopping (.inl ⟨r, w, e⟩)
  | travelling r l =>
    rw [State.stopGate_moving (r := r) (l := l) (window := none) e]
    exact State.stopsAll_enterStopping (.inr ⟨r, e⟩)
  | outOfService d =>
    rw [State.stopGate_outOfService e]
    exact State.stopsAll_of_motion (by rw [e]; rfl) (by rw [e]; exact id) (by rw [e]; rfl)
  | hold h d =>
    rw [State.stopGate_hold e]
    exact State.stopsAll_of_motion (by rw [e]; rfl) (by rw [e]; exact id) (by rw [e]; rfl)
  | stopping n l w =>
    have stops (m : Motion) (after : m = (Motion.stopping n l w).afterStop (4 * (s.record g).sampleWindow)) :
        State.StopsAll [g] s (s.setMotion g m) :=
      State.stopsAll_of_motion (by rw [e]; rfl) (by rw [e]; exact id) (by rw [e, after])
    cases n with
    | outOfService c => rw [State.stopGate_leaving e]; exact stops _ rfl
    | idle => rw [State.stopGate_stopping e nofun]; exact stops _ rfl
    | restartLeg r => rw [State.stopGate_stopping e nofun]; exact stops _ rfl
    | requeue r => rw [State.stopGate_stopping e nofun]; exact stops _ rfl

/-- Where no named gate asks anew, a GROUP STOP is its stops alone (R96). -/
theorem State.stopsAll_sweep {gs : List GateId} (nodup : gs.Nodup) (paid : s.evalDue = false)
    (quiet : ∀ h r, h ∈ gs → (s.gate h).motion = .pending r → ¬ s.Follows h) :
    State.StopsAll gs s (s.sweep gs State.stopOne) := by
  unfold State.sweep
  induction gs generalizing s with
  | nil => exact .refl s
  | cons g gs ih =>
    obtain ⟨apart, nodup⟩ := List.nodup_cons.mp nodup
    have one := State.stopsAll_stopGate fun r e => quiet g r (by simp) e
    have due : (s.stopGate g).evalDue = false := one.due.trans paid
    have settled : s.stopOne g = s.stopGate g := State.settle_of_not_due _ due
    rw [List.foldl_cons, settled]
    refine one.cons (ih nodup due fun h r listed pending follows => ?_) apart
    rw [(s.reach_stopGate g).follows] at follows
    rw [s.stopGate_gate_ne fun e : h = g => apart (e ▸ listed)] at pending
    exact quiet h r (by simp [listed]) pending follows

/-! ### O48 -/

/-- What GROUP STOP leaves of a named gate, by the state it had (R61, R70, R96). -/
structure State.GroupStopped (s t : State) (g : GateId) : Prop where
  runs : s.Runs g → t.Halts g
  stopping : ∀ n l w, (s.gate g).motion = .stopping n l w → (∀ c, n ≠ .outOfService c) →
    ∃ l', (t.gate g).motion = .stopping .idle l' w
  leaving : ∀ c l w, (s.gate g).motion = .stopping (.outOfService c) l w →
    ∃ l', (t.gate g).motion = .stopping (.outOfService none) l' w
  hold : ∀ h d, (s.gate g).motion = .hold h d → (t.gate g).motion = .hold h none
  outOfService : ∀ d, (s.gate g).motion = .outOfService d → (t.gate g).motion = .outOfService none
  idle : (s.gate g).motion = .idle → (t.gate g).motion = .idle
  pending : ∀ r, (s.gate g).motion = .pending r → t.Halts g ∨ (∃ h, (t.gate g).motion = .hold h none) ∨
    (¬ s.Follows g ∧ (t.gate g).motion = .idle) ∨
      (s.Follows g ∧ ∀ o c, (s.gate g).excursion = some (o, c) → (t.gate g).Asks (s.ceilingTarget g c) .envelope)

/-- Before its own stop the evaluations of the stops before it lead the gate, and after it those of the stops that follow
(R88, R96). -/
theorem State.groupStopped_sweep {gs : List GateId} (nodup : gs.Nodup) (listed : g ∈ gs) (s : State) :
    s.GroupStopped (s.sweep gs State.stopOne) g := by
  obtain ⟨before, after, first, last, split⟩ := State.stopAll_split nodup listed s
  rw [split]
  have led := State.turns_stopAll first s
  generalize s.sweep before State.stopOne = u at led
  have settled := State.turns_settle (u.stopGate g) g
  have leads := settled.trans (State.turns_stopAll last ((u.stopGate g).settle))
  change State.Turns g (u.stopGate g) ((u.stopOne g).sweep after State.stopOne) at leads
  have rests (e : ((u.stopGate g).gate g).motion.rests) := congrArg Gate.motion (leads.resting e)
  have unmoved (e : (s.gate g).motion.rests) := congrArg Gate.motion (led.resting e)
  refine ⟨fun runs => leads.halts (led.running runs).stopGate, fun n l w e stays => ?_, fun c l w e => ?_, fun h d e => ?_,
    fun d e => ?_, fun e => ?_, fun r e => ?_⟩
  · obtain ⟨l', still⟩ := led.stopping n l w e
    exact leads.stopping .idle l' w (by rw [State.stopGate_stopping still stays, State.setMotion_gate_self])
  · obtain ⟨l', still⟩ := led.stopping _ l w e
    exact leads.stopping _ l' w (by rw [State.stopGate_leaving still, State.setMotion_gate_self])
  · have held : ((u.stopGate g).gate g).motion = .hold h none := by
      rw [State.stopGate_hold ((unmoved (by rw [e]; exact .inr trivial)).trans e), State.setMotion_gate_self]
    rw [rests (by rw [held]; exact .inr trivial), held]
  · have out : ((u.stopGate g).gate g).motion = .outOfService none := by
      rw [State.stopGate_outOfService ((unmoved (by rw [e]; exact .inr trivial)).trans e), State.setMotion_gate_self]
    rw [rests (by rw [out]; exact .inr trivial), out]
  · have idle := (unmoved (by rw [e]; exact .inl rfl)).trans e
    have still : ((u.stopGate g).gate g).motion = .idle := by rw [State.stopGate_idle idle, idle]
    rw [rests (by rw [still]; exact .inl rfl), still]
  · obtain halts | ⟨h, held⟩ | ⟨quiet, idle⟩ | ⟨⟨q, pending⟩, follows⟩ := (led.awaiting (.inl ⟨r, e⟩)).stopGate
    · exact .inl (leads.halts halts)
    · exact .inr (.inl ⟨h, by rw [rests (by rw [held]; exact .inr trivial), held]⟩)
    · exact .inr (.inr (.inl ⟨fun f => quiet (led.reach.follows.mpr f), by rw [rests (by rw [idle]; exact .inl rfl), idle]⟩))
    · refine .inr (.inr (.inr ⟨led.reach.follows.mp follows, fun o c excursion => ?_⟩))
      have above : (u.gate g).excursion = some (o, c) := by rw [led.reach.gate g]; exact excursion
      have target : u.ceilingTarget g c = s.ceilingTarget g c := by
        rw [State.ceilingTarget, State.ceilingTarget, State.envelopeLevel, State.envelopeLevel, led.reach.mode, led.reach.record]
      have asks := State.stopGate_asks pending follows above
      rw [target] at asks
      have free := (u.reach_stopGate g).free follows.2.1
      exact State.stopAll_asking last (settled.reach.free free) (((u.stopGate g).settles_settle free g).asking _ _ asks)

theorem asksGroup.fields_of_action {p : List Byte} {action : Byte} {mask target level : Nat}
    (h : asksGroup p action mask target level) : u16At p 0 = mask ∧ groupLevel p = level := by
  obtain ⟨m, n, hi, lo, rfl, rfl, ⟨rfl, rfl⟩ | ⟨lv, rfl, rfl⟩⟩ := h <;> exact ⟨rfl, rfl⟩

theorem Motion.moves_iff (m : Motion) : m.moves ↔ ∃ r l, (∃ w, m = .starting r l w) ∨ m = .travelling r l := by
  constructor
  · intro moves
    cases m with
    | starting r l w => exact ⟨r, l, .inl ⟨w, rfl⟩⟩
    | travelling r l => exact ⟨r, l, .inr rfl⟩
    | _ => exact moves.elim
  · rintro ⟨r, l, ⟨w, rfl⟩ | rfl⟩ <;> trivial

/-- Settles O48: every named gate is stopped between the stops of the others (`State.groupStopped_sweep`), and where no
evaluation falls between them the command is its stops alone (`State.stopsAll_sweep`). -/
theorem groupStopStopsTheNamedGates : Obligations.GroupStopStopsTheNamedGates := by
  intro s payload mask target level rest found asks
  obtain ⟨masked, atLevel⟩ := asks.fields_of_action
  let swept := (s.taken rest).sweep (maskGates mask) State.stopOne
  have ran : exec .groupStop s = .next (swept.reply 0x12#8 .accepted 0 (groupData (maskGates mask) [] level)) := by
    rw [found.exec_groupStop asks.row_of_action, State.takeGroupStop, masked, atLevel]
    rfl
  have replies : swept.replies = s.replies :=
    ((s.taken rest).reach_sweep _ _ fun t g => (t.reach_stopGate g).trans (State.reach_settle _)).replies
  refine ⟨_, ran, ?_, fun quiet => ?_, fun g names => ?_⟩
  · rw [State.reply_replies, replies]
    rfl
  · have all : State.StopsAll (maskGates mask) (s.taken rest) swept :=
      State.stopsAll_sweep (maskGates_nodup mask) quiet.1 fun h r listed => quiet.2 h r (mem_maskGates.mp listed)
    have listed (h : GateId) : decide (h ∈ maskGates mask) = named mask h := by
      rw [Bool.eq_iff_iff, decide_eq_true_eq, mem_maskGates]
    have waiting := all.waiting
    simp only [listed] at waiting
    refine ⟨waiting, all.slots, fun a => (all.halts a).trans ?_, fun h unnamed => ?_, fun h names => ?_⟩
    · simp only [mem_maskGates, Motion.moves_iff]
      rfl
    · exact all.others h fun listed => by simp [mem_maskGates.mp listed] at unnamed
    · exact all.motion h (mem_maskGates.mpr names)
  · have stopped : (s.taken rest).GroupStopped swept g :=
      State.groupStopped_sweep (maskGates_nodup mask) (mem_maskGates.mpr names) (s.taken rest)
    have record : swept.record g = s.record g :=
      ((s.taken rest).reach_sweep _ _ fun t g => (t.reach_stopGate g).trans (State.reach_settle _)).record g
    refine ⟨fun moves => ?_, stopped.stopping, stopped.leaving, stopped.hold, stopped.outOfService, stopped.idle,
      fun r pending => ?_⟩
    · have runs : (s.taken rest).Runs g := by
        obtain ⟨r, l, ⟨w, e⟩ | e⟩ := moves
        · exact .inl ⟨r, l, w, e⟩
        · exact .inr (.inl ⟨r, l, e⟩)
      obtain ⟨halts, queued⟩ := stopped.runs runs
      rw [record] at queued
      exact ⟨halts, queued⟩
    · obtain halts | held | ⟨quiet, idle⟩ | ⟨follows, asks⟩ := stopped.pending r pending
      · exact ⟨fun _ => .inr (.inl halts.1), fun o c _ _ => .inl halts.1⟩
      · obtain ⟨h, held⟩ := held
        exact ⟨fun _ => .inr (.inr ⟨h, held⟩), fun o c _ _ => .inr (.inl ⟨h, .inl held⟩)⟩
      · exact ⟨fun _ => .inl idle, fun o c follows _ => absurd follows quiet⟩
      · refine ⟨fun quiet => absurd follows quiet, fun o c _ above => ?_⟩
        obtain ⟨-, ⟨q, request, same, origin⟩ | ⟨h, held⟩⟩ := asks o c above
        · exact .inr (.inr ⟨q, request, congrArg Target.target same, congrArg Target.level same, origin⟩)
        · exact .inr (.inl ⟨h, .inr held⟩)

end

end Sys2Proof.Machine

/-! ## Leaving HOLD (R76 to R78) -/

namespace Sys2Proof.Machine

section
variable {s t : State} {f : RxFrame} {rest : List RxFrame} {g : GateId} {side : Side} {hi lo : Byte} {state : HoistState}
  {h : Hold} {d : Option Target}

/-! ### The reasons of a hold -/

theorem staleUnder_iff (window : Nat) (x : Option Sample) : staleUnder window x = true ↔ ∀ v, x = some v → window < v.age := by
  cases x <;> simp [staleUnder]

theorem faultOrAbsent_iff (x : Option Sample) : faultOrAbsent x = true ↔ ∀ v, x = some v → v.state = .fault := by
  cases x <;> simp [faultOrAbsent]

/-- What one side or the other has. -/
theorem Gate.exists_side {x : Gate} {p : Option Sample → Prop} : (∃ side, p (x.sample side)) ↔ p x.left ∨ p x.right := by
  refine ⟨?_, fun either => either.elim (⟨.left, ·⟩) (⟨.right, ·⟩)⟩
  rintro ⟨side, holds⟩
  cases side with
  | left => exact .inl holds
  | right => exact .inr holds

theorem Gate.stillPresent_iff (x : Gate) (r : HoldReason) : x.stillPresent r = true ↔ x.reasonPresent r := by
  cases r with
  | skew => cases skew : x.skew <;> simp [Gate.stillPresent, Gate.reasonPresent, skew]
  | hoistFault =>
    simp only [Gate.stillPresent, Gate.reasonPresent, Bool.or_eq_true, faultOrAbsent_iff]
    exact (Gate.exists_side (p := fun y => ∀ v, y = some v → v.state = .fault)).symm
  | stale =>
    simp only [Gate.stillPresent, Gate.reasonPresent, Gate.freshAtRest, Bool.not_and, Bool.not_not, Bool.or_eq_true,
      staleUnder_iff]
    exact (Gate.exists_side (p := fun y => ∀ v, y = some v → 8 * x.record.sampleWindow < v.age)).symm
  | _ => simp [Gate.stillPresent, Gate.reasonPresent]

/-! ### CLEAR HOLD -/

/-- The first reason that is still present is found behind those that are not (R77). -/
theorem Gate.find_stillPresent {x : Gate} {reason : HoldReason} {before after : List HoldReason}
    (present : x.reasonPresent reason) (others : ∀ r ∈ before, ¬ x.reasonPresent r) :
    (before ++ reason :: after).find? x.stillPresent = some reason := by
  have skipped : before.find? x.stillPresent = none :=
    List.find?_eq_none.mpr fun r listed => (x.stillPresent_iff r).not.mpr (others r listed)
  simp [List.find?_append, skipped, (x.stillPresent_iff reason).mpr present]

theorem State.leaveHold_out (out : (s.record g).inService = false) (by_ : ClearedBy) : s.leaveHold g d by_ =
    ((s.post (.holdCleared g by_)).setMotion g (.outOfService d)).setExcursion g false := by
  have record : ((s.post (.holdCleared g by_)).record g).inService = false := by rw [State.post_record]; exact out
  simp only [State.leaveHold, record, Bool.false_eq_true, if_false, State.enterOutOfService]

theorem State.leaveHold_in (serves : (s.record g).inService = true) (by_ : ClearedBy) : s.leaveHold g d by_ =
    (((s.post (.holdCleared g by_)).setMotion g .idle).useDeferred g d).excursionCheck g := by
  have record : ((s.post (.holdCleared g by_)).record g).inService = true := by rw [State.post_record]; exact serves
  simp only [State.leaveHold, record, if_true]

theorem State.useDeferred_unused (unused : d = none ∨ s.stopAsserted = true) : s.useDeferred g d = s := by
  cases d with
  | none => rfl
  | some k => simp [State.useDeferred, unused.resolve_left nofun]

/-- A hold with no target to use up is left for IDLE (R72, R78). -/
theorem State.leaveHold_idle (serves : (s.record g).inService = true) (unused : d = none ∨ s.stopAsserted = true)
    (quiet : (s.gate g).excursion = none) (by_ : ClearedBy) : s.leaveHold g d by_ =
      ((s.post (.holdCleared g by_)).setMotion g .idle).setExcursion g false := by
  have gate : ((s.post (.holdCleared g by_)).setMotion g .idle).gate g = { s.gate g with motion := .idle } := by
    rw [State.setMotion_gate_self, State.post_gate]
  rw [State.leaveHold_in serves, State.useDeferred_unused (by simpa using unused),
    State.excursionCheck_of_none (by rw [gate]) (by rw [gate]; exact quiet)]

/-- CLEAR HOLD as its command finds the gate (R77). -/
theorem State.HasRequest.exec_clearHold_gate (found : s.HasRequest 0x13#8 [byte g.val] rest) :
    exec .clearHold s = .next ((s.taken rest).clearHold g) := by
  rw [found.exec_clearHold rfl, State.takeClearHold, gateOf_byte]

theorem State.clearHold_of_not_hold (free : ∀ h d, (s.gate g).motion ≠ .hold h d) :
    s.clearHold g = s.reply 0x13#8 .accepted 0 [] := by
  unfold State.clearHold
  split
  · exact absurd ‹_› (free _ _)
  · rfl

theorem State.clearHold_present {reason : HoldReason} (held : (s.gate g).motion = .hold h d)
    (first : (h.primary :: h.further).find? (s.gate g).stillPresent = some reason) :
    s.clearHold g = s.reply 0x13#8 .stillPresent reason.code [] := by
  unfold State.clearHold
  rw [held]
  simp only [first, Config.kindClearHold]

theorem State.clearHold_gone (held : (s.gate g).motion = .hold h d)
    (gone : ∀ x ∈ h.primary :: h.further, ¬ (s.gate g).reasonPresent x) :
    s.clearHold g = (s.leaveHold g d .request).settle.reply 0x13#8 .accepted 0 [] := by
  have none : (h.primary :: h.further).find? (s.gate g).stillPresent = none :=
    List.find?_eq_none.mpr fun r listed => ((s.gate g).stillPresent_iff r).not.mpr (gone r listed)
  unfold State.clearHold
  rw [held]
  simp only [none, Config.kindClearHold]

/-! ### Fresh reports (R76, R78) -/

/-- A report makes its own sample fresh, so both are fresh where the other is (R76, R115). -/
theorem State.reported_freshAtRest : ((s.reported f rest g side hi lo state).gate g).freshAtRest =
    !staleUnder (8 * (s.record g).sampleWindow) (((s.reported f rest g side hi lo state).gate g).sample (otherSide side)) := by
  have record := State.reported_record (s := s) (f := f) (rest := rest) (g := g) (side := side) (hi := hi) (lo := lo)
    (state := state) g
  unfold Gate.freshAtRest
  rw [State.record] at record
  rw [record, State.reported, State.setGate_gate_self]
  cases side <;> simp [Gate.withSample, Gate.sample, otherSide, staleUnder, State.record]

/-- What fresh reports make of a held gate (R76, R78). -/
theorem State.staleClearing_stale (held : (s.gate g).motion = .hold h d) (stale : (s.gate g).freshAtRest = false) :
    s.staleClearing g = s := by
  simp [State.staleClearing, held, stale]

theorem State.staleClearing_other (held : (s.gate g).motion = .hold h d) (fresh : (s.gate g).freshAtRest = true)
    (other : h.primary ≠ .stale) :
    s.staleClearing g = s.setMotion g (.hold { h with further := h.further.filter (· ≠ .stale) } d) := by
  simp [State.staleClearing, held, fresh, other]

theorem State.staleClearing_next {next : HoldReason} {later : List HoldReason} (held : (s.gate g).motion = .hold h d)
    (fresh : (s.gate g).freshAtRest = true) (stale : h.primary = .stale) (others : h.further.filter (· ≠ .stale) = next :: later) :
    s.staleClearing g = (s.setMotion g (.hold { primary := next, further := later } d)).postHeld g next := by
  unfold State.staleClearing
  rw [held]
  simp only [fresh, stale, if_true, others]

theorem State.staleClearing_last (held : (s.gate g).motion = .hold h d) (fresh : (s.gate g).freshAtRest = true)
    (stale : h.primary = .stale) (others : h.further.filter (· ≠ .stale) = []) :
    s.staleClearing g = s.leaveHold g d .auto := by
  unfold State.staleClearing
  rw [held]
  simp only [fresh, stale, if_true, others]

/-- The checks that follow, of a gate that the clearing leaves at rest (R110). -/
theorem State.laterChecks_rests (rests : ((s.staleClearing g).gate g).motion.rests) (paid : (s.staleClearing g).evalDue = false) :
    s.laterChecks g = s.staleClearing g := by
  rw [State.laterChecks, State.settle_of_not_due _ paid]
  generalize s.staleClearing g = t at rests
  cases e : (t.gate g).motion with
  | idle | hold | outOfService => simp only [State.startCheck, State.restCheck, State.trimCheck, e]
  | _ => rw [e] at rests; obtain e | e := rests; cases e; exact e.elim

/-! ### A deferred target that is used up (R60, R78) -/

theorem State.applyTarget_idle (idle : (s.gate g).motion = .idle) (target level : Nat) (o : Origin) :
    s.applyTarget g target level o = s.takeIntoIdle g target level o := by
  simp only [State.applyTarget, idle]

/-- A gate back in service after its hold, before its deferred target (R78). -/
def State.cleared (s : State) (g : GateId) (by_ : ClearedBy) : State := (s.post (.holdCleared g by_)).setMotion g .idle

theorem State.cleared_gate (s : State) (g : GateId) (by_ : ClearedBy) :
    (s.cleared g by_).gate g = { s.gate g with motion := .idle } := by
  rw [State.cleared, State.setMotion_gate_self, State.post_gate]

theorem State.cleared_reach (s : State) (g : GateId) (by_ : ClearedBy) : s.Reach (s.cleared g by_) :=
  (State.Reach.post _ .refl).trans (State.reach_toIdle _ g)

theorem State.cleared_record (s : State) (g : GateId) (by_ : ClearedBy) : (s.cleared g by_).record g = s.record g := by
  rw [State.record, State.cleared_gate, State.record]

/-- A deferred target within tolerance is ARRIVED (R60, R78). -/
theorem State.leaveHold_near {k : Target} {o : Nat} (serves : (s.record g).inService = true) (free : s.stopAsserted = false)
    (opening : (s.gate g).opening = some o) (near : distance k.target o ≤ (s.record g).arriveTol) (by_ : ClearedBy) :
    s.leaveHold g (some k) by_ = ((s.cleared g by_).post (.arrived g o)).excursionCheck g := by
  have idle : ((s.cleared g by_).gate g).motion = .idle := by rw [State.cleared_gate]
  have released : (s.cleared g by_).stopAsserted = false := by simpa [State.cleared] using free
  have used : (s.cleared g by_).useDeferred g (some k) = (s.cleared g by_).post (.arrived g o) := by
    simp only [State.useDeferred, released, Bool.false_eq_true, if_false]
    rw [← State.applyTarget_idle idle]
    exact State.applyTarget_near idle (by rw [State.cleared_gate]; exact opening) (by rw [State.cleared_record]; exact near)
  rw [State.leaveHold_in serves, ← used]
  rfl

/-- A deferred target outside tolerance becomes a request of origin STATION (R60, R78). -/
theorem State.leaveHold_far {k : Target} (serves : (s.record g).inService = true) (free : s.stopAsserted = false)
    (far : ∀ o, (s.gate g).opening = some o → (s.record g).arriveTol < distance k.target o) (by_ : ClearedBy) :
    s.leaveHold g (some k) by_ = (s.cleared g by_).joinTail g (.fresh k.target k.level .station) := by
  have idle : ((s.cleared g by_).gate g).motion = .idle := by rw [State.cleared_gate]
  have released : (s.cleared g by_).stopAsserted = false := by simpa [State.cleared] using free
  have used : (s.cleared g by_).useDeferred g (some k) = (s.cleared g by_).joinTail g (.fresh k.target k.level .station) := by
    simp only [State.useDeferred, released, Bool.false_eq_true, if_false]
    rw [← State.applyTarget_idle idle]
    exact State.applyTarget_far idle (by rw [State.cleared_gate, State.cleared_record]; exact far)
  rw [State.leaveHold_in serves]
  change ((s.cleared g by_).useDeferred g (some k)).excursionCheck g = _
  rw [used]
  exact State.excursionCheck_of_not_idle (by rw [State.joinTail_gate, State.setMotion_gate_self]; nofun)

/-! ### A request that is kept through the checks (R110) -/

section
variable {k : Target} {o : Origin}

theorem Gate.Asks.busy {x : Gate} (asks : x.Asks k o) : x.motion ≠ .idle := by
  intro idle
  obtain ⟨-, ⟨q, request, -⟩ | ⟨h, held⟩⟩ := asks
  · rw [idle] at request; cases request
  · rw [idle] at held; cases held

theorem State.startCheck_unready (unready : (s.gate g).motion.unready) : s.startCheck g = s := by
  unfold State.startCheck
  split
  · next r l w e => simp [unready l (by rw [e]; rfl)]
  · rfl

theorem State.restCheck_unready (unready : (s.gate g).motion.unready) : s.restCheck g = s := by
  unfold State.restCheck
  split
  · next r l e => simp [unready l (by rw [e]; rfl)]
  · next n l w e => simp [unready l (by rw [e]; rfl)]
  · rfl

/-- The skew trim pauses and resumes, and keeps the request (R118, R119). -/
theorem State.trimCheck_asks (asks : (s.gate g).Asks k o) : ((s.trimCheck g).gate g).Asks k o := by
  cases e : (s.gate g).motion with
  | travelling r l =>
    have kept (t : State) (same : t.gate g = s.gate g) (l' : Leg) :
        ((t.setMotion g (.travelling r l')).gate g).Asks k o := by
      rw [State.setMotion_gate_self, same]
      exact (Gate.settles_of_serves ⟨by rw [e]; rfl, by rw [e]; rfl⟩ ⟨rfl, rfl⟩).asking k o asks
    unfold State.trimCheck
    rw [e]
    simp only
    split
    · split
      · split
        · exact kept _ (s.pauseHoist_gate g g _) _
        · exact asks
      · exact asks
    · split
      · exact kept _ (s.resumeHoist_gate g g _) _
      · exact asks
  | _ =>
    have same : s.trimCheck g = s := by simp only [State.trimCheck, e]
    rwa [same]

theorem State.laterChecks_asks (asks : ((s.staleClearing g).gate g).Asks k o)
    (unready : ((s.staleClearing g).gate g).motion.unready) (free : (s.staleClearing g).stopAsserted = false) :
    ((s.laterChecks g).gate g).Asks k o := by
  have kept := ((s.staleClearing g).settles_settle free g).asking k o asks
  have still := ((s.staleClearing g).turns_settle g).unready unready
  rw [State.laterChecks, State.startCheck_unready still, State.restCheck_unready still]
  exact State.trimCheck_asks kept

theorem State.openingChanged_asks (asks : (s.gate g).Asks k o) (free : s.stopAsserted = false) :
    ((s.openingChanged g).gate g).Asks k o := by
  obtain ⟨t, nudges, e⟩ := s.openingChanged_steps g
  rw [State.excursionCheck_of_not_idle asks.busy] at nudges
  have still : (t.gate g).Asks k o := by rw [nudges.gate]; exact asks
  have released := nudges.reach.free free
  obtain e | e := e <;> rw [e]
  · exact (t.settles_settle released g).asking k o still
  · exact (State.settles_settle t.owe released g).asking k o still

end

/-! ### A report to a held gate -/

theorem State.judged_of_checks (checks : s.sampleChecks g side state = t) (before : Option Nat) :
    s.judged g side state before = t ∨ s.judged g side state before = t.openingChanged g := by
  unfold State.judged
  rw [checks]
  split
  · exact .inl rfl
  · exact .inr rfl

/-- A gate that the checks leave at rest, with no excursion, is at rest when the report is taken (R73, R110). -/
theorem State.judged_rests (checks : s.sampleChecks g side state = t) (rests : (t.gate g).motion.rests)
    (quiet : (t.gate g).motion = .idle → (t.gate g).excursion = none) (before : Option Nat) :
    ((s.judged g side state before).gate g).motion = (t.gate g).motion := by
  obtain e | e := State.judged_of_checks checks before <;> rw [e]
  obtain idle | stands := rests
  · have gate : ((t.excursionCheck g).gate g).motion = (t.gate g).motion := by
      rw [State.excursionCheck_of_none idle (quiet idle), State.setExcursion_gate_self]
    rw [State.openingChanged_gate_of_rests (.inl (gate.trans idle)), gate]
  · rw [State.openingChanged_gate_of_stands stands]

theorem State.reach_judged (checks : s.sampleChecks g side state = t) (before : Option Nat) :
    t.Reach (s.judged g side state before) := by
  obtain e | e := State.judged_of_checks checks before <;> rw [e]
  · exact .refl
  · exact t.reach_openingChanged g

/-- A report to a held gate makes the clearing of STALE and the checks after it (R76, R110). -/
theorem State.HasQuietReport.sampleChecks_held (quiet : s.HasQuietReport f rest g side hi lo state)
    (held : (s.gate g).motion = .hold h d) : (s.reported f rest g side hi lo state).sampleChecks g side state =
      (s.reported f rest g side hi lo state).laterChecks g := by
  have still : ((s.reported f rest g side hi lo state).gate g).motion = .hold h d := State.reported_motion.trans held
  have evidence : (s.reported f rest g side hi lo state).takeEvidence g side state = s.reported f rest g side hi lo state :=
    State.setMotion_same (by rw [still]; rfl) State.reported_faultN
  have checks := quiet.sampleChecks
  simp only [evidence] at checks
  exact checks

theorem State.reach_laterChecks (s : State) (g : GateId) : (s.staleClearing g).Reach (s.laterChecks g) :=
  (((State.reach_settle _).trans (State.reach_startCheck _ g)).trans (State.reach_restCheck _ g)).trans
    (State.reach_trimCheck _ g)

theorem State.post_mem_of_room (s : State) (n : Notice) (room : s.notices.length < 16) :
    { notice := n, stamp := s.tideClock } ∈ (s.post n).notices := by
  rw [State.post_of_room _ _ room]
  simp

/-- The HELD notice of a gate whose motion state is set (R74, R76). -/
theorem State.postHeld_mem (s : State) (m : Motion) (r : HoldReason) (room : s.notices.length < 16) :
    { notice := .held g r (s.gate g).opening (s.gate g).skew, stamp := s.tideClock } ∈
      ((s.setMotion g m).postHeld g r).notices := by
  rw [State.postHeld, State.setMotion_gate_self]
  exact (s.setMotion g m).post_mem_of_room _ room

/-- The notice of a hold that is left (R78). -/
theorem State.leaveHold_posts (room : s.notices.length < 16) (by_ : ClearedBy) :
    { notice := .holdCleared g by_, stamp := s.tideClock } ∈ (s.leaveHold g d by_).notices := by
  have posted := s.post_mem_of_room (.holdCleared g by_) room
  cases serves : (s.record g).inService with
  | false => rwa [State.leaveHold_out serves, State.setExcursion_notices, State.setMotion_notices]
  | true =>
    have idle : ((s.cleared g by_).gate g).motion = .idle := by rw [State.cleared_gate]
    rw [State.leaveHold_in serves]
    exact ((State.reach_useDeferred (s.cleared g by_) g d).trans (State.reach_excursionCheck _ g)).notices posted

/-- Settles O49: CLEAR HOLD is `State.clearHold`, and a report clears STALE (`State.staleClearing_last` and its kin) before
checks that leave the gate at rest (`State.laterChecks_rests`) or keep its request (`State.laterChecks_asks`). -/
theorem holdsClearByRequestOrFreshReports : Obligations.HoldsClearByRequestOrFreshReports := by
  refine ⟨fun s g rest found paid => ?_, fun s f rest g side hi lo state h d quiet held paid => ?_⟩
  · have ran := found.exec_clearHold_gate
    refine ⟨fun free => ?_, fun h d held => ⟨fun before reason after split present others => ?_, fun gone =>
      ⟨fun out => ?_, fun serves unused quiet => ?_⟩⟩⟩
    · rw [ran, State.clearHold_of_not_hold (s := s.taken rest) free]
      rfl
    · rw [ran, State.clearHold_present (s := s.taken rest) held (split ▸ Gate.find_stillPresent present others)]
      rfl
    · rw [ran, State.clearHold_gone (s := s.taken rest) held gone, State.leaveHold_out (s := s.taken rest) out,
        State.settle_of_not_due _ (by simpa using paid)]
      rfl
    · rw [ran, State.clearHold_gone (s := s.taken rest) held gone,
        State.leaveHold_idle (s := s.taken rest) serves unused quiet, State.settle_of_not_due _ (by simpa using paid)]
      rfl
  · let stored := s.reported f rest g side hi lo state
    have still : (stored.gate g).motion = .hold h d := State.reported_motion.trans held
    have record : stored.record g = s.record g := State.reported_record g
    have unowed : stored.evalDue = false := paid
    have fresh : (stored.gate g).freshAtRest = _ := State.reported_freshAtRest
    have checks := quiet.sampleChecks_held held
    have ran := quiet.exec (by rw [held]; rfl)
    have told (n : Notice) (posted : s.notices.length < 15 → { notice := n, stamp := s.tideClock } ∈
        (stored.staleClearing g).notices) (room : s.notices.length < 15) : { notice := n, stamp := s.tideClock } ∈
          (s.sentOn (stored.judged g side state (s.gate g).opening) f.frame).notices := by
      rw [State.sentOn_notices]
      exact ((stored.reach_laterChecks g).trans (State.reach_judged checks _)).notices (posted room)
    have rests (u : State) (cleared : stored.staleClearing g = u) (unowed : u.evalDue = false) (rests : (u.gate g).motion.rests)
        (calm : (u.gate g).motion = .idle → (u.gate g).excursion = none) :
        ((s.sentOn (stored.judged g side state (s.gate g).opening) f.frame).gate g).motion = (u.gate g).motion := by
      subst cleared
      rw [State.laterChecks_rests rests unowed] at checks
      rw [State.sentOn_gate, State.judged_rests checks rests calm]
    refine ⟨_, ran, fun stale => ?_, fun clear other => ?_, fun next later clear stale others => ⟨?_, ?_⟩,
      fun clear stale others => ?_⟩
    · rw [rests stored (State.staleClearing_stale still (fresh.trans stale)) paid (by rw [still]; exact .inr trivial)
        (by rw [still]; nofun), still]
    · rw [rests _ (State.staleClearing_other still (fresh.trans clear) other) paid
        (by rw [State.setMotion_gate_self]; exact .inr trivial) (by rw [State.setMotion_gate_self]; nofun), State.setMotion_gate_self]
    · have motion : (((stored.setMotion g (.hold { primary := next, further := later } d)).postHeld g next).gate g).motion =
          .hold { primary := next, further := later } d := by rw [State.postHeld_gate, State.setMotion_gate_self]
      rw [rests _ (State.staleClearing_next still (fresh.trans clear) stale others) (by simpa [State.postHeld] using unowed)
        (by rw [motion]; exact .inr trivial) (by rw [motion]; nofun), motion]
    · refine told _ fun room => ?_
      rw [State.staleClearing_next still (fresh.trans clear) stale others]
      exact stored.postHeld_mem _ next (Nat.lt_succ_of_lt room)
    · have last := State.staleClearing_last still (fresh.trans clear) stale others
      refine ⟨told _ fun room => ?_, fun out => ?_, fun serves unused calm => ?_, fun kept serves deferred free =>
        ⟨fun o opening near => ⟨told _ fun room => ?_, fun calm => ?_⟩, fun far => ?_⟩⟩
      · rw [last]
        exact State.leaveHold_posts (s := stored) (Nat.lt_succ_of_lt room) .auto
      · rw [← record] at out
        rw [State.leaveHold_out out] at last
        rw [rests _ last (by simpa using unowed) (by simp; exact .inr trivial) (by simp), State.setExcursion_gate_self,
          State.setMotion_gate_self]
      · rw [← record] at serves
        rw [State.leaveHold_idle serves unused calm] at last
        rw [rests _ last (by simpa using unowed) (by simp; exact .inl rfl) (fun _ => by simp; exact calm),
          State.setExcursion_gate_self, State.setMotion_gate_self]
      · rw [← record] at serves near
        subst deferred
        rw [State.leaveHold_near serves free opening near] at last
        rw [last]
        have clock : (stored.cleared g .auto).tideClock = s.tideClock := (stored.cleared_reach g .auto).tideClock
        rw [← clock]
        refine (State.reach_excursionCheck _ g).notices (State.post_mem_of_room (stored.cleared g .auto) _ ?_)
        exact lt_of_le_of_lt (stored.post_notices_length _) (Nat.succ_lt_succ room)
      · rw [← record] at serves near
        subst deferred
        have gate : (((stored.cleared g .auto).post (.arrived g o)).gate g) = { stored.gate g with motion := .idle } := by
          rw [State.post_gate, State.cleared_gate]
        rw [State.leaveHold_near serves free opening near,
          State.excursionCheck_of_none (by rw [gate]) (by rw [gate]; exact calm)] at last
        rw [rests _ last (by simpa [State.cleared] using unowed) (by rw [State.setExcursion_gate_self, gate]; exact .inl rfl)
          (fun _ => by rw [State.setExcursion_gate_self, gate]; exact calm), State.setExcursion_gate_self, gate]
      · rw [← record] at serves far
        subst deferred
        rw [State.leaveHold_far serves free far] at last
        have gate : (((stored.cleared g .auto).joinTail g (.fresh kept.target kept.level .station)).gate g) =
            { stored.gate g with motion := .pending (.fresh kept.target kept.level .station) } := by
          rw [State.joinTail_gate, State.setMotion_gate_self, State.cleared_gate]
        have asks : ((stored.laterChecks g).gate g).Asks kept .station := by
          refine State.laterChecks_asks ?_ ?_ ((stored.reach_staleClearing g).free free)
          · rw [last, gate]
            exact ⟨far, .inl ⟨_, rfl, rfl, rfl⟩⟩
          · rw [last, gate]
            exact Motion.unready_of_leg rfl
        have released := ((stored.reach_staleClearing g).trans (stored.reach_laterChecks g)).free free
        have still : ((stored.judged g side state (s.gate g).opening).gate g).Asks kept .station := by
          obtain e | e := State.judged_of_checks checks (s.gate g).opening <;> rw [e]
          · exact asks
          · exact State.openingChanged_asks asks released
        rw [State.sentOn_gate]
        obtain ⟨-, ⟨q, request, same, origin⟩ | held⟩ := still
        · exact .inl ⟨q, request, congrArg Target.target same, congrArg Target.level same, origin⟩
        · exact .inr held

end

end Sys2Proof.Machine

/-! ## RESTART (R83, R105, R127, R145, R174) -/

namespace Sys2Proof.Machine

/-! ### What a restart leaves of the state -/

/-- From `s` to `t` gates, mode and notices may change, with FAULT_N and the overflow flag, and nothing else. -/
def State.Aside (s t : State) : Prop :=
  t = { s with mode := t.mode, gates := t.gates, faultN := t.faultN, notices := t.notices, overflow := t.overflow }

/-- Of a gate, ceiling and excursion mark alone may change (R40, R73). -/
structure State.Judges (s t : State) : Prop where
  aside : s.Aside t
  gate : ∀ g, t.gate g = { s.gate g with
    ceiling := (t.gate g).ceiling, excursionReported := (t.gate g).excursionReported }

/-- No gate waits, moves or follows its ceiling, and no evaluation is owed. -/
structure State.Still (s : State) : Prop where
  waiting : s.waiting = []
  due : s.evalDue = false
  rests : ∀ g, (s.gate g).motion.rests
  leads : ∀ g, (s.gate g).motion = .idle → (s.record g).trackCeiling = false ∨ s.stopAsserted = true

section
variable {s t u : State} {g h : GateId}

theorem State.Aside.trans (a : s.Aside t) (b : t.Aside u) : s.Aside u := by
  unfold State.Aside at *
  rw [b, a]

theorem State.Judges.refl (s : State) : s.Judges s := ⟨rfl, fun _ => rfl⟩

theorem State.Judges.trans (a : s.Judges t) (b : t.Judges u) : s.Judges u :=
  ⟨a.aside.trans b.aside, fun g => by rw [b.gate g, a.gate g]⟩

theorem State.Judges.motion (a : s.Judges t) (g : GateId) : (t.gate g).motion = (s.gate g).motion := by rw [a.gate g]

theorem State.Judges.record (a : s.Judges t) (g : GateId) : t.record g = s.record g := by
  rw [State.record, a.gate g, State.record]

theorem State.Still.judges (still : s.Still) (a : s.Judges t) : t.Still := by
  refine ⟨?_, ?_, fun g => a.motion g ▸ still.rests g, fun g idle => ?_⟩
  · rw [a.aside]; exact still.waiting
  · rw [a.aside]; exact still.due
  · have stop : t.stopAsserted = s.stopAsserted := by rw [a.aside]
    rw [a.record, stop]
    exact still.leads g (a.motion g ▸ idle)

theorem State.judges_post (s : State) (n : Notice) : s.Judges (s.post n) := by
  unfold State.post
  split <;> exact ⟨rfl, fun _ => rfl⟩

theorem State.judges_setExcursion (s : State) (g : GateId) (b : Bool) : s.Judges (s.setExcursion g b) := by
  refine ⟨rfl, fun h => ?_⟩
  rw [State.setExcursion_gate]
  split
  · next same => rw [same]
  · rfl

theorem State.judges_setCeiling (s : State) (g : GateId) (c : Option Nat) : s.Judges (s.setCeiling g c) := by
  refine ⟨rfl, fun h => ?_⟩
  by_cases same : h = g
  · subst same
    rw [State.setCeiling, State.setGate_gate_self]
  · rw [State.setCeiling, State.setGate_gate_ne _ _ same]

/-- Chains of such changes, each on a still state. -/
theorem State.Still.judges_sweep (still : s.Still) (gs : List GateId) {act : State → GateId → State}
    (one : ∀ (t : State) g, t.Still → t.Judges (act t g)) : s.Judges (s.sweep gs act) := by
  unfold State.sweep
  induction gs generalizing s with
  | nil => exact .refl s
  | cons g gs ih =>
    have first := one s g still
    exact first.trans (ih (still.judges first))

theorem State.Still.excursionCheck (still : s.Still) (g : GateId) : s.Judges (s.excursionCheck g) := by
  by_cases idle : (s.gate g).motion = .idle
  · cases excursion : (s.gate g).excursion with
    | none =>
      rw [State.excursionCheck_of_none idle excursion]
      exact s.judges_setExcursion g false
    | some oc =>
      rw [State.excursionCheck_reports idle excursion (still.leads g idle)]
      split
      · exact .refl s
      · exact (s.judges_post _).trans (State.judges_setExcursion _ g true)
  · rw [State.excursionCheck_of_not_idle idle]
    exact .refl s

/-- The check that a ceiling change brings finds no gate moving (R41). -/
theorem State.Still.ceilingCheck (still : s.Still) (g : GateId) : s.Judges (s.ceilingCheck g) := by
  have rests := still.rests g
  unfold State.ceilingCheck
  split
  · exact still.excursionCheck g
  · next e => rw [e] at rests; obtain e | e := rests; cases e; exact e.elim
  · next e => rw [e] at rests; obtain e | e := rests; cases e; exact e.elim
  · exact .refl s

theorem State.Still.checkExcursionOf (still : s.Still) (g : GateId) :
    s.checkExcursionOf g = s.excursionCheck g :=
  State.settle_of_not_due _ (still.judges (still.excursionCheck g)).due

/-- Where no gate waits an evaluation changes nothing (R88). -/
theorem State.Still.evaluateNow (still : s.Still) : s.evaluateNow = s := by
  have evaluated : s.owe.evaluate = s := by
    rw [State.evaluate_of_waiting_nil (s := s.owe) still.waiting, ← still.due]
    rfl
  exact (State.settle_of_evaluate (s := s.owe) rfl (by rw [evaluated]; exact still.due)).trans evaluated

theorem State.Still.recomputeCeilings (still : s.Still) : s.Judges s.recomputeCeilings.1 :=
  still.judges_sweep _ fun t g _ => t.judges_setCeiling g _

theorem State.Still.ceilingPath (still : s.Still) : s.Judges s.ceilingPath := by
  have recomputed := still.recomputeCeilings
  have checked := (still.judges recomputed).judges_sweep s.recomputeCeilings.2 fun t g rests => rests.ceilingCheck g
  have all := recomputed.trans checked
  unfold State.ceilingPath
  simp only
  split
  · exact all
  · rw [(still.judges all).evaluateNow]
    exact all

theorem State.judges_headed (s : State) : s.Judges (s.headed s.head) := by
  have posted (ns : List Notice) : s.Judges (s.postAll ns) := by
    unfold State.postAll
    induction ns generalizing s with
    | nil => exact .refl s
    | cons n ns ih => exact (s.judges_post n).trans (ih _)
  have all := posted (modeNotices s.mode (modeAfter s.settings s.mode s.head) s.head s.head)
  refine ⟨?_, fun g => all.gate g⟩
  have aside := all.aside
  unfold State.Aside State.headed at *
  rw [aside]

/-- The head pair held, and the mode that it gives now (R34). -/
theorem State.Still.newHead (still : s.Still) : s.Judges (s.newHead s.head) := by
  by_cases same : s.head = s.head ∧ s.mode = modeAfter s.settings s.mode s.head
  · rw [s.newHead_same same.1 same.2]
    exact .refl s
  · have headed := s.judges_headed
    have path := headed.trans (still.judges headed).ceilingPath
    obtain e | e := s.newHead_changed same <;> rw [e]
    · exact path
    · rwa [(still.judges path).evaluateNow]

/-! ### The gates that a restart sets (R83) -/

/-- A gate as a restart sets it (R83). -/
def Gate.restarted (x : Gate) : Gate :=
  { x with
    motion := if x.record.inService then if x.freshAtRest then .idle else .hold { primary := .stale, further := [] } none
      else .outOfService none
    excursionReported := false }

theorem State.restartGate_gate (s : State) (g : GateId) :
    (∀ h, h ≠ g → (s.restartGate g).gate h = s.gate h) ∧ (s.restartGate g).gate g = (s.gate g).restarted := by
  have own : ((s.setExcursion g false).gate g) = { s.gate g with excursionReported := false } := s.setExcursion_gate_self g false
  have record : (s.setExcursion g false).record g = s.record g := s.setExcursion_record g g false
  have others (h : GateId) (other : h ≠ g) : (s.setExcursion g false).gate h = s.gate h := by
    rw [State.setExcursion_gate, if_neg other]
  have fresh : ((s.setExcursion g false).gate g).freshAtRest = (s.gate g).freshAtRest := by rw [own]; rfl
  unfold State.restartGate Gate.restarted
  simp only [record, fresh]
  cases serves : (s.record g).inService with
  | false =>
    have out : (s.gate g).record.inService = false := serves
    simp only [Bool.false_eq_true, if_false, out]
    exact ⟨fun h other => (State.setMotion_gate_ne _ _ other).trans (others h other), by rw [State.setMotion_gate_self, own]⟩
  | true =>
    have serving : (s.gate g).record.inService = true := serves
    simp only [if_true, serving]
    split
    · exact ⟨fun h other => (State.setMotion_gate_ne _ _ other).trans (others h other), by rw [State.setMotion_gate_self, own]⟩
    · refine ⟨fun h other => ?_, ?_⟩
      · rw [State.makeHold, State.postHeld_gate, State.setMotion_gate_ne _ _ other, others h other]
      · rw [State.makeHold, State.postHeld_gate, State.setMotion_gate_self, own]

/-- The notice of a gate that is restarted, where its hoists are not fresh (R74, R83). -/
def State.restartNotice (s : State) (g : GateId) : Option Notice :=
  if (s.gate g).restarted.motion.isHold then some (.held g .stale (s.gate g).opening (s.gate g).skew) else none

/-- From `s` to `t` notices are posted, each at the present time. -/
def State.Adds (s t : State) (ns : List Notice) : Prop :=
  s.notices.length + ns.length ≤ 16 → t.overflow = s.overflow ∧
    t.notices = s.notices ++ ns.map fun n => { notice := n, stamp := s.tideClock }

theorem State.adds_nil (overflow : t.overflow = s.overflow) (notices : t.notices = s.notices) : s.Adds t [] :=
  fun _ => ⟨overflow, by rw [notices]; simp⟩

theorem State.adds_post (s : State) (n : Notice) : s.Adds (s.post n) [n] := fun room => by
  rw [State.post_of_room _ _ (by simpa using room)]
  exact ⟨rfl, rfl⟩

theorem State.Adds.trans {ms ns : List Notice} (a : s.Adds t ms) (clock : t.tideClock = s.tideClock) (b : t.Adds u ns) :
    s.Adds u (ms ++ ns) := fun room => by
  rw [List.length_append] at room
  obtain ⟨overflow, notices⟩ := a (by omega)
  obtain ⟨overflow', notices'⟩ := b (by rw [notices, List.length_append, List.length_map]; omega)
  exact ⟨overflow'.trans overflow, by rw [notices', notices, clock, List.map_append, List.append_assoc]⟩

theorem State.Aside.tideClock (a : s.Aside t) : t.tideClock = s.tideClock := by rw [a]

theorem State.aside_post (s : State) (n : Notice) : s.Aside (s.post n) := (s.judges_post n).aside

/-- What a restart does beside the gate: FAULT_N, and the HELD notice (R79, R83). -/
theorem State.restartGate_aside (s : State) (g : GateId) : s.Aside (s.restartGate g) ∧ (s.restartGate g).mode = s.mode ∧
    s.Adds (s.restartGate g) (s.restartNotice g).toList := by
  have own : ((s.setExcursion g false).gate g) = { s.gate g with excursionReported := false } := s.setExcursion_gate_self g false
  have record : (s.setExcursion g false).record g = s.record g := s.setExcursion_record g g false
  have fresh : ((s.setExcursion g false).gate g).freshAtRest = (s.gate g).freshAtRest := by rw [own]; rfl
  have quiet (m : Motion) : s.Aside ((s.setExcursion g false).setMotion g m) ∧
      ((s.setExcursion g false).setMotion g m).mode = s.mode ∧ s.Adds ((s.setExcursion g false).setMotion g m) [] :=
    ⟨rfl, rfl, State.adds_nil rfl rfl⟩
  unfold State.restartGate State.restartNotice Gate.restarted
  simp only [record, fresh]
  cases serves : (s.record g).inService with
  | false =>
    have out : (s.gate g).record.inService = false := serves
    simp only [Bool.false_eq_true, if_false, out]
    exact quiet _
  | true =>
    have serving : (s.gate g).record.inService = true := serves
    simp only [if_true, serving]
    split
    · exact quiet _
    · obtain ⟨aside, mode, adds⟩ := quiet (.hold { primary := .stale, further := [] } none)
      have notice : ((s.setExcursion g false).setMotion g (.hold { primary := .stale, further := [] } none)).postHeld g .stale =
          ((s.setExcursion g false).setMotion g (.hold { primary := .stale, further := [] } none)).post
            (.held g .stale (s.gate g).opening (s.gate g).skew) := by
        rw [State.postHeld, State.setMotion_gate_self, own]
        rfl
      rw [State.makeHold, notice]
      exact ⟨aside.trans (State.aside_post _ _), (State.post_mode _ _).trans mode,
        adds.trans rfl (State.adds_post _ _)⟩

theorem State.restarts_sweep {gs : List GateId} (nodup : gs.Nodup) (s : State) :
    s.Aside (s.sweep gs State.restartGate) ∧ (s.sweep gs State.restartGate).mode = s.mode ∧
      s.Adds (s.sweep gs State.restartGate) (gs.filterMap s.restartNotice) ∧
      ∀ g, (s.sweep gs State.restartGate).gate g = if g ∈ gs then (s.gate g).restarted else s.gate g := by
  unfold State.sweep
  induction gs generalizing s with
  | nil => exact ⟨rfl, rfl, State.adds_nil rfl rfl, fun _ => rfl⟩
  | cons g gs ih =>
    obtain ⟨apart, nodup⟩ := List.nodup_cons.mp nodup
    obtain ⟨others, own⟩ := s.restartGate_gate g
    obtain ⟨aside, mode, adds⟩ := s.restartGate_aside g
    obtain ⟨aside', mode', adds', gates'⟩ := ih nodup (s.restartGate g)
    have same (h : GateId) (listed : h ∈ gs) : (s.restartGate g).gate h = s.gate h := others h fun e => apart (e ▸ listed)
    have notices : gs.filterMap (s.restartGate g).restartNotice = gs.filterMap s.restartNotice :=
      List.filterMap_congr fun h listed => by rw [State.restartNotice, State.restartNotice, same h listed]
    rw [notices] at adds'
    refine ⟨aside.trans aside', mode'.trans mode, ?_, fun h => ?_⟩
    · have all := adds.trans aside.tideClock adds'
      cases e : s.restartNotice g <;> simpa [List.filterMap_cons, e] using all
    · rw [List.foldl_cons, gates']
      by_cases self : h = g
      · rw [self, if_neg apart, own, if_pos List.mem_cons_self]
      · rw [others h self]
        simp [self]

/-! ### The excursion checks of a restart (R73, R83) -/

/-- The notice of an IDLE gate above its ceiling (R73). -/
def State.excursionNotice (s : State) (g : GateId) : Option Notice :=
  if (s.gate g).motion = .idle then (s.gate g).excursion.map fun x => .excursion g x.1 x.2 else none

/-- Of a gate, the excursion mark alone is other than before. -/
def State.Marked (g : GateId) (s t : State) : Prop :=
  t.gate g = { s.gate g with excursionReported := (t.gate g).excursionReported }

theorem State.Marked.notice (a : State.Marked g s t) : t.excursionNotice g = s.excursionNotice g := by
  rw [State.excursionNotice, a, State.excursionNotice]
  rfl

/-- The check of a gate that is not yet reported (R73). -/
theorem State.Still.checks (still : s.Still) (unreported : (s.gate g).excursionReported = false) :
    State.Marked g s (s.excursionCheck g) ∧ s.Adds (s.excursionCheck g) (s.excursionNotice g).toList := by
  by_cases idle : (s.gate g).motion = .idle
  · rw [State.excursionNotice, if_pos idle]
    cases excursion : (s.gate g).excursion with
    | none =>
      rw [State.excursionCheck_of_none idle excursion, State.Marked, State.setExcursion_gate_self]
      exact ⟨rfl, State.adds_nil rfl rfl⟩
    | some oc =>
      rw [State.excursionCheck_reports idle excursion (still.leads g idle), unreported, if_neg (by simp), State.Marked,
        State.setExcursion_gate_self, State.post_gate]
      exact ⟨rfl, State.adds_post s _⟩
  · rw [State.excursionNotice, if_neg idle, State.excursionCheck_of_not_idle idle]
    exact ⟨rfl, State.adds_nil rfl rfl⟩

theorem State.Still.checks_sweep (still : s.Still) {gs : List GateId} (nodup : gs.Nodup)
    (unreported : ∀ g ∈ gs, (s.gate g).excursionReported = false) :
    s.Judges (s.sweep gs State.checkExcursionOf) ∧ (s.sweep gs State.checkExcursionOf).mode = s.mode ∧
      (∀ g, State.Marked g s (s.sweep gs State.checkExcursionOf)) ∧
      s.Adds (s.sweep gs State.checkExcursionOf) (gs.filterMap s.excursionNotice) := by
  unfold State.sweep
  induction gs generalizing s with
  | nil => exact ⟨.refl s, rfl, fun _ => rfl, State.adds_nil rfl rfl⟩
  | cons g gs ih =>
    obtain ⟨apart, nodup⟩ := List.nodup_cons.mp nodup
    have judges := still.excursionCheck g
    obtain ⟨marked, adds⟩ := still.checks (unreported g List.mem_cons_self)
    have others (h : GateId) (other : h ≠ g) : (s.excursionCheck g).gate h = s.gate h := s.excursionCheck_gate_ne other
    have listed (h : GateId) (here : h ∈ gs) : (s.excursionCheck g).gate h = s.gate h := others h fun e => apart (e ▸ here)
    obtain ⟨judges', mode', marked', adds'⟩ := ih (still.judges judges) nodup fun h here => by
      rw [listed h here]
      exact unreported h (List.mem_cons_of_mem g here)
    have notices : gs.filterMap (s.excursionCheck g).excursionNotice = gs.filterMap s.excursionNotice :=
      List.filterMap_congr fun h here => by rw [State.excursionNotice, State.excursionNotice, listed h here]
    rw [notices] at adds'
    rw [List.foldl_cons, still.checkExcursionOf]
    refine ⟨judges.trans judges', mode'.trans ((s.reach_excursionCheck g).mode), fun h => ?_, ?_⟩
    · by_cases self : h = g
      · subst self
        rw [State.Marked, marked' h, marked]
      · rw [State.Marked, marked' h, others h self]
    · have all := adds.trans judges.aside.tideClock adds'
      cases e : s.excursionNotice g <;> simpa [List.filterMap_cons, e] using all

/-- Gates of which each has one of two notices at most. -/
theorem length_filterMap_add {α β : Type} {p q : α → Option β} (apart : ∀ a, p a = none ∨ q a = none) (l : List α) :
    (l.filterMap p).length + (l.filterMap q).length ≤ l.length := by
  induction l with
  | nil => simp
  | cons a l ih =>
    obtain e | e := apart a
    · cases f : q a <;> simp [e, f] <;> omega
    · cases f : p a <;> simp [e, f] <;> omega

/-! ### The stages of a restart (R174) -/

/-- The queues emptied, and HALT sent to the hoists of the gates that held a slot (R105, R127, R145). -/
def State.restartHalted (s : State) : State :=
  s.emptied.sweep (allGates.filter fun g => (s.gate g).motion.holdsSlot) State.haltGate

/-- Every gate restarted (R83). -/
def State.restartGated (s : State) : State := s.restartHalted.sweep allGates State.restartGate

/-- Both disagreement flags cleared (R34). -/
def State.unflagged (s : State) : State :=
  { s with
    upstream := { s.upstream with disagree := false }
    downstream := { s.downstream with disagree := false } }

theorem State.warmRestart_eq (s : State) : s.warmRestart =
    s.restartGated.restartLevel.recomputeCeilings.1.sweep allGates State.checkExcursionOf := rfl

theorem State.restartLevel_eq (s : State) : s.restartLevel = s.unflagged.newHead s.unflagged.head := rfl

/-- HALT to a gate where no order waits (R69, R108). -/
theorem State.haltGate_alone {s : State} (none : s.orderQueue = []) (g : GateId) :
    s.haltGate g = { s with haltQueue := (s.haltGate g).haltQueue } := by
  have frame := s.haltGate_frame g
  have still : (s.haltGate g).orderQueue = s.orderQueue := by rw [State.haltGate_orderQueue, none]; rfl
  rwa [still] at frame

/-- HALT to some gates where no order waits (R69, R108). -/
theorem State.haltAll (gs : List GateId) (s : State) (none : s.orderQueue = []) :
    s.sweep gs State.haltGate = { s with haltQueue := (s.sweep gs State.haltGate).haltQueue } ∧
      (∀ a ∈ s.haltQueue, a ∈ (s.sweep gs State.haltGate).haltQueue) ∧
      ∀ g ∈ gs, ∀ side a, (s.record g).hoist side = some a → a ∈ (s.sweep gs State.haltGate).haltQueue := by
  unfold State.sweep
  induction gs generalizing s with
  | nil => exact ⟨rfl, fun _ => id, fun _ listed => absurd listed (by simp)⟩
  | cons g gs ih =>
    have halted := State.haltGate_alone none g
    have record (h : GateId) : (s.haltGate g).record h = s.record h := State.haltGate_record s g h
    have keeps := s.haltGate_keepsHalts g
    have sends (side : Side) (a : LinkAddr) (names : (s.record g).hoist side = some a) := s.haltGate_haltQueue names
    rw [List.foldl_cons]
    generalize s.haltGate g = u at *
    obtain ⟨frame, kept, sent⟩ := ih u (by rw [halted, none])
    refine ⟨?_, fun a waits => kept a (keeps.subset waits), fun h listed side a names => ?_⟩
    · rw [frame, halted]
    · obtain rfl | listed := List.mem_cons.mp listed
      · exact kept a (sends side a names)
      · exact sent h listed side a (by rwa [record])

theorem State.restartHalted_frame (s : State) : s.restartHalted = { s.emptied with haltQueue := s.restartHalted.haltQueue } :=
  (State.haltAll _ s.emptied rfl).1

theorem State.restartHalted_gate (s : State) (g : GateId) : s.restartHalted.gate g = s.gate g := by
  rw [s.restartHalted_frame]
  rfl

theorem State.restartGated_gate (s : State) (g : GateId) : s.restartGated.gate g = (s.gate g).restarted := by
  obtain ⟨-, -, -, gates⟩ := State.restarts_sweep allGates_nodup s.restartHalted
  rw [State.restartGated, gates, if_pos (mem_allGates g), State.restartHalted_gate]

theorem State.restartGated_aside (s : State) : s.restartHalted.Aside s.restartGated :=
  (State.restarts_sweep allGates_nodup s.restartHalted).1

theorem Gate.restarted_motion (x : Gate) : x.restarted.motion = if x.record.inService then
    if staleUnder (8 * x.record.sampleWindow) x.left = false ∧ staleUnder (8 * x.record.sampleWindow) x.right = false then .idle
    else .hold { primary := .stale, further := [] } none else .outOfService none := by
  have fresh : x.freshAtRest = true ↔ staleUnder (8 * x.record.sampleWindow) x.left = false ∧
      staleUnder (8 * x.record.sampleWindow) x.right = false := by simp [Gate.freshAtRest]
  simp only [Gate.restarted, fresh]

theorem Gate.restarted_rests (x : Gate) : x.restarted.motion.rests ∧ (x.restarted.motion = .idle → x.record.inService = true) := by
  rw [Gate.restarted_motion]
  split
  · next serves =>
    refine ⟨?_, fun _ => serves⟩
    split
    · exact .inl rfl
    · exact .inr trivial
  · exact ⟨.inr trivial, nofun⟩

theorem State.Aside.keeps (a : s.Aside t) :
    t.waiting = s.waiting ∧ t.evalDue = s.evalDue ∧ t.stopAsserted = s.stopAsserted := by
  rw [a]
  exact ⟨rfl, rfl, rfl⟩

theorem State.Aside.levels (a : s.Aside t) :
    t.haltQueue = s.haltQueue ∧ t.upstream = s.upstream ∧ t.downstream = s.downstream ∧ t.settings = s.settings ∧ t.head = s.head := by
  rw [a]
  exact ⟨rfl, rfl, rfl, rfl, rfl⟩

theorem State.restartHalted_keeps (s : State) : s.restartHalted.waiting = [] ∧ s.restartHalted.evalDue = s.evalDue ∧
    s.restartHalted.stopAsserted = s.stopAsserted := by
  rw [s.restartHalted_frame]
  exact ⟨rfl, rfl, rfl⟩

/-- The restarted gates rest, where none follows its ceiling (R73, R83). -/
theorem State.restartGated_still (s : State) (paid : s.evalDue = false)
    (leads : ∀ g, (s.record g).inService = true → (s.record g).trackCeiling = false ∨ s.stopAsserted = true) :
    s.restartGated.Still := by
  obtain ⟨waiting, due, stop⟩ := s.restartGated_aside.keeps
  obtain ⟨empty, due', stop'⟩ := s.restartHalted_keeps
  refine ⟨waiting.trans empty, by rw [due, due', paid], fun g => ?_, fun g idle => ?_⟩
  · rw [s.restartGated_gate]
    exact (s.gate g).restarted_rests.1
  · rw [s.restartGated_gate] at idle
    have record : s.restartGated.record g = s.record g := by rw [State.record, s.restartGated_gate]; rfl
    rw [record, stop, stop']
    exact leads g ((s.gate g).restarted_rests.2 idle)

theorem State.unflagged_gate (s : State) (g : GateId) : s.unflagged.gate g = s.gate g := rfl

theorem State.unflagged_levels (s : State) : s.unflagged.haltQueue = s.haltQueue ∧
    s.unflagged.upstream = { s.upstream with disagree := false } ∧
      s.unflagged.downstream = { s.downstream with disagree := false } := ⟨rfl, rfl, rfl⟩

/-- A restarted gate once its ceiling and its excursion are judged (R42, R73, R83). -/
theorem Gate.judged_restarted {x y : Gate}
    (judged : y = { x.restarted with ceiling := y.ceiling, excursionReported := y.excursionReported }) :
    y = { x with motion := x.restarted.motion, ceiling := y.ceiling, excursionReported := y.excursionReported } := judged

theorem State.Still.unflagged (still : s.Still) : s.unflagged.Still := ⟨still.waiting, still.due, still.rests, still.leads⟩

theorem State.Still.restartLevel (still : s.unflagged.Still) : s.unflagged.Judges s.restartLevel := by
  rw [State.restartLevel_eq]
  exact still.newHead

/-- After the gates a restart judges ceilings and excursions alone (R34, R42, R73). -/
theorem State.Still.restart (still : s.unflagged.Still) :
    s.unflagged.Judges (s.restartLevel.recomputeCeilings.1.sweep allGates State.checkExcursionOf) := by
  have headed := still.restartLevel
  have capped := headed.trans (still.judges headed).recomputeCeilings
  exact capped.trans ((still.judges capped).judges_sweep allGates fun t g rests => by
    rw [rests.checkExcursionOf]
    exact rests.excursionCheck g)

theorem State.judges_warmRestart (s : State) (still : s.restartGated.Still) :
    s.restartGated.unflagged.Judges s.warmRestart := s.warmRestart_eq ▸ still.unflagged.restart

/-- The state without what a restart changes after it has emptied the queues. -/
def State.besideRestart (s : State) : State :=
  { s with
    haltQueue := State.reset.haltQueue, upstream := State.reset.upstream, downstream := State.reset.downstream
    mode := State.reset.mode, gates := State.reset.gates, faultN := State.reset.faultN
    notices := State.reset.notices, overflow := State.reset.overflow }

theorem State.Aside.beside (a : s.Aside t) : t.besideRestart = s.besideRestart := by
  rw [a]
  rfl

theorem State.unflagged_beside (s : State) : s.unflagged.besideRestart = s.besideRestart := rfl

theorem State.restartHalted_beside (s : State) : s.restartHalted.besideRestart = s.emptied.besideRestart := by
  rw [s.restartHalted_frame]
  rfl

/-- What a restart leaves as the emptied queues have it (R174). -/
theorem State.warmRestart_beside (s : State) (still : s.restartGated.Still) :
    s.warmRestart.besideRestart = s.emptied.besideRestart := by
  rw [(s.judges_warmRestart still).aside.beside, s.restartGated.unflagged_beside, s.restartGated_aside.beside,
    s.restartHalted_beside]

theorem State.restartHalted_levels (s : State) : s.restartHalted.upstream = s.upstream ∧
    s.restartHalted.downstream = s.downstream ∧ s.restartHalted.settings = s.settings ∧ s.restartHalted.head = s.head ∧
      s.restartHalted.mode = s.mode ∧ s.restartHalted.tideClock = s.tideClock ∧ s.restartHalted.notices = [] ∧
      s.restartHalted.overflow = false := by
  rw [s.restartHalted_frame]
  exact ⟨rfl, rfl, rfl, rfl, rfl, rfl, rfl, rfl⟩

/-- HALT to every gate that held a slot, beside the HALTs that wait (R105). -/
theorem State.restartHalted_halts (s : State) : (∀ a ∈ s.haltQueue, a ∈ s.restartHalted.haltQueue) ∧
    ∀ g side a, (s.gate g).motion.holdsSlot = true → (s.record g).hoist side = some a → a ∈ s.restartHalted.haltQueue := by
  obtain ⟨-, kept, sent⟩ := State.haltAll (allGates.filter fun g => (s.gate g).motion.holdsSlot) s.emptied rfl
  exact ⟨kept, fun g side a holds names => sent g (by simp [mem_allGates, holds]) side a names⟩

/-- The two sides and the halt queue when a restart is over (R34, R105). -/
theorem State.warmRestart_levels (s : State) (still : s.restartGated.Still) :
    s.warmRestart.haltQueue = s.restartHalted.haltQueue ∧ s.warmRestart.upstream = { s.upstream with disagree := false } ∧
      s.warmRestart.downstream = { s.downstream with disagree := false } := by
  obtain ⟨halts, up, down, -, -⟩ := (s.judges_warmRestart still).aside.levels
  obtain ⟨halts', up', down', -, -⟩ := s.restartGated_aside.levels
  obtain ⟨up'', down'', -⟩ := s.restartHalted_levels
  obtain ⟨queue, upper, lower⟩ := s.restartGated.unflagged_levels
  rw [halts, queue, halts', up, upper, up', up'', down, lower, down', down'']
  exact ⟨rfl, rfl, rfl⟩

/-- A gate when a restart is over (R83). -/
theorem State.warmRestart_gate (s : State) (still : s.restartGated.Still) (g : GateId) : s.warmRestart.gate g =
    { s.gate g with
      motion := (s.gate g).restarted.motion
      ceiling := (s.warmRestart.gate g).ceiling
      excursionReported := (s.warmRestart.gate g).excursionReported } := by
  have judged := (s.judges_warmRestart still).gate g
  rw [State.unflagged_gate, State.restartGated_gate] at judged
  exact Gate.judged_restarted judged

/-! ### The notices of a restart (R174, R184) -/

theorem State.setCeilings_quiet (gs : List GateId) (s : State) :
    let t := s.sweep gs fun s g => s.setCeiling g (s.computeCeiling (s.gate g))
    t.notices = s.notices ∧ t.overflow = s.overflow ∧ ∀ g, (t.gate g).excursionReported = (s.gate g).excursionReported := by
  refine ⟨?_, ?_, fun g => ?_⟩
  · unfold State.sweep
    induction gs generalizing s with
    | nil => rfl
    | cons g gs ih => exact ih _
  · unfold State.sweep
    induction gs generalizing s with
    | nil => rfl
    | cons g gs ih => exact ih _
  · rw [s.sweep_setCeiling_gate]
    split <;> rfl

/-- Where the mode stays, ceilings are recomputed without a notice (R31, R42). -/
theorem State.restartLevel_quiet (settled : modeAfter s.settings s.mode s.head = s.mode) : s.restartLevel = s.unflagged := by
  rw [State.restartLevel_eq]
  exact s.unflagged.newHead_same rfl settled.symm

/-- The notices of new ceilings and the excursion checks after them (R42, R73). -/
theorem State.Still.capped_adds (still : s.Still) (unreported : ∀ g, (s.gate g).excursionReported = false) :
    s.Adds (s.recomputeCeilings.1.sweep allGates State.checkExcursionOf)
      (allGates.filterMap (s.recomputeCeilings.1.sweep allGates State.checkExcursionOf).excursionNotice) := by
  have capped := still.recomputeCeilings
  obtain ⟨notices, overflow, marks⟩ := State.setCeilings_quiet (allGates.filter fun g =>
    (s.record g).inService && decide ((s.gate g).ceiling ≠ s.computeCeiling (s.gate g))) s
  change (s.recomputeCeilings.1).notices = _ at notices
  change (s.recomputeCeilings.1).overflow = _ at overflow
  change ∀ g, ((s.recomputeCeilings.1).gate g).excursionReported = _ at marks
  generalize s.recomputeCeilings.1 = u at *
  obtain ⟨-, -, marked, adds⟩ := (still.judges capped).checks_sweep allGates_nodup fun g _ => (marks g).trans (unreported g)
  have same := List.filterMap_congr (l := allGates) fun g _ => (marked g).notice
  rw [same]
  exact (State.adds_nil overflow notices).trans capped.aside.tideClock adds

theorem State.Adds.of_unflagged {ns : List Notice} (adds : s.unflagged.Adds t ns) : s.Adds t ns := adds

/-- The notices of a restart after its holds (R42, R73, R83). -/
theorem State.Still.restart_adds (still : s.Still) (settled : modeAfter s.settings s.mode s.head = s.mode)
    (unreported : ∀ g, (s.gate g).excursionReported = false) :
    s.Adds (s.restartLevel.recomputeCeilings.1.sweep allGates State.checkExcursionOf) (allGates.filterMap
      (s.restartLevel.recomputeCeilings.1.sweep allGates State.checkExcursionOf).excursionNotice) := by
  rw [State.restartLevel_quiet settled]
  exact (still.unflagged.capped_adds unreported).of_unflagged

theorem filterMap_ite {α β : Type} (p : α → Bool) (f : α → β) (l : List α) :
    l.filterMap (fun a => if p a then some (f a) else none) = (l.filter p).map f := by
  induction l with
  | nil => rfl
  | cons a l ih => cases e : p a <;> simp [e, ih]

/-- The holds of a restart (R83). -/
theorem State.restartGated_adds (s : State) : s.restartGated.mode = s.mode ∧
    s.restartHalted.Adds s.restartGated (allGates.filterMap s.restartNotice) := by
  obtain ⟨-, mode, adds, -⟩ := State.restarts_sweep allGates_nodup s.restartHalted
  have notices : allGates.filterMap s.restartHalted.restartNotice = allGates.filterMap s.restartNotice :=
    List.filterMap_congr fun g _ => by rw [State.restartNotice, State.restartNotice, s.restartHalted_gate]
  rw [notices] at adds
  obtain ⟨-, -, -, -, mode', -⟩ := s.restartHalted_levels
  exact ⟨mode.trans mode', adds⟩

/-- Where the mode stays, a restart posts its holds and then its excursions (R174, R184). -/
theorem State.warmRestart_adds (s : State) (still : s.restartGated.Still)
    (settled : modeAfter s.settings s.mode s.head = s.mode) : s.restartHalted.Adds s.warmRestart
      (allGates.filterMap s.restartNotice ++ allGates.filterMap s.warmRestart.excursionNotice) := by
  obtain ⟨mode, adds⟩ := s.restartGated_adds
  obtain ⟨-, -, -, settings, head⟩ := s.restartGated_aside.levels
  obtain ⟨-, -, settings', head', -⟩ := s.restartHalted_levels
  have stays : modeAfter s.restartGated.settings s.restartGated.mode s.restartGated.head = s.restartGated.mode := by
    rw [settings, settings', head, head', mode, settled]
  have after := still.restart_adds stays fun g => by
    rw [s.restartGated_gate]
    rfl
  rw [← s.warmRestart_eq] at after
  exact adds.trans s.restartGated_aside.tideClock after

/-! ### O57 -/

theorem State.exec_restart {rest : List RxFrame} (found : s.HasRequest 0x26#8 [] rest) :
    exec .restart s = .next ((s.taken rest).warmRestart.reply 0x26#8 .accepted 0 []) :=
  congrArg Host.Outcome.next (found.takeStation rfl fun t _ => t.warmRestart.reply 0x26#8 .accepted 0 [])

/-- Settles O57: a restart sets the gates (`State.restartGated_gate`), and with no gate that follows its ceiling judges ceilings
and excursions alone after them (`State.judges_warmRestart`, `State.warmRestart_adds`). -/
theorem restartSetsEveryGateAtOnce : Obligations.RestartSetsEveryGateAtOnce := by
  intro s rest found paid leads
  have still : (s.taken rest).restartGated.Still := (s.taken rest).restartGated_still paid leads
  have gate := (s.taken rest).warmRestart_gate still
  obtain ⟨halts, up, down⟩ := (s.taken rest).warmRestart_levels still
  obtain ⟨kept, sent⟩ := (s.taken rest).restartHalted_halts
  obtain ⟨-, -, -, -, -, clock, empty, unset⟩ := (s.taken rest).restartHalted_levels
  have adds := (s.taken rest).warmRestart_adds still
  have beside {α : Type} (field : State → α) : field (s.taken rest).warmRestart.besideRestart =
      field (s.taken rest).emptied.besideRestart := congrArg field ((s.taken rest).warmRestart_beside still)
  rw [← halts] at kept sent
  have ran := State.exec_restart found
  generalize (s.taken rest).warmRestart = w at *
  refine ⟨_, ran, fun g => ?_, fun g => ?_, kept, fun g side a => sent g side a, beside State.slotsInUse,
    beside State.grantCounter, beside State.waiting, beside State.orderQueue, beside State.upQueue, beside State.downQueue,
    beside State.staging, beside State.capture, beside State.tideClock, beside State.spCounters, beside State.fpCounters,
    beside State.settings, beside State.stopAsserted, beside State.routes, beside State.head, up, down, beside State.silence, ?_, fun settled => ?_⟩
  · exact (congrArg Gate.motion (gate g)).trans (s.gate g).restarted_motion
  · rw [State.reply_gate, State.reply_record, State.record, gate g]
    exact ⟨rfl, rfl, rfl⟩
  · rw [State.reply_replies]
    exact congrArg (· ++ _) (beside State.replies)
  · have motion (g : GateId) : (w.gate g).motion = (s.gate g).restarted.motion := by
      rw [gate g, State.taken_gate]
    have apart (g : GateId) : (s.taken rest).restartNotice g = none ∨ w.excursionNotice g = none := by
      rw [State.excursionNotice, motion, State.restartNotice, State.taken_gate]
      cases (s.gate g).restarted.motion <;> simp [Motion.isHold]
    obtain ⟨overflow, notices⟩ := adds settled (by
      have room := length_filterMap_add apart allGates
      have twelve : allGates.length = 12 := rfl
      rw [empty, List.length_append, List.length_nil]
      omega)
    have held : allGates.filterMap (s.taken rest).restartNotice = (allGates.filter fun g => (w.gate g).motion.isHold).map
        fun g => .held g .stale (s.gate g).opening (s.gate g).skew := by
      simp only [motion]
      exact filterMap_ite _ _ _
    rw [empty, clock, held, List.nil_append] at notices
    refine ⟨overflow.trans unset, ?_, ?_⟩
    · rw [State.reply_notices, notices, List.map_map, List.map_map]
      rfl
    · rw [State.reply_notices, notices, List.map_map]
      exact List.map_id _

end

end Sys2Proof.Machine

/-! ## The choice of the victim (R92) -/

namespace Sys2Proof.Machine

/-- Key `a` is no better a choice of victim than key `b`: a lower level, or the same level with no later stamp (R92). -/
def spared (a b : Nat × Nat) : Prop := a.1 < b.1 ∨ (a.1 = b.1 ∧ a.2 ≤ b.2)

theorem spared_refl (a : Nat × Nat) : spared a a := .inr ⟨rfl, le_refl a.2⟩

theorem spared_trans {a b c : Nat × Nat} (ab : spared a b) (bc : spared b c) : spared a c := by
  unfold spared at *
  omega

theorem spared_of_worse {a b : Nat × Nat} (w : worse a b = true) : spared b a := by
  simp only [worse, Bool.or_eq_true, Bool.and_eq_true, decide_eq_true_eq] at w
  unfold spared
  omega

theorem spared_of_not_worse {a b : Nat × Nat} (w : ¬ worse a b = true) : spared a b := by
  simp only [worse, Bool.or_eq_true, Bool.and_eq_true, decide_eq_true_eq] at w
  unfold spared
  omega

/-- A gate's key says that it moves on a request above level 0, and names level and stamp. -/
theorem Motion.victimKey_eq_some_iff {m : Motion} {k : Nat × Nat} : m.victimKey = some k ↔
    ∃ r l, ((∃ w, m = .starting r l w) ∨ m = .travelling r l) ∧ 0 < r.level ∧ k = (r.level, l.stamp) := by
  constructor
  · intro key
    cases m with
    | starting r l w =>
      obtain ⟨above, named⟩ := Option.ite_none_right_eq_some.mp key
      exact ⟨r, l, .inl ⟨w, rfl⟩, above, (Option.some.inj named).symm⟩
    | travelling r l =>
      obtain ⟨above, named⟩ := Option.ite_none_right_eq_some.mp key
      exact ⟨r, l, .inr rfl, above, (Option.some.inj named).symm⟩
    | _ => cases key
  · rintro ⟨r, l, ⟨w, rfl⟩ | rfl, above, rfl⟩
    · exact if_pos above
    · exact if_pos above

section
variable {s : State}

/-- No gate among those weighed is a better choice than the one chosen. -/
theorem State.victimAmong_best {gs : List GateId} {v : GateId} {best : Nat × Nat}
    (chosen : s.victimAmong gs = some (v, best)) :
    ∀ h ∈ gs, ∀ k, (s.gate h).motion.victimKey = some k → spared k best := by
  induction gs generalizing v best with
  | nil => cases chosen
  | cons g gs ih =>
    simp only [List.forall_mem_cons]
    unfold State.victimAmong at chosen
    split at chosen
    next absent => exact ⟨fun k key => (nomatch absent.symm.trans key), ih chosen⟩
    next own key alone =>
      obtain ⟨rfl, rfl⟩ := Prod.mk.inj (Option.some.inj chosen)
      refine ⟨fun k named => ?_, fun h listed k named => ?_⟩
      · obtain rfl := Option.some.inj (key.symm.trans named)
        exact spared_refl own
      · exact nomatch (State.victimAmong_none alone h listed).symm.trans named
    next own h least key rest =>
      split at chosen
      next w =>
        obtain ⟨rfl, rfl⟩ := Prod.mk.inj (Option.some.inj chosen)
        refine ⟨fun k named => ?_, ih rest⟩
        obtain rfl := Option.some.inj (key.symm.trans named)
        exact spared_of_worse w
      next w =>
        obtain ⟨rfl, rfl⟩ := Prod.mk.inj (Option.some.inj chosen)
        refine ⟨fun k named => ?_, fun h' listed k named =>
          spared_trans (ih rest h' listed k named) (spared_of_not_worse w)⟩
        obtain rfl := Option.some.inj (key.symm.trans named)
        exact spared_refl own

end

/-- Settles O20, from the best key among all gates and the absence of keys when there is none. -/
theorem victimIsTheLeastUrgentMover : Obligations.VictimIsTheLeastUrgentMover := by
  unfold Obligations.VictimIsTheLeastUrgentMover
  refine fun s => ⟨fun v chosen => ?_, fun absent h r l moves => ?_⟩
  · obtain ⟨⟨v, best⟩, among, rfl⟩ := Option.map_eq_some_iff.mp chosen
    obtain ⟨r, l, moves, above, rfl⟩ := Motion.victimKey_eq_some_iff.mp (State.victimAmong_some among)
    refine ⟨r, l, ⟨moves, above⟩, fun h r' l' ⟨moves', above'⟩ => ?_⟩
    exact State.victimAmong_best among h (mem_allGates h) _
      (Motion.victimKey_eq_some_iff.mpr ⟨r', l', moves', above', rfl⟩)
  · have keyless := State.victimAmong_none (Option.map_eq_none_iff.mp absent) h (mem_allGates h)
    exact nomatch keyless.symm.trans (Motion.victimKey_eq_some_iff.mpr ⟨r, l, moves.1, moves.2, rfl⟩)

end Sys2Proof.Machine

/-! ## A frame heard after its sync (R129, R130, R132) -/

namespace Sys2Proof.Machine

theorem crcBytes_length (w : CrcWord) : (crcBytes w).length = 2 := rfl

theorem byte_toNat_of_le_48 {n : Nat} (short : n ≤ 48) : (byte n).toNat = n := by
  simp only [byte, BitVec.toNat_ofNat]
  omega

theorem checkCandidate_eq (len dst src kind : Byte) (rest : List Byte) :
    checkCandidate len (dst :: src :: kind :: rest) =
      if rest.drop len.toNat = crcBytes (crc (len :: dst :: src :: kind :: rest.take len.toNat)) then
        some { dst := dst, src := src, kind := kind, payload := rest.take len.toNat } else none := rfl

/-- The characters of a frame after its length pass the CRC check, and give the frame again (R130). -/
theorem checkCandidate_frame (f : Frame) (short : f.payload.length ≤ 48) :
    checkCandidate (byte f.payload.length) (f.dst :: f.src :: f.kind :: (f.payload ++ crcBytes (crc f.body))) = some f := by
  rw [checkCandidate_eq, byte_toNat_of_le_48 short, List.drop_left, List.take_left]
  exact if_pos rfl

theorem scan_nil (fuel : Nat) : scan fuel [] = ([], []) := by
  cases fuel <;> rfl

/-- One candidate whose characters are all there, and check, is taken whole (R132). -/
theorem scan_good {fuel : Nat} {c l : RxChar} {body rest : List RxChar} {f : Frame} (sync : c.data = Config.sync)
    (short : l.data.toNat ≤ 48) (whole : body.length = l.data.toNat + 5)
    (checks : checkCandidate l.data (body.map RxChar.data) = some f) :
    scan (fuel + 1) (c :: l :: (body ++ rest)) =
      ((scan fuel rest).1, .good { frame := f, stamp := c.stamp } :: (scan fuel rest).2) := by
  have enough : ¬ (body ++ rest).length < body.length := by
    rw [List.length_append]
    omega
  rw [scan, if_neg (not_not_intro sync)]
  simp only [if_neg (Nat.not_lt.mpr short), if_neg enough, ← whole, List.take_left, List.drop_left, checks]

section
variable (s : State) (port : Port)

/-- A port's receiver that has heard a sync, and then the other characters of a frame, has heard that frame (R132). -/
theorem scan_frame (f : Frame) (short : f.payload.length ≤ 48) (stamp now : ClockWord) (fuel : Nat) :
    scan (fuel + 1) ({ data := Config.sync, stamp := stamp } :: f.bytes.tail.map fun c => { data := c, stamp := now }) =
      ([], [.good { frame := f, stamp := stamp }]) := by
  have len := byte_toNat_of_le_48 short
  have read := scan_good (fuel := fuel) (c := { data := Config.sync, stamp := stamp })
    (l := { data := byte f.payload.length, stamp := now })
    (body := (f.dst :: f.src :: f.kind :: (f.payload ++ crcBytes (crc f.body))).map fun c => { data := c, stamp := now })
    (rest := []) (f := f) rfl (len.trans_le short)
    (by simp only [List.length_map, List.length_cons, List.length_append, crcBytes_length, len])
    (by rw [List.map_map]; exact (congrArg (checkCandidate _) (List.map_id _)).trans (checkCandidate_frame f short))
  rw [List.append_nil, scan_nil] at read
  exact read

/-- What a port does with the frame that its receiver has heard (R101, R132, R133). -/
theorem State.receive_frame (f : Frame) (short : f.payload.length ≤ 48) (stamp : ClockWord)
    (synced : s.receiver port = [{ data := Config.sync, stamp := stamp }]) :
    s.receive port f.bytes.tail = (s.setReceiver port []).hear port (.good { frame := f, stamp := stamp }) := by
  have taken := scan_frame f short stamp s.tideClock
  rw [State.receive, synced, State.rescan, List.singleton_append, List.length_cons, taken]
  rfl

end

/-- Settles O15, from what the receiver makes of a whole frame. -/
theorem frameCheckReadsTheEncodedFrame : Obligations.FrameCheckReadsTheEncodedFrame := by
  unfold Obligations.FrameCheckReadsTheEncodedFrame
  intro s port f stamp short synced
  have heard := s.receive_frame port f short stamp synced
  cases port with
  | sp => exact congrArg _ heard
  | fp => exact congrArg _ heard

end Sys2Proof.Machine

/-! ## The pending list and the slots in the Sequencer and the Arbiter (R85, R86)

The invariant of O7 but for its part about STOP_N is `State.Balanced`. A transition that takes a gate out of the pending
list or gives back its slot leaves, for a while, a state that is balanced but for that gate (`State.BalancedBut`). -/

namespace Sys2Proof.Machine

/-! ### Balanced states -/

/-- The pending list and the count of slots agree with the motion states, and the count is within K (R85, R86). -/
structure State.Balanced (s : State) : Prop where
  once : s.waiting.Nodup
  listed : ∀ k, k ∈ s.waiting ↔ (s.gate k).motion.isPending = true
  count : s.slotsInUse = (allGates.filter fun k => (s.gate k).motion.holdsSlot).length
  withinK : s.slotsInUse ≤ s.settings.slots

/-- The state is balanced when gate `g` is left out: it is not in the list, and no slot of it is counted. -/
structure State.BalancedBut (g : GateId) (s : State) : Prop where
  once : s.waiting.Nodup
  listed : ∀ k, k ∈ s.waiting ↔ k ≠ g ∧ (s.gate k).motion.isPending = true
  count : s.slotsInUse = (allGates.filter fun k => decide (k ≠ g) && (s.gate k).motion.holdsSlot).length
  withinK : s.slotsInUse ≤ s.settings.slots

/-- From `s` to `t` the list, the count, K and every motion state but that of gate `g` are the same. -/
structure State.SameBooks (g : GateId) (s t : State) : Prop where
  others : ∀ k, k ≠ g → (t.gate k).motion = (s.gate k).motion
  waiting : t.waiting = s.waiting
  slots : t.slotsInUse = s.slotsInUse
  limit : t.settings.slots = s.settings.slots

theorem Motion.rests_iff (m : Motion) : m.rests ↔ m.isPending = false ∧ m.holdsSlot = false := by
  cases m <;> simp [Motion.rests, Motion.stands, Motion.isPending, Motion.holdsSlot]

theorem Motion.not_isPending_of_holdsSlot {m : Motion} (holds : m.holdsSlot = true) : m.isPending = false := by
  cases m with
  | pending r => cases holds
  | _ => rfl

section
variable {s t u : State} {g : GateId}

theorem State.SameBooks.trans (h : State.SameBooks g s t) (k : State.SameBooks g t u) : State.SameBooks g s u :=
  ⟨fun j ne => (k.others j ne).trans (h.others j ne), k.waiting.trans h.waiting, k.slots.trans h.slots,
    k.limit.trans h.limit⟩

theorem State.ActsOn.sameBooks (acts : State.ActsOn g s t) (settings : t.settings = s.settings) : State.SameBooks g s t :=
  ⟨fun k ne => congrArg Gate.motion (acts.others k ne), acts.waiting, acts.slots, by rw [settings]⟩

/-- A count of the gates that hold slots, with one of them left out. -/
theorem gates_count_but {p : GateId → Bool} (holds : p g = true) :
    (allGates.filter p).length = (allGates.filter fun k => decide (k ≠ g) && p k).length + 1 :=
  gates_count_gained (fun k ne => by simp [ne]) (by simp) holds

theorem gates_count_but_same {p : GateId → Bool} (out : p g = false) :
    (allGates.filter fun k => decide (k ≠ g) && p k) = allGates.filter p := by
  refine List.filter_congr fun k _ => ?_
  by_cases own : k = g
  · subst own; simp [out]
  · simp [own]

/-! #### Leaving a gate out -/

/-- A gate that rests is in neither book. -/
theorem State.Balanced.but (h : s.Balanced) (rests : (s.gate g).motion.rests) : State.BalancedBut g s := by
  obtain ⟨idle, free⟩ := (Motion.rests_iff _).mp rests
  refine ⟨h.once, fun k => ?_, by rw [gates_count_but_same free]; exact h.count, h.withinK⟩
  rw [h.listed]
  refine ⟨fun waits => ⟨?_, waits⟩, And.right⟩
  rintro rfl
  rw [idle] at waits
  cases waits

/-- A gate whose slot is given back is in neither book. -/
theorem State.Balanced.releaseSlot (h : s.Balanced) (holds : (s.gate g).motion.holdsSlot = true) :
    State.BalancedBut g s.releaseSlot := by
  have fewer := gates_count_but (p := fun k => (s.gate k).motion.holdsSlot) holds
  have count := h.count
  have within := h.withinK
  refine ⟨h.once, fun k => (h.listed k).trans ⟨fun waits => ⟨?_, waits⟩, And.right⟩, ?_, ?_⟩
  · rintro rfl
    rw [Motion.not_isPending_of_holdsSlot holds] at waits
    cases waits
  · show s.slotsInUse - 1 = (allGates.filter fun k => decide (k ≠ g) && (s.gate k).motion.holdsSlot).length
    omega
  · show s.slotsInUse - 1 ≤ s.settings.slots
    omega

/-- A gate that leaves the pending list is in neither book. -/
theorem State.Balanced.leaveList (h : s.Balanced) (waits : (s.gate g).motion.isPending = true) (m : Motion) :
    State.BalancedBut g (s.leaveList g m) := by
  have free : (s.gate g).motion.holdsSlot = false := by
    cases e : (s.gate g).motion with
    | pending r => rfl
    | _ => rw [e] at waits; cases waits
  have others (k : GateId) (ne : k ≠ g) : ((s.leaveList g m).gate k).motion = (s.gate k).motion := by
    rw [State.leaveList_gate, State.setMotion_gate_ne _ _ ne]
  refine ⟨h.once.filter _, fun k => ?_, ?_, by simpa using h.withinK⟩
  · simp only [State.leaveList_waiting, List.mem_filter, decide_eq_true_eq, h.listed]
    refine and_comm.trans (and_congr_right fun ne => ?_)
    rw [others k ne]
  · have same : (allGates.filter fun k => decide (k ≠ g) && ((s.leaveList g m).gate k).motion.holdsSlot) =
        allGates.filter fun k => decide (k ≠ g) && (s.gate k).motion.holdsSlot := by
      refine List.filter_congr fun k _ => ?_
      by_cases own : k = g
      · simp [own]
      · rw [others k own]
    rw [same, gates_count_but_same free]
    simpa using h.count

theorem State.BalancedBut.same (h : State.BalancedBut g s) (k : State.SameBooks g s t) : State.BalancedBut g t := by
  refine ⟨k.waiting ▸ h.once, fun j => ?_, ?_, ?_⟩
  · rw [k.waiting, h.listed]
    refine and_congr_right fun ne => ?_
    rw [k.others j ne]
  · rw [k.slots, h.count]
    refine congrArg List.length (List.filter_congr fun j _ => ?_)
    by_cases own : j = g
    · simp [own]
    · rw [k.others j own]
  · rw [k.slots, k.limit]
    exact h.withinK

/-! #### Taking the gate in again -/

/-- A gate left out may rest. -/
theorem State.BalancedBut.rest (h : State.BalancedBut g s) (rests : (s.gate g).motion.rests) : s.Balanced := by
  obtain ⟨idle, free⟩ := (Motion.rests_iff _).mp rests
  refine ⟨h.once, fun k => (h.listed k).trans ⟨And.right, fun waits => ⟨?_, waits⟩⟩, ?_, h.withinK⟩
  · rintro rfl
    rw [idle] at waits
    cases waits
  · rw [h.count, gates_count_but_same free]

/-- A gate left out may join the list at a place (R86). -/
theorem State.BalancedBut.join (h : State.BalancedBut g s) (others : ∀ k, k ≠ g → t.gate k = s.gate k)
    (waits : (t.gate g).motion.isPending = true) (waiting : t.waiting.Perm (g :: s.waiting))
    (slots : t.slotsInUse = s.slotsInUse) (settings : t.settings = s.settings) : t.Balanced := by
  have out : g ∉ s.waiting := fun listed => ((h.listed g).mp listed).1 rfl
  have free : (t.gate g).motion.holdsSlot = false := by
    cases e : (t.gate g).motion with
    | pending r => rfl
    | _ => rw [e] at waits; cases waits
  have same : (allGates.filter fun k => decide (k ≠ g) && (s.gate k).motion.holdsSlot) =
      allGates.filter fun k => decide (k ≠ g) && (t.gate k).motion.holdsSlot := by
    refine List.filter_congr fun k _ => ?_
    by_cases own : k = g
    · simp [own]
    · rw [others k own]
  refine ⟨waiting.nodup_iff.mpr (List.nodup_cons.mpr ⟨out, h.once⟩), fun k => ?_, ?_, ?_⟩
  · rw [waiting.mem_iff, List.mem_cons, h.listed]
    by_cases own : k = g
    · simp [own, waits]
    · simp [own, others k own]
  · rw [slots, h.count, same, gates_count_but_same free]
  · rw [slots, settings]
    exact h.withinK

theorem State.BalancedBut.joinTail (h : State.BalancedBut g s) (r : Request) : (s.joinTail g r).Balanced := by
  refine h.join (fun k ne => by rw [State.joinTail_gate, State.setMotion_gate_ne _ _ ne]) ?_ ?_ (by simp) (by simp)
  · rw [State.joinTail_gate, State.setMotion_gate_self]; rfl
  · rw [State.joinTail_waiting]
    exact List.perm_append_singleton g s.waiting

theorem State.BalancedBut.joinHead (h : State.BalancedBut g s) (r : Request) : (s.joinHead g r).Balanced := by
  refine h.join (fun k ne => by rw [State.joinHead_gate, State.setMotion_gate_ne _ _ ne]) ?_ ?_ (by simp) (by simp)
  · rw [State.joinHead_gate, State.setMotion_gate_self]; rfl
  · rw [State.joinHead_waiting]

/-- A gate left out may take a slot that is free (R85, R90). -/
theorem State.BalancedBut.takeSlot (h : State.BalancedBut g s) (room : s.slotsInUse < s.settings.slots)
    (books : State.SameBooks g { s with slotsInUse := s.slotsInUse + 1 } t) (holds : (t.gate g).motion.holdsSlot = true) :
    t.Balanced := by
  have others (k : GateId) (ne : k ≠ g) : (t.gate k).motion = (s.gate k).motion := books.others k ne
  have waiting : t.waiting = s.waiting := books.waiting
  have more := gates_count_but (p := fun k => (t.gate k).motion.holdsSlot) holds
  have same : (allGates.filter fun k => decide (k ≠ g) && (t.gate k).motion.holdsSlot) =
      allGates.filter fun k => decide (k ≠ g) && (s.gate k).motion.holdsSlot := by
    refine List.filter_congr fun k _ => ?_
    by_cases own : k = g
    · simp [own]
    · rw [others k own]
  refine ⟨waiting ▸ h.once, fun k => ?_, ?_, ?_⟩
  · rw [waiting, h.listed]
    by_cases own : k = g
    · subst own
      simp [Motion.not_isPending_of_holdsSlot holds]
    · simp [own, others k own]
  · rw [books.slots, more, same, ← h.count]
  · rw [books.slots, books.limit]
    exact room

/-! #### Changes that move no book -/

/-- A gate may take another motion state of its book. -/
theorem State.Balanced.same (h : s.Balanced) (k : State.SameBooks g s t)
    (pending : (t.gate g).motion.isPending = (s.gate g).motion.isPending)
    (holds : (t.gate g).motion.holdsSlot = (s.gate g).motion.holdsSlot) : t.Balanced := by
  have pendings (j : GateId) : (t.gate j).motion.isPending = (s.gate j).motion.isPending := by
    by_cases own : j = g
    · rw [own, pending]
    · rw [k.others j own]
  have slots (j : GateId) : (t.gate j).motion.holdsSlot = (s.gate j).motion.holdsSlot := by
    by_cases own : j = g
    · rw [own, holds]
    · rw [k.others j own]
  refine ⟨k.waiting ▸ h.once, fun j => by rw [k.waiting, h.listed, pendings], ?_, ?_⟩
  · simp only [slots, k.slots, h.count]
  · rw [k.slots, k.limit]
    exact h.withinK

theorem State.Balanced.setMotion (h : s.Balanced) {m : Motion} (pending : m.isPending = (s.gate g).motion.isPending)
    (holds : m.holdsSlot = (s.gate g).motion.holdsSlot) : (s.setMotion g m).Balanced :=
  h.same ((State.actsOn_setMotion s m).sameBooks (by simp)) (by rw [State.setMotion_gate_self]; exact pending)
    (by rw [State.setMotion_gate_self]; exact holds)

/-- A gate that rests may take another motion state of rest. -/
theorem State.Balanced.setMotion_rests (h : s.Balanced) {m : Motion} (before : (s.gate g).motion.rests) (after : m.rests) :
    (s.setMotion g m).Balanced := by
  obtain ⟨p, b⟩ := (Motion.rests_iff _).mp before
  obtain ⟨q, c⟩ := (Motion.rests_iff _).mp after
  exact h.setMotion (q.trans p.symm) (c.trans b.symm)

/-- Where list, count, K and every motion state are the same, the state stays balanced. -/
theorem State.Balanced.of_same (h : s.Balanced) (motion : ∀ k, (t.gate k).motion = (s.gate k).motion)
    (waiting : t.waiting = s.waiting) (slots : t.slotsInUse = s.slotsInUse) (limit : t.settings.slots = s.settings.slots) :
    t.Balanced :=
  h.same (g := 0) ⟨fun k _ => motion k, waiting, slots, limit⟩ (by rw [motion]) (by rw [motion])

theorem State.Balanced.post (h : s.Balanced) (n : Notice) : (s.post n).Balanced :=
  h.of_same (by simp) (by simp) (by simp) (by simp)

theorem State.sameBooks_post (s : State) (n : Notice) : State.SameBooks g s (s.post n) :=
  ⟨by simp, by simp, by simp, by simp⟩

theorem State.Balanced.setExcursion (h : s.Balanced) (g : GateId) (b : Bool) : (s.setExcursion g b).Balanced := by
  refine h.of_same (fun k => ?_) (by simp) (by simp) (by simp)
  rw [State.setExcursion_gate]
  split
  · next own => rw [own]
  · rfl

theorem State.Balanced.owe (h : s.Balanced) : s.owe.Balanced := h.of_same (fun _ => rfl) rfl rfl rfl

theorem State.Balanced.paid (h : s.Balanced) : s.paid.Balanced := h.of_same (fun _ => rfl) rfl rfl rfl

theorem State.sameBooks_haltGate (s : State) (h : GateId) : State.SameBooks g s (s.haltGate h) := by
  rw [s.haltGate_frame h]
  exact ⟨fun _ _ => rfl, rfl, rfl, rfl⟩

theorem State.Balanced.haltGate (h : s.Balanced) (g : GateId) : (s.haltGate g).Balanced :=
  h.same (g := g) (s.sameBooks_haltGate g) (by rw [State.haltGate_gate]) (by rw [State.haltGate_gate])

theorem State.Balanced.postArrived (h : s.Balanced) (g : GateId) : (s.postArrived g).Balanced := by
  unfold State.postArrived
  split
  · exact h.post _
  · exact h

/-- A sweep of changes that keep the state balanced. -/
theorem State.Balanced.sweep (h : s.Balanced) (gs : List GateId) {act : State → GateId → State}
    (one : ∀ (t : State) g, t.Balanced → (act t g).Balanced) : (s.sweep gs act).Balanced := by
  unfold State.sweep
  induction gs generalizing s with
  | nil => exact h
  | cons g gs ih => exact ih (one s g h)

/-! ### The Sequencer -/

theorem State.Balanced.excursionCheck (h : s.Balanced) (g : GateId) : (s.excursionCheck g).Balanced := by
  unfold State.excursionCheck
  split
  · rename_i idle
    split
    · exact h.setExcursion g false
    · unfold State.actOnExcursion
      split
      · exact (h.but (.inl idle)).joinTail _
      · split
        · exact h
        · exact (h.post _).setExcursion g true
  · exact h

theorem State.Balanced.enterStopping (h : s.Balanced) (holds : (s.gate g).motion.holdsSlot = true) (next : NextStep)
    (l : Leg) : (s.enterStopping g next l).Balanced :=
  (h.haltGate g).setMotion (by rw [State.haltGate_gate, Motion.not_isPending_of_holdsSlot holds]; rfl)
    (by rw [State.haltGate_gate, holds]; rfl)

theorem State.Balanced.enterOutOfService (h : s.Balanced) (rests : (s.gate g).motion.rests) (d : Option Target) :
    (s.enterOutOfService g d).Balanced :=
  (h.setMotion_rests (m := .outOfService d) rests (.inr trivial)).setExcursion g false

theorem State.Balanced.makeHold (h : s.Balanced) (rests : (s.gate g).motion.rests) (r : HoldReason) (d : Option Target) :
    (s.makeHold g r d).Balanced :=
  (h.setMotion_rests (m := .hold { primary := r, further := [] } d) rests (.inr trivial)).post _

/-- A gate with a slot that a fault holds gives it back (R56, R74). -/
theorem State.Balanced.halted (h : s.Balanced) (holds : (s.gate g).motion.holdsSlot = true) (r : HoldReason)
    (d : Option Target) : ((s.haltGate g).makeHold g r d).releaseSlot.Balanced := by
  have halt := s.sameBooks_haltGate (g := g) g
  have books : State.SameBooks g s.releaseSlot ((s.haltGate g).makeHold g r d).releaseSlot := by
    refine ⟨fun k ne => ?_, ?_, ?_, ?_⟩
    · show (((s.haltGate g).makeHold g r d).gate k).motion = (s.gate k).motion
      rw [State.makeHold, State.postHeld_gate, State.setMotion_gate_ne _ _ ne, State.haltGate_gate]
    · show ((s.haltGate g).makeHold g r d).waiting = s.waiting
      rw [← halt.waiting]
      simp [State.makeHold, State.postHeld]
    · show ((s.haltGate g).makeHold g r d).slotsInUse - 1 = s.slotsInUse - 1
      rw [← halt.slots]
      simp [State.makeHold, State.postHeld]
    · show ((s.haltGate g).makeHold g r d).settings.slots = s.settings.slots
      rw [← halt.limit]
      simp [State.makeHold, State.postHeld]
  refine ((h.releaseSlot holds).same books).rest (.inr ?_)
  show (((s.haltGate g).makeHold g r d).gate g).motion.stands
  rw [State.makeHold, State.postHeld_gate, State.setMotion_gate_self]
  trivial

theorem State.Balanced.fault (h : s.Balanced) (g : GateId) (r : HoldReason) : (s.fault g r).Balanced := by
  unfold State.fault
  split
  · exact h
  · next idle => exact h.makeHold (.inl idle) r none
  · next pending =>
    refine (((h.leaveList (g := g) (by rw [pending]; rfl) _).rest (.inr ?_)).post _)
    rw [State.leaveList_gate, State.setMotion_gate_self]
    trivial
  · next e => exact h.halted (by rw [e]; rfl) r _
  · next e => exact h.halted (by rw [e]; rfl) r _
  · next e => exact h.halted (by rw [e]; rfl) r _
  · next e => exact h.setMotion_rests (.inr (by rw [e]; trivial)) (.inr trivial)

theorem State.Balanced.faultIf (h : s.Balanced) (g : GateId) (c : Prop) [Decidable c] (r : HoldReason) :
    (if c then s.fault g r else s).Balanced := by
  split
  · exact h.fault g r
  · exact h

theorem State.Balanced.faultIfStale (h : s.Balanced) (g : GateId) : (s.faultIfStale g).Balanced :=
  (h.faultIf g _ .stale).faultIf g _ .stale

theorem State.Balanced.weighPosted (h : s.Balanced) (g : GateId) (r : Request) : (s.weighPosted g r).Balanced :=
  h.of_same (by simp [State.weighPosted]) (by simp [State.weighPosted]) (by simp [State.weighPosted])
    (by simp [State.weighPosted])

/-- A moving gate keeps its slot through a re-target check (R66 to R68). -/
theorem State.retargetMoving_holdsSlot (s : State) (g : GateId) (r : Request) (l : Leg) (window : Option Nat) :
    ((s.retargetMoving g r l window).gate g).motion.holdsSlot = true := by
  have moving (q : Request) (k : Leg) : (movingWith q k window).holdsSlot = true := by cases window <;> rfl
  have goes (q : Request) (p : Plan) (t : State) : ((t.goOn g q l window p).gate g).motion.holdsSlot = true := by
    unfold State.goOn
    simp only
    split <;> rw [State.setMotion_gate_self] <;> rfl
  rw [State.retargetMoving_eq]
  split
  · rw [State.enterStopping, State.setMotion_gate_self]; rfl
  · rw [State.enterStopping, State.setMotion_gate_self]; rfl
  · rw [State.setMotion_gate_self]; exact moving _ _
  · split
    · split
      · rw [State.setMotion_gate_self]; exact moving _ _
      · exact goes _ _ _
    · rw [State.enterStopping, State.setMotion_gate_self]; rfl

/-- A gate with a request keeps its slot through a re-target check, and the state its balance. -/
theorem State.Balanced.retargetMoving (h : s.Balanced) {q : Request} (holds : (s.gate g).motion.holdsSlot = true)
    (asks : (s.gate g).motion.request = some q) (r : Request) (l : Leg) (window : Option Nat) :
    (s.retargetMoving g r l window).Balanced := by
  have settings := (s.reach_retargetMoving g r l window fun _ none => by rw [asks] at none; cases none).settings
  have after := s.retargetMoving_holdsSlot g r l window
  exact h.same ((s.actsOn_retargetMoving g r l window).sameBooks settings)
    (by rw [Motion.not_isPending_of_holdsSlot after, Motion.not_isPending_of_holdsSlot holds]) (by rw [after, holds])

theorem State.Balanced.retarget (h : s.Balanced) (g : GateId) : (s.retarget g).Balanced := by
  unfold State.retarget
  split
  · next e => exact h.retargetMoving (by rw [e]; rfl) (by rw [e]; rfl) _ _ _
  · next e => exact h.retargetMoving (by rw [e]; rfl) (by rw [e]; rfl) _ _ _
  · exact h

theorem State.Balanced.ceilingCheck (h : s.Balanced) (g : GateId) : (s.ceilingCheck g).Balanced := by
  unfold State.ceilingCheck
  split
  · exact h.excursionCheck g
  · exact h.retarget g
  · exact h.retarget g
  · exact h

/-! #### Ends of legs -/

/-- A gate left out that enters IDLE, with what is posted and checked there (R65, R71, R72). -/
theorem State.BalancedBut.idle (h : State.BalancedBut g s) : (s.setMotion g .idle).Balanced :=
  (h.same ((State.actsOn_setMotion s .idle).sameBooks (by simp))).rest (.inl (by rw [State.setMotion_gate_self]))

theorem State.BalancedBut.enterIdle (h : State.BalancedBut g s) : (s.enterIdle g).Balanced := h.idle.excursionCheck g

theorem State.BalancedBut.arrive (h : State.BalancedBut g s) : (s.arrive g).Balanced :=
  (h.idle.postArrived g).excursionCheck g

theorem State.BalancedBut.weighed (h : State.BalancedBut g s) (k : GateId) (r : Request) :
    State.BalancedBut g (s.weigh k r).2.2 := by
  obtain e | ⟨n, e⟩ := s.weigh_state k r <;> rw [e]
  · exact h
  · exact h.same (s.sameBooks_post n)

theorem State.Balanced.weigh (h : s.Balanced) (k : GateId) (r : Request) : (s.weigh k r).2.2.Balanced := by
  obtain e | ⟨n, e⟩ := s.weigh_state k r <;> rw [e]
  · exact h
  · exact h.post n

theorem State.Balanced.legComplete (h : s.Balanced) (holds : (s.gate g).motion.holdsSlot = true) (r : Request) :
    (s.legComplete g r).Balanced := by
  have released := (h.releaseSlot holds).weighed g r
  unfold State.legComplete
  simp only
  split
  · exact released.arrive
  · exact released.joinTail _

theorem State.sameBooks_startLeg (s : State) (g : GateId) (r : Request) (p : Plan) (stamp : Nat) :
    State.SameBooks g s (s.startLeg g r p stamp) := by
  obtain ⟨waiting, count, -⟩ := s.startLeg_frame g r p stamp
  refine ⟨fun k ne => by rw [State.startLeg_gate, if_neg ne], waiting, count, ?_⟩
  rw [State.startLeg, State.setMotion_settings, State.runGate_frame]

theorem State.Balanced.startLeg (h : s.Balanced) (holds : (s.gate g).motion.holdsSlot = true) (r : Request) (p : Plan)
    (stamp : Nat) : (s.startLeg g r p stamp).Balanced := by
  have starts : ((s.startLeg g r p stamp).gate g).motion.holdsSlot = true := by
    rw [State.startLeg_gate, if_pos rfl]; rfl
  exact h.same (s.sameBooks_startLeg g r p stamp)
    (by rw [Motion.not_isPending_of_holdsSlot starts, Motion.not_isPending_of_holdsSlot holds]) (starts.trans holds.symm)

theorem State.Balanced.stoppingEnd (h : s.Balanced) (holds : (s.gate g).motion.holdsSlot = true) (next : NextStep)
    (l : Leg) : (s.stoppingEnd g next l).Balanced := by
  have released := h.releaseSlot holds
  unfold State.stoppingEnd
  split
  · exact released.enterIdle
  · rename_i r
    have weighed := h.weigh g r
    have still : ((s.weigh g r).2.2.gate g).motion.holdsSlot = true := by rw [State.weigh_gate, holds]
    simp only
    split
    · exact (weighed.startLeg still _ _ _).owe
    · exact (weighed.releaseSlot still).arrive
    · exact (weighed.releaseSlot still).joinHead _
  · exact released.joinHead _
  · exact (released.same ((State.actsOn_setMotion _ _).sameBooks (by simp)) |>.rest
      (.inr (by rw [State.setMotion_gate_self]; trivial))).setExcursion g false

/-! #### Requests, stops and holds -/

theorem State.Balanced.takeIntoIdle (h : s.Balanced) (rests : (s.gate g).motion.rests) (target level : Nat) (o : Origin) :
    (s.takeIntoIdle g target level o).Balanced := by
  unfold State.takeIntoIdle
  split
  · split
    · exact h.post _
    · exact (h.but rests).joinTail _
  · exact (h.but rests).joinTail _

theorem State.Balanced.applyTarget (h : s.Balanced) (g : GateId) (target level : Nat) (o : Origin) :
    (s.applyTarget g target level o).Balanced := by
  unfold State.applyTarget
  simp only
  split <;> rename_i e
  · exact h.setMotion (by rw [e]; rfl) (by rw [e]; rfl)
  · exact h.takeIntoIdle (.inl e) _ _ _
  · exact (h.setMotion (by rw [e]; rfl) (by rw [e]; rfl)).owe
  · exact h.retargetMoving (by rw [e]; rfl) (by rw [e]; rfl) _ _ _
  · exact h.retargetMoving (by rw [e]; rfl) (by rw [e]; rfl) _ _ _
  all_goals exact h.setMotion (by rw [e]; rfl) (by rw [e]; rfl)

theorem State.Balanced.command (h : s.Balanced) (g : GateId) (target level : Nat) (o : Origin) :
    (s.command g target level o).Balanced := by
  unfold State.command
  simp only
  split
  · exact (h.post _).applyTarget g _ _ _
  · exact h.applyTarget g _ _ _

/-- A PENDING gate whose request is discarded (R61, R98). -/
theorem State.Balanced.discard (h : s.Balanced) {r : Request} (pending : (s.gate g).motion = .pending r) :
    (s.leaveList g .idle).Balanced :=
  (h.leaveList (by rw [pending]; rfl) .idle).rest (.inl (by rw [State.leaveList_gate, State.setMotion_gate_self]))

theorem State.Balanced.stopGate (h : s.Balanced) (g : GateId) : (s.stopGate g).Balanced := by
  unfold State.stopGate
  split <;> rename_i e
  · exact h.setMotion (by rw [e]; rfl) (by rw [e]; rfl)
  · exact h
  · exact (h.discard e).excursionCheck g
  · exact h.enterStopping (by rw [e]; rfl) _ _
  · exact h.enterStopping (by rw [e]; rfl) _ _
  all_goals exact h.setMotion (by rw [e]; rfl) (by rw [e]; rfl)

theorem State.Balanced.quellGate (h : s.Balanced) (g : GateId) : (s.quellGate g).Balanced := by
  unfold State.quellGate
  split
  · next e => exact h.discard e
  · next e => exact h.enterStopping (by rw [e]; rfl) _ _
  · next e => exact h.enterStopping (by rw [e]; rfl) _ _
  · next e => exact h.setMotion (by rw [e]; rfl) (by rw [e]; rfl)
  · next e => exact h.setMotion (by rw [e]; rfl) (by rw [e]; rfl)
  · exact h

theorem State.Balanced.leaveHold (h : s.Balanced) (rests : (s.gate g).motion.rests) (d : Option Target) (by_ : ClearedBy) :
    (s.leaveHold g d by_).Balanced := by
  have posted := h.post (.holdCleared g by_)
  have still : ((s.post (.holdCleared g by_)).gate g).motion.rests := by rwa [State.post_gate]
  have idle := posted.setMotion_rests (m := .idle) still (.inl rfl)
  unfold State.leaveHold
  simp only
  split
  · refine State.Balanced.excursionCheck ?_ g
    unfold State.useDeferred
    split
    · exact idle
    · split
      · exact idle
      · exact idle.takeIntoIdle (.inl (by rw [State.setMotion_gate_self])) _ _ _
  · exact posted.enterOutOfService still d

theorem State.Balanced.staleClearing (h : s.Balanced) (g : GateId) : (s.staleClearing g).Balanced := by
  unfold State.staleClearing
  split
  · rename_i x d e
    have rests : (s.gate g).motion.rests := .inr (by rw [e]; trivial)
    have held (y : Hold) : (s.setMotion g (.hold y d)).Balanced := h.setMotion_rests rests (.inr trivial)
    split
    · simp only
      split
      · split
        · exact (held _).post _
        · exact h.leaveHold rests d .auto
      · exact held _
    · exact h
  · exact h

end

/-! ### The Arbiter -/

section
variable {s : State} {g : GateId}

theorem State.Balanced.markMasked (h : s.Balanced) : s.markMasked.Balanced := by
  refine h.sweep _ fun t g k => ?_
  unfold State.markOne
  split
  · next e => exact k.setMotion (by rw [e]; rfl) (by rw [e]; rfl)
  · exact k

theorem Motion.restamped_isPending (m : Motion) (f : Nat → Nat) : (m.restamped f).isPending = m.isPending := by
  cases m <;> rfl

theorem Motion.restamped_holdsSlot (m : Motion) (f : Nat → Nat) : (m.restamped f).holdsSlot = m.holdsSlot := by
  cases m <;> rfl

theorem State.Balanced.grants (h : s.Balanced) (n : Nat) : { s with grantCounter := n }.Balanced :=
  h.of_same (fun _ => rfl) rfl rfl rfl

theorem State.Balanced.readyCounter (h : s.Balanced) : s.readyCounter.Balanced := by
  unfold State.readyCounter
  split
  · exact h
  · rw [State.renumber_eq]
    refine State.Balanced.grants ?_ _
    unfold State.restampAll
    exact h.sweep allGates fun t g k => k.setMotion (Motion.restamped_isPending _ _) (Motion.restamped_holdsSlot _ _)

theorem State.grants_slotsInUse (s : State) (n : Nat) : { s with grantCounter := n }.slotsInUse = s.slotsInUse := rfl

theorem State.readyCounter_slotsInUse (s : State) : s.readyCounter.slotsInUse = s.slotsInUse := by
  have stamped (f : Nat → Nat) (gs : List GateId) (t : State) :
      (gs.foldl (fun t h => t.setMotion h ((t.gate h).motion.restamped f)) t).slotsInUse = t.slotsInUse := by
    induction gs generalizing t with
    | nil => rfl
    | cons g gs ih => exact (ih _).trans (State.setMotion_slotsInUse _ _ _)
  unfold State.readyCounter
  split
  · rfl
  · rw [State.renumber_eq, State.grants_slotsInUse, State.restampAll, State.sweep, stamped]

/-- A PENDING gate is granted a slot while one is free (R85, R90). -/
theorem State.Balanced.grant (h : s.Balanced) {r : Request} (pending : (s.gate g).motion = .pending r)
    (room : s.slotsInUse < s.settings.slots) (q : Request) (p : Plan) : (s.grant g q p).Balanced := by
  have granted : s.grant g q p =
      ((s.readyCounter.counted g).startLeg g q p (s.readyCounter.grantCounter + 1)).faultIfStale g := rfl
  have ready := State.readyCounter_pending pending
  have left := h.readyCounter.leaveList (g := g) (by rw [ready]; rfl) .idle
  have free : (s.readyCounter.leaveList g .idle).slotsInUse < (s.readyCounter.leaveList g .idle).settings.slots := by
    rwa [State.leaveList_slotsInUse, State.leaveList_settings, s.readyCounter_slotsInUse, s.reach_readyCounter.settings]
  have counted : State.SameBooks g
      { s.readyCounter.leaveList g .idle with slotsInUse := (s.readyCounter.leaveList g .idle).slotsInUse + 1 }
      (s.readyCounter.counted g) := by
    refine ⟨fun k ne => ?_, rfl, by rw [State.leaveList_slotsInUse]; rfl, by rw [State.leaveList_settings]; rfl⟩
    show (s.readyCounter.gate k).motion = ((s.readyCounter.leaveList g .idle).gate k).motion
    rw [State.leaveList_gate, State.setMotion_gate_ne _ _ ne]
  have starts : (((s.readyCounter.counted g).startLeg g q p (s.readyCounter.grantCounter + 1)).gate g).motion.holdsSlot =
      true := by rw [State.startLeg_gate, if_pos rfl]; rfl
  rw [granted]
  exact (left.takeSlot free (counted.trans (State.sameBooks_startLeg _ g q p _)) starts).faultIfStale g

theorem State.Balanced.completePending (h : s.Balanced) {r : Request} (pending : (s.gate g).motion = .pending r) :
    (s.completePending g).Balanced := ((h.discard pending).postArrived g).excursionCheck g

theorem State.Balanced.weighInWalk (h : s.Balanced) (room : s.slotsInUse < s.settings.slots) (g : GateId) :
    (s.weighInWalk g).Balanced := by
  by_cases pending : ∃ r, (s.gate g).motion = .pending r
  · obtain ⟨r, pending⟩ := pending
    have posted := h.weighPosted g r
    have still : ((s.weighPosted g r).gate g).motion = .pending r := by
      rw [State.weighPosted, State.postSome_gate, pending]
    rw [State.weighInWalk_eq pending]
    split
    · exact posted.grant still (by simpa [State.weighPosted] using room) _ _
    · exact posted.completePending still
    · exact posted.setMotion (by rw [still]; rfl) (by rw [still]; rfl)
  · unfold State.weighInWalk
    split
    · exact absurd ⟨_, ‹_›⟩ pending
    · exact h

theorem State.Balanced.walk (h : s.Balanced) (gs : List GateId) : (s.walk gs).1.Balanced := by
  induction gs generalizing s with
  | nil => exact h
  | cons g gs ih =>
    unfold State.walk
    split
    · next free => exact ih (h.weighInWalk (by simpa [State.slotFree] using free) g)
    · exact h

theorem State.Balanced.weighForPreemption (h : s.Balanced) (g : GateId) : (s.weighForPreemption g).1.Balanced := by
  by_cases pending : ∃ r, (s.gate g).motion = .pending r
  · obtain ⟨r, pending⟩ := pending
    have posted := h.weighPosted g r
    have still : ((s.weighPosted g r).gate g).motion = .pending r := by
      rw [State.weighPosted, State.postSome_gate, pending]
    rw [State.weighForPreemption_eq pending]
    split
    · exact posted.completePending still
    · exact posted.setMotion (by rw [still]; rfl) (by rw [still]; rfl)
  · rw [State.weighForPreemption_of_not fun r e => pending ⟨r, e⟩]
    exact h

theorem State.Balanced.movable (h : s.Balanced) (gs : List GateId) : (s.movable gs).1.Balanced := by
  induction gs generalizing s with
  | nil => exact h
  | cons g gs ih => exact ih (h.weighForPreemption g)

/-- A victim keeps its slot until it rests (R56, R92). -/
theorem State.Balanced.preempt (h : s.Balanced) (v b : GateId) : (s.preempt v b).Balanced := by
  unfold State.preempt
  simp only
  refine State.Balanced.post ?_ _
  split
  · next e => exact h.enterStopping (by rw [e]; rfl) _ _
  · next e => exact h.enterStopping (by rw [e]; rfl) _ _
  · exact h

theorem State.Balanced.preemptFor (h : s.Balanced) (bs : List GateId) : (s.preemptFor bs).Balanced := by
  induction bs generalizing s with
  | nil => exact h
  | cons b bs ih =>
    unfold State.preemptFor
    split
    · exact h
    · exact ih (h.preempt _ b)

theorem State.Balanced.evaluate (h : s.Balanced) : s.evaluate.Balanced := by
  have marked : s.paid.markMasked.Balanced := h.paid.markMasked
  have walked := marked.walk s.paid.markMasked.walkOrder
  unfold State.evaluate
  simp only
  split
  · exact marked
  · split
    · exact walked
    · exact (walked.movable _).preemptFor _

theorem State.Balanced.evaluateDue (h : s.Balanced) (n : Nat) : (State.evaluateDue n s).Balanced := by
  induction n generalizing s with
  | zero => exact h.paid
  | succ n ih =>
    unfold State.evaluateDue
    split
    · exact ih h.evaluate
    · exact h

theorem State.Balanced.settle (h : s.Balanced) : s.settle.Balanced := h.evaluateDue _

theorem State.Balanced.evaluateNow (h : s.Balanced) : s.evaluateNow.Balanced := h.owe.settle

theorem State.Balanced.checkExcursionOf (h : s.Balanced) (g : GateId) : (s.checkExcursionOf g).Balanced :=
  (h.excursionCheck g).settle

theorem State.Balanced.quell (h : s.Balanced) : s.quell.Balanced :=
  (h.sweep _ fun _ g k => k.quellGate g).sweep _ fun _ g k => k.checkExcursionOf g

theorem State.Balanced.tellNeighbours (h : s.Balanced) (g : GateId) : (s.tellNeighbours g).Balanced :=
  h.sweep _ fun _ g k => k.retarget g

theorem State.Balanced.openingChanged (h : s.Balanced) (g : GateId) : (s.openingChanged g).Balanced := by
  have told := (h.excursionCheck g).tellNeighbours g
  unfold State.openingChanged
  simp only
  split
  · exact told.owe.settle
  · exact told.settle

end

end Sys2Proof.Machine

/-! ## The stop of all motion by STOP_N and by station silence (R98, R103) -/

namespace Sys2Proof.Machine

/-! ### A sweep and the gates of its list -/

section
variable {s t : State} {g h : GateId} {act : State → GateId → State}

/-- A sweep of acts that each touch their own gate alone leaves every gate outside its list. -/
theorem State.sweep_gate_unlisted (own : ∀ (t : State) h k, k ≠ h → (act t h).gate k = t.gate k) {gs : List GateId}
    (unlisted : g ∉ gs) (s : State) : (s.sweep gs act).gate g = s.gate g := by
  unfold State.sweep
  induction gs generalizing s with
  | nil => rfl
  | cons h gs ih =>
    obtain ⟨apart, unlisted⟩ := List.ne_and_not_mem_of_not_mem_cons unlisted
    exact (ih unlisted (act s h)).trans (own s h g apart)

/-- A sweep meets a gate that is listed once between the gates before it and those after it. -/
theorem State.sweep_split {gs : List GateId} (nodup : gs.Nodup) (listed : g ∈ gs) (act : State → GateId → State)
    (s : State) : ∃ before after, g ∉ before ∧ g ∉ after ∧
      s.sweep gs act = (act (s.sweep before act) g).sweep after act := by
  obtain ⟨before, after, rfl⟩ := List.append_of_mem listed
  have apart := (List.nodup_middle.mp nodup).notMem
  simp only [List.mem_append, not_or] at apart
  exact ⟨before, after, apart.1, apart.2, List.foldl_append⟩

/-! ### One gate -/

/-- What STOP_N assertion and station silence make of a motion state, with the halt window that a stop starts (R98). -/
def Motion.quelled (window : Nat) : Motion → Motion
  | .pending _ => .idle
  | .starting _ l _ => .stopping .idle { l with acks := .empty, paused := none } window
  | .travelling _ l => .stopping .idle { l with acks := .empty, paused := none } window
  | .stopping (.restartLeg _) l w => .stopping .idle l w
  | .stopping (.requeue _) l w => .stopping .idle l w
  | other => other

theorem Motion.quelled_request (m : Motion) (window : Nat) : (m.quelled window).request = none := by
  cases m with
  | stopping n => cases n <;> rfl
  | _ => rfl

theorem Motion.isPending_eq_false_of_request {m : Motion} (quiet : m.request = none) : m.isPending = false := by
  cases m with
  | pending => cases quiet
  | _ => rfl

/-- The window that a stop of the gate starts (R69). -/
def State.haltWindow (s : State) (g : GateId) : Nat := 4 * (s.record g).sampleWindow

theorem State.Reach.haltWindow (reach : s.Reach t) (g : GateId) : t.haltWindow g = s.haltWindow g := by
  rw [State.haltWindow, reach.record g, State.haltWindow]

theorem State.quellGate_motion (s : State) (g : GateId) :
    ((s.quellGate g).gate g).motion = (s.gate g).motion.quelled (s.haltWindow g) := by
  unfold State.quellGate
  split
  next r e => rw [e, s.leaveList_idle g]; rfl
  next r l w e => rw [e, (s.stopped_enterStopping g .idle l).motion]; rfl
  next r l e => rw [e, (s.stopped_enterStopping g .idle l).motion]; rfl
  next r l w e => rw [e, State.setMotion_gate_self]; rfl
  next r l w e => rw [e, State.setMotion_gate_self]; rfl
  next waits starts travels restarts requeues =>
    cases e : (s.gate g).motion with
    | pending r => exact absurd e (waits r)
    | starting r l w => exact absurd e (starts r l w)
    | travelling r l => exact absurd e (travels r l)
    | stopping n l w =>
      cases n with
      | restartLeg r => exact absurd e (restarts r l w)
      | requeue r => exact absurd e (requeues r l w)
      | _ => rfl
    | _ => rfl

theorem State.quellGate_gate_ne (s : State) (g k : GateId) (other : k ≠ g) : (s.quellGate g).gate k = s.gate k := by
  unfold State.quellGate
  split
  · rw [State.leaveList_gate, State.setMotion_gate_ne _ _ other]
  · exact s.enterStopping_gate_ne _ _ other
  · exact s.enterStopping_gate_ne _ _ other
  · exact s.setMotion_gate_ne _ other
  · exact s.setMotion_gate_ne _ other
  · rfl

theorem State.quellGate_slotsInUse (s : State) (g : GateId) : (s.quellGate g).slotsInUse = s.slotsInUse := by
  unfold State.quellGate
  split
  · exact s.leaveList_slotsInUse g _
  · exact (s.actsOn_enterStopping _ _).slots
  · exact (s.actsOn_enterStopping _ _).slots
  · exact s.setMotion_slotsInUse g _
  · exact s.setMotion_slotsInUse g _
  · rfl

/-- The gate runs a leg under way (R59). -/
def Motion.Moves (m : Motion) : Prop := ∃ r l, (∃ w, m = .starting r l w) ∨ m = .travelling r l

theorem State.quellGate_halts (moves : (s.gate g).motion.Moves) : (s.quellGate g).Halts g := by
  obtain ⟨r, l, ⟨w, e⟩ | e⟩ := moves
  all_goals
    have quelled : s.quellGate g = s.enterStopping g .idle l := by simp only [State.quellGate, e]
    rw [quelled]
    exact s.halts_enterStopping g l

/-! ### All gates -/

/-- Every gate quelled, before any excursion check. -/
def State.quelled (s : State) : State := s.sweep allGates State.quellGate

theorem State.reach_quelled (s : State) : s.Reach s.quelled := s.reach_sweep _ _ State.reach_quellGate

theorem State.quelled_motion (s : State) (g : GateId) :
    (s.quelled.gate g).motion = (s.gate g).motion.quelled (s.haltWindow g) := by
  obtain ⟨before, after, first, last, split⟩ := State.sweep_split allGates_nodup (mem_allGates g) State.quellGate s
  have untouched := State.sweep_gate_unlisted State.quellGate_gate_ne first s
  have window := (s.reach_sweep before _ State.reach_quellGate).haltWindow g
  rw [State.quelled, split, State.sweep_gate_unlisted State.quellGate_gate_ne last, State.quellGate_motion, untouched, window]

theorem State.quelled_request (s : State) (g : GateId) : (s.quelled.gate g).motion.request = none := by
  rw [s.quelled_motion, Motion.quelled_request]

theorem State.quelled_slotsInUse (s : State) : s.quelled.slotsInUse = s.slotsInUse := by
  unfold State.quelled State.sweep
  generalize allGates = gs
  induction gs generalizing s with
  | nil => rfl
  | cons g gs ih => exact (ih (s.quellGate g)).trans (s.quellGate_slotsInUse g)

theorem State.quelled_halts (moves : (s.gate g).motion.Moves) : s.quelled.Halts g := by
  obtain ⟨before, after, first, last, split⟩ := State.sweep_split allGates_nodup (mem_allGates g) State.quellGate s
  have untouched := State.sweep_gate_unlisted State.quellGate_gate_ne first s
  have halted : ((s.sweep before State.quellGate).quellGate g).Halts g :=
    State.quellGate_halts (by rw [untouched]; exact moves)
  rw [State.quelled, split]
  exact (State.turns_of_same (State.reach_sweep _ after _ State.reach_quellGate)
    (State.sweep_gate_unlisted State.quellGate_gate_ne last _)).halts halted

/-- Where list and motion states agree, nothing waits any longer. -/
theorem State.Balanced.quelled_waiting (h : s.Balanced) : s.quelled.waiting = [] := by
  have balanced : s.quelled.Balanced := h.sweep allGates fun t g k => k.quellGate g
  refine List.eq_nil_iff_forall_not_mem.mpr fun g listed => ?_
  have waits := (balanced.listed g).mp listed
  rw [Motion.isPending_eq_false_of_request (s.quelled_request g)] at waits
  cases waits

/-! ### The excursion checks after it -/

/-- The gates whose request is discarded as PENDING, which enter IDLE (R98). -/
def State.entering (s : State) : List GateId := allGates.filter fun g => (s.gate g).motion.isPending

theorem State.mem_entering : g ∈ s.entering ↔ (s.gate g).motion.isPending = true := by
  simp [State.entering, mem_allGates]

theorem State.quell_eq (s : State) : s.quell = s.quelled.sweep s.entering State.checkExcursionOf := rfl

theorem State.turns_checkExcursionOf (s : State) (other : g ≠ h) : State.Turns g s (s.checkExcursionOf h) :=
  (State.turns_of_same (s.reach_excursionCheck h) (s.excursionCheck_gate_ne other)).trans (State.turns_settle _ g)

theorem State.turns_checks {gs : List GateId} (unlisted : g ∉ gs) (s : State) :
    State.Turns g s (s.sweep gs State.checkExcursionOf) := by
  unfold State.sweep
  induction gs generalizing s with
  | nil => exact .refl s
  | cons h gs ih =>
    obtain ⟨apart, unlisted⟩ := List.ne_and_not_mem_of_not_mem_cons unlisted
    exact (s.turns_checkExcursionOf apart).trans (ih unlisted _)

/-- For a gate that did not wait, the checks of the others are evaluations at most (R88, R98). -/
theorem State.turns_quell (s : State) (stays : (s.gate g).motion.isPending = false) : State.Turns g s.quelled s.quell := by
  rw [State.quell_eq]
  exact State.turns_checks (fun listed => by rw [State.mem_entering, stays] at listed; cases listed) _

/-- An IDLE gate that follows no ceiling is IDLE still after the checks (R72, R73). -/
theorem State.checks_idle {gs : List GateId} (nodup : gs.Nodup) (idle : (s.gate g).motion = .idle) (quiet : ¬ s.Follows g) :
    ((s.sweep gs State.checkExcursionOf).gate g).motion = .idle := by
  have kept {t u : State} (turns : State.Turns g t u) (e : (t.gate g).motion = .idle) : (u.gate g).motion = .idle := by
    rw [turns.resting (.inl e), e]
  by_cases listed : g ∈ gs
  · obtain ⟨before, after, first, last, split⟩ := State.sweep_split nodup listed State.checkExcursionOf s
    have led := State.turns_checks first s
    rw [split]
    refine kept (State.turns_checks last _) (kept (State.turns_settle _ g) ?_)
    exact State.excursionCheck_idle (kept led idle) fun follows => quiet (led.reach.follows.mp follows)
  · exact kept (State.turns_checks listed s) idle

theorem Motion.Moves.not_isPending {m : Motion} (moves : m.Moves) : m.isPending = false := by
  obtain ⟨r, l, ⟨w, e⟩ | e⟩ := moves <;> rw [e] <;> rfl

/-- A gate that moved stops toward IDLE, with a HALT for each of its hoists (R69, R98). -/
theorem State.quell_halts (moves : (s.gate g).motion.Moves) : s.quell.Halts g :=
  (s.turns_quell moves.not_isPending).halts (State.quelled_halts moves)

theorem State.quell_idle {r : Request} (pending : (s.gate g).motion = .pending r) (quiet : ¬ s.Follows g) :
    (s.quell.gate g).motion = .idle := by
  rw [State.quell_eq]
  refine State.checks_idle (allGates_nodup.filter _) ?_ fun follows => quiet (s.reach_quelled.follows.mp follows)
  rw [s.quelled_motion, pending]
  rfl

/-! ### While STOP_N is asserted -/

/-- Nothing waits and every motion state is as it was, with the count of slots, while STOP_N is asserted (R99). -/
structure State.Halted (s t : State) : Prop where
  asserted : t.stopAsserted = true
  empty : t.waiting = []
  slots : t.slotsInUse = s.slotsInUse
  motion : ∀ k, (t.gate k).motion = (s.gate k).motion

/-- With nothing waiting the evaluations owed only clear their mark. -/
theorem State.evaluateDue_of_waiting_nil (n : Nat) (empty : s.waiting = []) :
    ∃ owed, State.evaluateDue n s = { s with evalDue := owed } := by
  induction n generalizing s with
  | zero => exact ⟨false, rfl⟩
  | succ n ih =>
    unfold State.evaluateDue
    split
    · rw [State.evaluate_of_waiting_nil empty]
      obtain ⟨owed, e⟩ := ih (s := { s with evalDue := false }) empty
      exact ⟨owed, e⟩
    · exact ⟨s.evalDue, rfl⟩

theorem State.Halted.settle (h : State.Halted s t) : State.Halted s t.settle := by
  obtain ⟨owed, settled⟩ := State.evaluateDue_of_waiting_nil Config.evaluationRounds h.empty
  rw [State.settle, settled]
  exact ⟨h.asserted, h.empty, h.slots, h.motion⟩

theorem State.Halted.excursionCheck (h : State.Halted s t) (g : GateId) : State.Halted s (t.excursionCheck g) := by
  have quiet : ¬ t.Follows g := fun ⟨_, free, _⟩ => by rw [h.asserted] at free; cases free
  by_cases idle : (t.gate g).motion = .idle
  · obtain ⟨-, waiting, slots, -⟩ := State.excursionCheck_calm idle quiet
    refine ⟨(t.reach_excursionCheck g).stopAsserted.trans h.asserted, waiting.trans h.empty, slots.trans h.slots, fun k => ?_⟩
    by_cases own : k = g
    · subst own
      rw [State.excursionCheck_idle idle quiet, ← h.motion, idle]
    · rw [t.excursionCheck_gate_ne own, h.motion]
  · rwa [State.excursionCheck_of_not_idle idle]

/-- While STOP_N is asserted an entry to IDLE asks for nothing, so the checks change no motion state (R73, R99). -/
theorem State.Halted.checks (h : State.Halted s t) (gs : List GateId) :
    State.Halted s (t.sweep gs State.checkExcursionOf) := by
  unfold State.sweep
  induction gs generalizing t with
  | nil => exact h
  | cons g gs ih => exact ih (h.excursionCheck g).settle

theorem State.Balanced.quell_halted (h : s.Balanced) (asserted : s.stopAsserted = true) :
    State.Halted s.quelled s.quell := by
  rw [State.quell_eq]
  exact State.Halted.checks ⟨s.reach_quelled.stopAsserted.trans asserted, h.quelled_waiting, rfl, fun _ => rfl⟩ _

end

/-! ### O23 -/

section
variable {s : State}

/-- STOP_N newly asserted (R97). -/
def State.stopTaken (s : State) : State := { s with stopPinLow := true, stopFilter := 0, stopAsserted := true }

/-- STOP_N newly released (R97). -/
def State.stopLifted (s : State) : State := { s with stopPinLow := false, stopFilter := 0, stopAsserted := false }

/-- The state in which STOP_N assertion stops all motion (R98). -/
def State.stopPosted (s : State) : State := s.stopTaken.post (.stopInput true)

theorem State.assertStop_eq (free : s.stopAsserted = false) : s.assertStop = s.stopPosted.quell :=
  if_neg (by rw [show State.stopAsserted _ = s.stopAsserted from rfl, free]; decide)

theorem State.stopPosted_gate (s : State) (g : GateId) : s.stopPosted.gate g = s.gate g := s.stopTaken.post_gate _ g

theorem State.stopPosted_record (s : State) (g : GateId) : s.stopPosted.record g = s.record g :=
  congrArg Gate.record (s.stopPosted_gate g)

theorem State.stopPosted_slotsInUse (s : State) : s.stopPosted.slotsInUse = s.slotsInUse := s.stopTaken.post_slotsInUse _

theorem State.stopPosted_stopAsserted (s : State) : s.stopPosted.stopAsserted = true := s.stopTaken.post_stopAsserted _

theorem State.stopPosted_stopPinLow (s : State) : s.stopPosted.stopPinLow = true := s.stopTaken.post_stopPinLow _

theorem State.stopPosted_notices (room : s.notices.length < 16) :
    s.stopPosted.notices = s.notices ++ [{ notice := .stopInput true, stamp := s.tideClock }] := by
  rw [State.stopPosted, State.post_of_room s.stopTaken _ room]
  rfl

theorem State.SlotsCounted.balanced (h : s.SlotsCounted) : s.Balanced := ⟨h.once, h.pendingGates, h.count, h.withinK⟩

theorem State.SlotsCounted.stopPosted (h : s.SlotsCounted) : s.stopPosted.Balanced :=
  State.Balanced.post (h.balanced.of_same (t := s.stopTaken) (fun _ => rfl) rfl rfl rfl) _

/-- With nothing waiting the evaluation that a rule calls for finds nothing to do (R88). -/
theorem State.evaluateNow_of_waiting_nil (empty : s.waiting = []) (paid : s.evalDue = false) : s.evaluateNow = s := by
  have evaluated : s.owe.evaluate = { s.owe with evalDue := false } := State.evaluate_of_waiting_nil (s := s.owe) empty
  rw [State.evaluateNow, State.settle_of_evaluate (s := s.owe) rfl (by rw [evaluated]), evaluated]
  exact congrArg (fun d => { s with evalDue := d }) paid.symm

/-- STOP_N released with nothing waiting (R100). -/
theorem State.releaseStop_eq (asserted : s.stopAsserted = true) (empty : s.waiting = []) (paid : s.evalDue = false)
    (room : s.notices.length < 16) : s.releaseStop =
      { s.stopLifted with notices := s.notices ++ [{ notice := .stopInput false, stamp := s.tideClock }] } := by
  have result : s.releaseStop = (s.stopLifted.post (.stopInput false)).evaluateNow := if_pos asserted
  rw [result, State.post_of_room s.stopLifted _ room]
  exact State.evaluateNow_of_waiting_nil empty paid

end

/-- Settles O23, from what the stop makes of each motion state and what its excursion checks leave while STOP_N is asserted. -/
theorem stopInputStopsAllMotion : Obligations.StopInputStopsAllMotion := by
  unfold Obligations.StopInputStopsAllMotion
  refine ⟨fun s counted free => ⟨s.stopPosted.quell, congrArg _ (State.assertStop_eq free), ?_⟩,
    fun s asserted empty paid room => congrArg _ (State.releaseStop_eq asserted empty paid room)⟩
  have halted := counted.stopPosted.quell_halted s.stopPosted_stopAsserted
  have reach := s.stopPosted.reach_quell
  refine ⟨halted.asserted, ?_, halted.empty, ?_, fun room => ?_, fun g => ⟨?_, ?_⟩⟩
  · rw [reach.frame]
    exact s.stopPosted_stopPinLow
  · rw [halted.slots, State.quelled_slotsInUse, State.stopPosted_slotsInUse]
  · rw [← State.stopPosted_notices room]
    exact reach.notices_prefix
  · rw [halted.motion, State.quelled_motion, State.haltWindow, State.stopPosted_gate, State.stopPosted_record]
    rfl
  · rintro ⟨r, l, moves⟩ side a names
    have runs : (s.stopPosted.gate g).motion.Moves := ⟨r, l, by rw [State.stopPosted_gate]; exact moves⟩
    have record := (reach.record g).trans (s.stopPosted_record g)
    exact (State.quell_halts runs).2 side a (record ▸ names)

end Sys2Proof.Machine

/-! ## Station silence (R103) -/

namespace Sys2Proof.Machine

section
variable {s : State} {g : GateId}

theorem exec_silenceExpiry (s : State) : exec .silenceExpiry s = .next s.silenceEnds := rfl

/-- The silence timer has run out (R103). -/
def State.silent (s : State) : State := { s with silence := .waiting }

/-- The number of requests that the silence of the station discards (R103). -/
def State.discarded (s : State) : Nat := (allGates.filter fun g => (s.gate g).motion.request.isSome).length

/-- The state in which station silence stops all motion (R103). -/
def State.silencePosted (s : State) : State := s.silent.post (.silenceStop s.discarded)

theorem State.silenceEnds_eq (expired : s.silence = .running 0) : s.silenceEnds = s.silencePosted.quell := by
  simp only [State.silenceEnds, expired]
  rfl

theorem State.silenceEnds_of_running (runs : s.silence ≠ .running 0) : s.silenceEnds = s := by
  unfold State.silenceEnds
  split
  next expired => exact absurd expired runs
  next => rfl

theorem State.silencePosted_gate (s : State) (g : GateId) : s.silencePosted.gate g = s.gate g := s.silent.post_gate _ g

theorem State.silencePosted_record (s : State) (g : GateId) : s.silencePosted.record g = s.record g :=
  congrArg Gate.record (s.silencePosted_gate g)

theorem State.silencePosted_silence (s : State) : s.silencePosted.silence = .waiting := s.silent.post_silence _

theorem State.silencePosted_stopAsserted (s : State) : s.silencePosted.stopAsserted = s.stopAsserted :=
  s.silent.post_stopAsserted _

theorem State.silencePosted_notices (room : s.notices.length < 16) :
    s.silencePosted.notices = s.notices ++ [{ notice := .silenceStop s.discarded, stamp := s.tideClock }] := by
  rw [State.silencePosted, State.post_of_room s.silent _ room]
  rfl

theorem Motion.rests_of_idle_parts {m : Motion} (leg : m.leg = none) (request : m.request = none) : m.rests := by
  cases m with
  | idle => exact .inl rfl
  | pending => cases request
  | starting | travelling | stopping => cases leg
  | hold h d => exact .inr (show Motion.stands (.hold h d) from trivial)
  | outOfService d => exact .inr (show Motion.stands (.outOfService d) from trivial)

theorem Motion.quelled_of_rests {m : Motion} (rests : m.rests) (window : Nat) : m.quelled window = m := by
  obtain rfl | stands := rests
  · rfl
  · cases m with
    | hold | outOfService => rfl
    | _ => exact stands.elim

/-- What the stop of all motion leaves of a gate that stopped already (R98). -/
theorem State.quell_stopping {n next : NextStep} {l : Leg} {w : Nat} (stopping : (s.gate g).motion = .stopping n l w)
    (led : ∀ window, (Motion.stopping n l w).quelled window = .stopping next l w) :
    ∃ l', (s.quell.gate g).motion = .stopping next l' w :=
  (s.turns_quell (by rw [stopping]; rfl)).stopping next l w (by rw [s.quelled_motion, stopping, led])

theorem State.quell_rests (rests : (s.gate g).motion.rests) : (s.quell.gate g).motion = (s.gate g).motion := by
  have still : (s.quelled.gate g).motion = (s.gate g).motion :=
    (s.quelled_motion g).trans (Motion.quelled_of_rests rests _)
  have turns := s.turns_quell ((Motion.rests_iff _).mp rests).1
  rw [turns.resting (by rw [still]; exact rests), still]

end

/-- Settles O60, from what the stop of all motion makes of each motion state, its checks and evaluations included. -/
theorem silenceStopsAllMotion : Obligations.SilenceStopsAllMotion := by
  unfold Obligations.SilenceStopsAllMotion
  refine fun s => ⟨fun expired => ⟨s.silencePosted.quell, ?_, ?_⟩, fun runs => ?_⟩
  · rw [exec_silenceExpiry, State.silenceEnds_eq expired]
  rotate_left
  · rw [exec_silenceExpiry, State.silenceEnds_of_running runs]
  have reach := s.silencePosted.reach_quell
  have gate (g : GateId) := s.silencePosted_gate g
  refine ⟨?_, reach.stopAsserted.trans s.silencePosted_stopAsserted, fun room => ?_, fun g => ⟨?_, ?_, ?_, ?_, ?_⟩⟩
  · rw [reach.frame]
    exact s.silencePosted_silence
  · have kept := reach.notices_prefix
    rwa [State.silencePosted_notices room] at kept
  · intro r l w moves
    have moves : (s.silencePosted.gate g).motion.Moves := ⟨r, l, by rw [gate]; exact moves.imp_left fun e => ⟨w, e⟩⟩
    obtain ⟨stops, halted⟩ := State.quell_halts moves
    have record := (reach.record g).trans (s.silencePosted_record g)
    exact ⟨stops, fun side a names => halted side a (record ▸ names)⟩
  · intro n l w stopping asks
    refine State.quell_stopping (n := n) (l := l) ((congrArg Gate.motion (gate g)).trans stopping) fun _ => ?_
    cases n with
    | idle | outOfService => exact absurd rfl asks
    | restartLeg | requeue => rfl
  · intro n l w stopping quiet
    refine State.quell_stopping (n := n) (l := l) ((congrArg Gate.motion (gate g)).trans stopping) fun _ => ?_
    cases n with
    | idle | outOfService => rfl
    | restartLeg | requeue => cases quiet
  · intro r pending fixed
    refine State.quell_idle ((congrArg Gate.motion (gate g)).trans pending) fun ⟨tracks, _⟩ => ?_
    rw [s.silencePosted_record, fixed] at tracks
    cases tracks
  · intro leg request
    have rests := Motion.rests_of_idle_parts leg request
    rw [← gate] at rests ⊢
    exact State.quell_rests rests

end Sys2Proof.Machine

/-! ## Inputs, clock, receivers, buffers and queues

The fields that chapters 5, 7 and 8 call inputs, buffers and queues, named one by one (`Lane`), and for every command the
lanes that it moves (`moves`). What O7 speaks of, the books of the Arbiter, is a lane too. -/

namespace Sys2Proof.Machine

/-- The motion states, the pending list, the count of slots and the settings: what the pending list and the slots are
counted by (R85, R86). -/
def State.books (s : State) : (GateId → Motion) × List GateId × Nat × Settings :=
  (fun g => (s.gate g).motion, s.waiting, s.slotsInUse, s.settings)

/-- The pin, its filter and the state of STOP_N (R97). -/
def State.stopInput (s : State) : Bool × Bool × Nat := (s.stopAsserted, s.stopPinLow, s.stopFilter)

/-- A part of the state that certain commands alone move. -/
inductive Lane where
  | pending
  | rate
  | stopInput
  | clock
  | receiver (port : Port)
  | buffer (port : Port)
  | spTx
  | fpTx
  | silence
  | replies
  | upQueue
  | downQueue
  | capture
  | books

/-- A lane is the same in two states. -/
def Lane.same (s t : State) : Lane → Prop
  | .pending => t.pending = s.pending
  | .rate => t.rate = s.rate
  | .stopInput => t.stopInput = s.stopInput
  | .clock => t.tideClock = s.tideClock
  | .receiver port => t.receiver port = s.receiver port
  | .buffer port => t.buffer port = s.buffer port
  | .spTx => t.spTx = s.spTx
  | .fpTx => t.fpTx = s.fpTx
  | .silence => t.silence = s.silence
  | .replies => t.replies = s.replies
  | .upQueue => t.upQueue = s.upQueue
  | .downQueue => t.downQueue = s.downQueue
  | .capture => t.capture = s.capture
  | .books => t.books = s.books

/-- From `s` to `t` no lane outside `moved` has moved. -/
def State.Moves (s : State) (moved : Set Lane) (t : State) : Prop := ∀ p, p ∉ moved → p.same s t

/-! ### Chains of changes -/

theorem Lane.same_rfl (s : State) (p : Lane) : p.same s s := by cases p <;> rfl

theorem Lane.same_trans {s t u : State} {p : Lane} (h : p.same s t) (k : p.same t u) : p.same s u := by
  cases p <;> exact Eq.trans k h

theorem State.Moves.refl (s : State) (P : Set Lane) : s.Moves P s := fun p _ => p.same_rfl s

theorem State.Moves.trans {s t u : State} {P : Set Lane} (h : s.Moves P t) (k : t.Moves P u) : s.Moves P u :=
  fun p out => Lane.same_trans (h p out) (k p out)

theorem State.Moves.mono {s t : State} {P Q : Set Lane} (h : s.Moves P t) (sub : P ⊆ Q) : s.Moves Q t :=
  fun p out => h p fun within => out (sub within)

/-- `t` with every lane as `s` has it. -/
def State.lanesOf (t s : State) : State :=
  { t with
    pending := s.pending, rate := s.rate, stopAsserted := s.stopAsserted, stopPinLow := s.stopPinLow
    stopFilter := s.stopFilter, tideClock := s.tideClock, spReceiver := s.spReceiver, fpReceiver := s.fpReceiver
    spRx := s.spRx, fpRx := s.fpRx, spTx := s.spTx, fpTx := s.fpTx, silence := s.silence, replies := s.replies
    upQueue := s.upQueue, downQueue := s.downQueue, capture := s.capture, gates := s.gates, waiting := s.waiting
    slotsInUse := s.slotsInUse, settings := s.settings }

/-- A change of other fields moves no lane. -/
theorem State.moves_of_lanesOf {s t : State} (P : Set Lane) (h : t = t.lanesOf s) : s.Moves P t := by
  intro p _
  rw [h]
  cases p <;> rfl

/-- What the Sequencer and the Arbiter do moves their books alone. -/
theorem State.Reach.moves {s t : State} (h : s.Reach t) {P : Set Lane} (books : .books ∈ P) : s.Moves P t := by
  intro p out
  cases p with
  | books => exact absurd books out
  | _ => rw [h.frame]; rfl

/-- What is the same apart from motion moves no lane but the books. -/
theorem State.moves_of_still {s t : State} (h : t.still = s.still) {P : Set Lane} (books : .books ∈ P) : s.Moves P t := by
  intro p out
  have read (u : State) : p.same u u.still ∧ p.same u.still u := by
    cases p with
    | books => exact absurd books out
    | _ => exact ⟨rfl, rfl⟩
  have before : p.same s t.still := h ▸ (read s).1
  exact Lane.same_trans before (read t).2

/-! ### Queues, counters, replies and notices -/

section
variable (s : State) {P : Set Lane}

theorem State.moves_gates (gates : Vector Gate 12) (h : .books ∈ P) : s.Moves P { s with gates := gates } := by
  intro p out
  cases p with
  | books => exact absurd h out
  | _ => rfl

theorem State.moves_silence (x : Silence) (h : .silence ∈ P) : s.Moves P { s with silence := x } := by
  intro p out
  cases p with
  | silence => exact absurd h out
  | _ => rfl

theorem State.moves_stopInput (asserted low : Bool) (filter : Nat) (h : .stopInput ∈ P) :
    s.Moves P { s with stopPinLow := low, stopFilter := filter, stopAsserted := asserted } := by
  intro p out
  cases p with
  | stopInput => exact absurd h out
  | _ => rfl

theorem State.moves_capture (x : Option Capture) (h : .capture ∈ P) : s.Moves P { s with capture := x } := by
  intro p out
  cases p with
  | capture => exact absurd h out
  | _ => rfl

theorem State.moves_clock (x : ClockWord) (h : .clock ∈ P) : s.Moves P { s with tideClock := x } := by
  intro p out
  cases p with
  | clock => exact absurd h out
  | _ => rfl

theorem State.moves_upQueue (fs : List Frame) (h : .upQueue ∈ P) : s.Moves P { s with upQueue := fs } := by
  intro p out
  cases p with
  | upQueue => exact absurd h out
  | _ => rfl

theorem State.moves_downQueue (fs : List Frame) (h : .downQueue ∈ P) : s.Moves P { s with downQueue := fs } := by
  intro p out
  cases p with
  | downQueue => exact absurd h out
  | _ => rfl

theorem State.moves_replies (rs : List Reply) (h : .replies ∈ P) : s.Moves P { s with replies := rs } := by
  intro p out
  cases p with
  | replies => exact absurd h out
  | _ => rfl

theorem State.moves_setReceiver (port : Port) (cs : List RxChar) (h : .receiver port ∈ P) :
    s.Moves P (s.setReceiver port cs) := by
  intro p out
  cases p with
  | receiver q =>
    by_cases same : q = port
    · exact absurd (same ▸ h) out
    · cases port <;> cases q <;> simp_all [Lane.same, State.setReceiver, State.receiver]
  | _ => cases port <;> rfl

theorem State.moves_setBuffer (port : Port) (fs : List RxFrame) (h : .buffer port ∈ P) :
    s.Moves P (s.setBuffer port fs) := by
  intro p out
  cases p with
  | buffer q =>
    by_cases same : q = port
    · exact absurd (same ▸ h) out
    · cases port <;> cases q <;> simp_all [Lane.same, State.setBuffer, State.buffer]
  | _ => cases port <;> rfl

theorem State.moves_count (P : Set Lane) (port : Port) (n : CounterName) : s.Moves P (s.count port n) := by
  cases port <;> exact State.moves_of_lanesOf P rfl

theorem State.moves_post (P : Set Lane) (n : Notice) : s.Moves P (s.post n) := by
  unfold State.post
  split <;> exact State.moves_of_lanesOf P rfl

theorem State.moves_reply (k : Byte) (r : Result) (d : Nat) (l : List Byte) (h : .replies ∈ P) :
    s.Moves P (s.reply k r d l) := s.moves_replies _ h

theorem State.moves_writeReply (p : List Byte) (r : Result) (d : Nat) (gen : CountWord) (h : .replies ∈ P) :
    s.Moves P (s.writeReply p r d gen) := s.moves_replies _ h

theorem State.moves_writeNoRecord (p : List Byte) (h : .replies ∈ P) : s.Moves P (s.writeNoRecord p) :=
  s.moves_replies _ h

theorem State.moves_joinDown (f : Frame) (h : .downQueue ∈ P) : s.Moves P (s.joinDown f) := by
  unfold State.joinDown
  split
  · exact (s.moves_downQueue _ h).trans (State.moves_count _ _ _ _)
  · exact s.moves_count _ _ _

theorem State.moves_joinUp (f : Frame) (h : .upQueue ∈ P) : s.Moves P (s.joinUp f) := by
  unfold State.joinUp
  split
  · exact (s.moves_upQueue _ h).trans (State.moves_count _ _ _ _)
  · exact s.moves_count _ _ _

theorem State.moves_misroute (port : Port) (f : RxFrame) (h : .capture ∈ P) : s.Moves P (s.misroute port f) := by
  have counted := s.moves_count P port .misroutes
  unfold State.misroute
  simp only
  split
  · exact counted
  · exact counted.trans ((State.moves_capture _ _ h).trans (State.moves_post _ _ _))

/-! ### The Level Unit -/

theorem State.moves_levels (P : Set Lane) (up down : BankState) (head : Option Head) (mode : Mode) :
    s.Moves P { s with upstream := up, downstream := down, head := head, mode := mode } := State.moves_of_lanesOf P rfl

theorem State.moves_newHead (head : Option Head) (h : .books ∈ P) : s.Moves P (s.newHead head) :=
  (s.moves_levels P s.upstream s.downstream head (modeAfter s.settings s.mode head)).trans
    (State.moves_of_still (s.newHead_still head) h)

theorem State.moves_relevel (bs : List Bank) (h : .books ∈ P) : s.Moves P (s.relevel bs) :=
  (s.moves_levels P _ _ _ _).trans (State.moves_of_still (s.relevel_still bs) h)

theorem State.moves_relevelFor (old new : Settings) (h : .books ∈ P) : s.Moves P (s.relevelFor old new) :=
  (s.moves_levels P _ _ _ _).trans (State.moves_of_still (s.relevelFor_still old new) h)

theorem State.moves_setGauge (P : Set Lane) (n : GaugeId) (x : Gauge) : s.Moves P (s.setGauge n x) :=
  State.moves_of_lanesOf P rfl

theorem State.moves_takeLevel (n : GaugeId) (p : List Byte) (h : .books ∈ P) : s.Moves P (s.takeLevel n p) := by
  unfold State.takeLevel
  split
  · split
    · exact (s.moves_setGauge P _ _).trans (State.moves_relevel _ _ h)
    · exact .refl _ _
  · exact .refl _ _

theorem State.moves_gaugeGoesStale (n : GaugeId) (h : .books ∈ P) : s.Moves P (s.gaugeGoesStale n) := by
  unfold State.gaugeGoesStale
  split
  · exact s.moves_relevel _ h
  · exact .refl _ _

/-! ### The hoist exchange and the motion requests -/

theorem State.moves_takePosition (g : GateId) (side : Side) (p : List Byte) (stamp : ClockWord) (h : .books ∈ P) :
    s.Moves P (s.takePosition g side p stamp) := by
  unfold State.takePosition
  split
  · exact .refl _ _
  · rename_i x _
    have stored : s.Moves P (s.storeSample g side x stamp) := s.moves_gates _ h
    have checked := stored.trans ((State.reach_sampleChecks _ g side x.state).moves h)
    simp only
    split
    · exact stored
    · split
      · exact checked
      · exact checked.trans ((State.reach_openingChanged _ g).moves h)

theorem State.moves_takeMove (p : List Byte) (books : .books ∈ P) (replies : .replies ∈ P) : s.Moves P (s.takeMove p) := by
  unfold State.takeMove
  split
  · exact s.moves_reply _ _ _ _ replies
  · unfold State.moveGate
    simp only
    split
    · exact s.moves_reply _ _ _ _ replies
    · split
      · exact s.moves_reply _ _ _ _ replies
      · rename_i free _ _
        exact (((s.reach_command _ _ _ _ (by simpa using free)).trans (State.reach_settle _)).moves books).trans
          (State.moves_reply _ _ _ _ _ replies)

theorem State.moves_takeStop (p : List Byte) (books : .books ∈ P) (replies : .replies ∈ P) : s.Moves P (s.takeStop p) := by
  unfold State.takeStop
  split
  · exact s.moves_reply _ _ _ _ replies
  · exact (((s.reach_stopGate _).trans (State.reach_settle _)).moves books).trans (State.moves_reply _ _ _ _ _ replies)

theorem State.moves_takeGroupSet (p : List Byte) (books : .books ∈ P) (replies : .replies ∈ P) :
    s.Moves P (s.takeGroupSet p) := by
  unfold State.takeGroupSet
  simp only
  split
  · exact s.moves_reply _ _ _ _ replies
  · rename_i free
    exact (((s.reach_groupSet _ _ _ (by simpa using free)).trans (State.reach_settle _)).moves books).trans
      (State.moves_reply _ _ _ _ _ replies)

theorem State.moves_takeGroupStop (p : List Byte) (books : .books ∈ P) (replies : .replies ∈ P) :
    s.Moves P (s.takeGroupStop p) :=
  ((s.reach_sweep _ _ fun t g => (t.reach_stopGate g).trans (State.reach_settle _)).moves books).trans
    (State.moves_reply _ _ _ _ _ replies)

theorem State.moves_takeClearHold (p : List Byte) (books : .books ∈ P) (replies : .replies ∈ P) :
    s.Moves P (s.takeClearHold p) := by
  unfold State.takeClearHold
  split
  · exact s.moves_reply _ _ _ _ replies
  · unfold State.clearHold
    split
    · split
      · exact s.moves_reply _ _ _ _ replies
      · exact (((s.reach_leaveHold _ _ _).trans (State.reach_settle _)).moves books).trans
          (State.moves_reply _ _ _ _ _ replies)
    · exact s.moves_reply _ _ _ _ replies

theorem State.moves_assertStop (stop : .stopInput ∈ P) (books : .books ∈ P) : s.Moves P s.assertStop := by
  unfold State.assertStop
  simp only
  split
  · exact s.moves_stopInput _ _ _ stop
  · exact (s.moves_stopInput true true 0 stop).trans
      ((State.moves_post _ P _).trans ((State.reach_quell _).moves books))

theorem State.moves_releaseStop (stop : .stopInput ∈ P) (books : .books ∈ P) : s.Moves P s.releaseStop := by
  unfold State.releaseStop
  simp only
  split
  · exact (s.moves_stopInput false false 0 stop).trans
      ((State.moves_post _ P _).trans ((State.reach_evaluateNow _).moves books))
  · exact s.moves_stopInput _ _ _ stop

theorem State.moves_silenceEnds (silence : .silence ∈ P) (books : .books ∈ P) : s.Moves P s.silenceEnds := by
  unfold State.silenceEnds
  split
  · exact (s.moves_silence .waiting silence).trans
      ((State.moves_post _ P _).trans ((State.reach_quell _).moves books))
  · exact .refl _ _

end

end Sys2Proof.Machine

namespace Sys2Proof.Machine

section
variable (s : State) {P : Set Lane}

/-! ### The Management Unit -/

theorem State.moves_setRoute (P : Set Lane) (a : LinkAddr) (x : RouteEntry) : s.Moves P (s.setRoute a x) :=
  State.moves_of_lanesOf P rfl

theorem State.moves_rebind (P : Set Lane) (old new : Option LinkAddr) (role : Role) (b : Binding) :
    s.Moves P (s.rebind old new role b) := by
  unfold State.rebind
  split
  · exact .refl _ _
  · cases old <;> cases new
    · exact .refl _ _
    · exact s.moves_setRoute P _ _
    · exact s.moves_setRoute P _ _
    · exact (s.moves_setRoute P _ _).trans (State.moves_setRoute _ P _ _)

theorem State.moves_setGate (g : GateId) (x : Gate) (h : .books ∈ P) : s.Moves P (s.setGate g x) := s.moves_gates _ h

theorem State.moves_rebindHoist (g : GateId) (side : Side) (old new : Option LinkAddr) (h : .books ∈ P) :
    s.Moves P (s.rebindHoist g side old new) := by
  unfold State.rebindHoist
  split
  · exact .refl _ _
  · exact (s.moves_rebind P _ _ _ _).trans (State.moves_setGate _ _ _ h)

theorem State.moves_retravel (g : GateId) (old new : GateRecord) (h : .books ∈ P) : s.Moves P (s.retravel g old new) := by
  have corrected : s.Moves P (if old.travelChanged new then s.setGate g (s.gate g).recorrected else s) := by
    split
    · exact s.moves_setGate _ _ h
    · exact .refl _ _
  unfold State.retravel
  simp only
  split
  · exact corrected.trans (State.moves_setGate _ _ _ h)
  · exact corrected

theorem State.moves_writeGate (g : GateId) (new : GateRecord) (h : .books ∈ P) : s.Moves P (s.writeGate g new) := by
  have recorded : s.Moves P (s.recorded g new) :=
    ((s.moves_setGate g _ h).trans (State.moves_rebindHoist _ _ _ _ _ h)).trans (State.moves_rebindHoist _ _ _ _ _ h)
  have reserved := (recorded.trans (State.moves_retravel _ _ _ _ h)).trans ((s.reach_reserved g new).moves h)
  exact (reserved.trans (State.moves_setGate _ _ _ h)).trans ((s.reach_writeGate g new).moves h)

theorem State.moves_takeWriteGate (p : List Byte) (books : .books ∈ P) (replies : .replies ∈ P) :
    s.Moves P (s.takeWriteGate p) := by
  unfold State.takeWriteGate
  split
  · exact s.moves_writeNoRecord _ replies
  · split
    · exact s.moves_writeReply _ _ _ _ replies
    · exact (s.moves_writeGate _ _ books).trans (State.moves_writeReply _ _ _ _ _ replies)

theorem State.moves_writeCurve (c : Fin 4) (points : List Breakpoint) (h : .books ∈ P) :
    s.Moves P (s.writeCurve c points) := by
  have replaced : s.Moves P (s.withCurve c points) := State.moves_of_lanesOf P rfl
  exact replaced.trans (State.moves_of_still (s.writeCurve_still c points) h)

theorem State.moves_staging (P : Set Lane) (x : Option Staging) : s.Moves P { s with staging := x } :=
  State.moves_of_lanesOf P rfl

theorem State.moves_takeWriteFirstPart (p : List Byte) (books : .books ∈ P) (replies : .replies ∈ P) :
    s.Moves P (s.takeWriteFirstPart p) := by
  unfold State.takeWriteFirstPart
  split
  · exact s.moves_writeNoRecord _ replies
  · split
    · exact s.moves_writeReply _ _ _ _ replies
    · split
      · exact (s.moves_writeCurve _ _ books).trans (State.moves_writeReply _ _ _ _ _ replies)
      · exact (s.moves_staging P _).trans (State.moves_writeReply _ _ _ _ _ replies)

theorem State.moves_takeWriteSecondPart (p : List Byte) (books : .books ∈ P) (replies : .replies ∈ P) :
    s.Moves P (s.takeWriteSecondPart p) := by
  have emptied := s.moves_staging P none
  unfold State.takeWriteSecondPart
  split
  · exact s.moves_writeNoRecord _ replies
  · split
    · exact s.moves_writeReply _ _ _ _ replies
    · split
      · exact emptied.trans (State.moves_writeReply _ _ _ _ _ replies)
      · exact (emptied.trans (State.moves_writeCurve _ _ _ books)).trans (State.moves_writeReply _ _ _ _ _ replies)

theorem State.moves_writeGauge (n : GaugeId) (new : GaugeRecord) (h : .books ∈ P) : s.Moves P (s.writeGauge n new) :=
  ((s.moves_rebind P _ _ _ _).trans (State.moves_setGauge _ P _ _)).trans (State.moves_relevel _ _ h)

theorem State.moves_takeWriteGauge (p : List Byte) (books : .books ∈ P) (replies : .replies ∈ P) :
    s.Moves P (s.takeWriteGauge p) := by
  unfold State.takeWriteGauge
  split
  · exact s.moves_writeNoRecord _ replies
  · split
    · exact s.moves_writeReply _ _ _ _ replies
    · exact (s.moves_writeGauge _ _ books).trans (State.moves_writeReply _ _ _ _ _ replies)

theorem State.moves_takeWriteRoute (p : List Byte) (replies : .replies ∈ P) : s.Moves P (s.takeWriteRoute p) := by
  unfold State.takeWriteRoute
  split
  · exact s.moves_writeNoRecord _ replies
  · split
    · exact s.moves_writeReply _ _ _ _ replies
    · exact (s.moves_setRoute P _ _).trans (State.moves_writeReply _ _ _ _ _ replies)

theorem State.moves_writeSettings (new : Settings) (silence : .silence ∈ P) (books : .books ∈ P) :
    s.Moves P (s.writeSettings new) := by
  have store (x : Silence) : s.Moves P { s with settings := new, settingsGen := s.settingsGen + 1, silence := x } := by
    intro p out
    cases p with
    | silence => exact absurd silence out
    | books => exact absurd books out
    | _ => rfl
  have levelled := (store (if s.settings.silenceWindow = new.silenceWindow then s.silence
    else silenceFor new.silenceWindow)).trans (State.moves_relevelFor _ s.settings new books)
  unfold State.writeSettings
  simp only
  split
  · exact levelled
  · exact levelled.trans ((State.reach_evaluateNow _).moves books)

theorem State.moves_takeWriteSettings (p : List Byte) (silence : .silence ∈ P) (books : .books ∈ P)
    (replies : .replies ∈ P) : s.Moves P (s.takeWriteSettings p) := by
  unfold State.takeWriteSettings
  split
  · split
    · exact s.moves_writeReply _ _ _ _ replies
    · exact (s.moves_writeSettings _ silence books).trans (State.moves_writeReply _ _ _ _ _ replies)
  · exact s.moves_writeNoRecord _ replies

theorem State.moves_takeRead (p : List Byte) (h : .replies ∈ P) : s.Moves P (s.takeRead p) := by
  unfold State.takeRead
  split <;> exact s.moves_reply _ _ _ _ h

theorem State.moves_takeStatus (p : List Byte) (h : .replies ∈ P) : s.Moves P (s.takeStatus p) := by
  unfold State.takeStatus
  split
  · split <;> exact s.moves_reply _ _ _ _ h
  · exact s.moves_reply _ _ _ _ h

theorem State.moves_takeSnapshot (p : List Byte) (h : .replies ∈ P) : s.Moves P (s.takeSnapshot p) := by
  have cleared : s.Moves P (if byteAt p 0 = 0 then s else { s with spCounters := .zero, fpCounters := .zero }) := by
    split
    · exact .refl _ _
    · exact State.moves_of_lanesOf P rfl
  exact cleared.trans (State.moves_reply _ _ _ _ _ h)

/-! ### The Frame Sorter and the receivers -/

/-- What taking the oldest SP frame and answering it moves (R133, R141). -/
@[simp] def Lane.request : Set Lane := {.buffer .sp, .replies}

theorem State.moves_takeStation (row : StationRow) (handle : State → RxFrame → State) (buffer : .buffer .sp ∈ P)
    (h : ∀ (t : State) f, t.Moves P (handle t f)) : s.Moves P (s.takeStation row handle) := by
  unfold State.takeStation
  split
  · exact .refl _ _
  · rename_i f rest _
    split
    · exact (s.moves_setBuffer .sp rest buffer).trans (h _ f)
    · exact .refl _ _

theorem State.moves_refuseDirect (f : Frame) (r : Result) (g : GateId) (side : Side) (h : .replies ∈ P) :
    s.Moves P (s.refuseDirect f r g side) := (s.moves_count P _ _).trans (State.moves_reply _ _ _ _ _ h)

theorem State.moves_sortDirect (f : Frame) (g : GateId) (side : Side) (down : .downQueue ∈ P) (replies : .replies ∈ P) :
    s.Moves P (s.sortDirect f g side) := by
  unfold State.sortDirect
  split
  · exact s.moves_joinDown _ down
  · split
    · split
      · exact s.moves_refuseDirect _ _ _ _ replies
      · exact s.moves_joinDown _ down
    · exact s.moves_refuseDirect _ _ _ _ replies

theorem State.moves_sortStation (f : RxFrame) (down : .downQueue ∈ P) (replies : .replies ∈ P)
    (capture : .capture ∈ P) : s.Moves P (s.sortStation f) := by
  have unfit : s.Moves P (s.sortUnfit f.frame) := by
    unfold State.sortUnfit
    split <;> exact s.moves_reply _ _ _ _ replies
  unfold State.sortStation
  simp only
  split
  · exact s.moves_misroute _ _ capture
  · split
    · exact unfit
    · exact s.moves_sortDirect _ _ _ down replies
    · exact s.moves_joinDown _ down
    · split
      · exact s.moves_joinDown _ down
      · exact s.moves_count P _ _
    · exact s.moves_misroute _ _ capture

theorem State.moves_passReport (e : RouteEntry) (f : Frame) (h : .upQueue ∈ P) : s.Moves P (s.passReport e f) := by
  unfold State.passReport
  split
  · split
    · exact s.moves_joinUp _ h
    · exact .refl _ _
  · exact .refl _ _

theorem State.moves_takeReport (owner : FieldRow → Option (State → RxFrame → State)) (buffer : .buffer .fp ∈ P)
    (up : .upQueue ∈ P) (h : ∀ row act, owner row = some act → ∀ (t : State) f, t.Moves P (act t f)) :
    s.Moves P (s.takeReport owner) := by
  unfold State.takeReport
  split
  · exact .refl _ _
  · rename_i f rest _
    split
    · rename_i act e
      exact (s.moves_setBuffer .fp rest buffer).trans ((h _ _ e _ f).trans (State.moves_passReport _ _ _ up))
    · exact .refl _ _

theorem State.moves_passUnowned (e : RouteEntry) (f : Frame) (up : .upQueue ∈ P) : s.Moves P (s.passUnowned e f) := by
  unfold State.passUnowned
  split
  · exact s.moves_joinUp _ up
  · exact s.moves_count P _ _

theorem State.moves_sortField (f : RxFrame) (up : .upQueue ∈ P) (capture : .capture ∈ P) : s.Moves P (s.sortField f) := by
  have unowned (e : RouteEntry) := s.moves_passUnowned e f.frame up
  have astray := s.moves_misroute .fp f capture
  have owned (e : RouteEntry) : s.Moves P
      (if f.frame.dest = 0 then s.passUnowned e f.frame
        else if f.frame.dest = s.ownAddress then s.count .fp .routeDrops else s.misroute .fp f) := by
    split
    · exact unowned e
    · split
      · exact s.moves_count P _ _
      · exact astray
  unfold State.sortField
  simp only
  split
  · exact owned _
  · exact owned _
  · split
    · exact unowned _
    · exact astray
  · exact astray

theorem State.moves_takeUnowned (buffer : .buffer .fp ∈ P) (up : .upQueue ∈ P) (capture : .capture ∈ P) :
    s.Moves P s.takeUnowned := by
  unfold State.takeUnowned
  split
  · exact .refl _ _
  · rename_i f rest _
    split
    · exact (s.moves_setBuffer .fp rest buffer).trans (State.moves_sortField _ f up capture)
    · exact .refl _ _

/-- What the receiver of a port moves: what it holds, the receive buffer, and on SP the silence timer (R101, R132, R133). -/
def Lane.hearing (port : Port) : Set Lane :=
  {p | p = .receiver port ∨ p = .buffer port ∨ p = .silence ∧ port = .sp}

@[simp] theorem Lane.mem_hearing {port : Port} {p : Lane} :
    p ∈ Lane.hearing port ↔ p = .receiver port ∨ p = .buffer port ∨ p = .silence ∧ port = .sp := Iff.rfl

theorem State.moves_hear (port : Port) (h : Heard) : s.Moves (Lane.hearing port) (s.hear port h) := by
  cases h with
  | bad => exact s.moves_count _ _ _
  | good f =>
    have restarted (t : State) : t.Moves (Lane.hearing port) (t.hearStation port) := by
      cases port with
      | sp => exact t.moves_silence _ (by simp)
      | fp => exact .refl _ _
    have offered (t : State) : t.Moves (Lane.hearing port) (t.offer port f) := by
      unfold State.offer
      split
      · exact t.moves_setBuffer _ _ (by simp)
      · exact t.moves_count _ _ _
    exact ((s.moves_count _ _ _).trans (restarted _)).trans (offered _)

theorem State.moves_rescan (port : Port) (cs : List RxChar) : s.Moves (Lane.hearing port) (s.rescan port cs) := by
  have all (t : State) (hs : List Heard) : t.Moves (Lane.hearing port) (hs.foldl (fun s h => s.hear port h) t) := by
    induction hs generalizing t with
    | nil => exact .refl _ _
    | cons h hs ih => exact (t.moves_hear port h).trans (ih _)
  exact (s.moves_setReceiver port _ (by simp)).trans (all _ _)

theorem State.moves_abandon (port : Port) : s.Moves (Lane.hearing port) (s.abandon port) := by
  unfold State.abandon
  split
  · exact .refl _ _
  · exact (s.moves_hear port .bad).trans (State.moves_rescan _ _ _)

/-! ### Warm restart and transmitters -/

/-- What a RESTART moves beside its own frame and reply (R105, R127, R145, R174). -/
@[simp] def Lane.restart : Set Lane := {.upQueue, .downQueue, .capture, .silence, .books}

theorem State.moves_emptied : s.Moves Lane.restart s.emptied := by
  intro p out
  cases p with
  | upQueue | downQueue | capture | silence | books => exact absurd (by simp) out
  | _ => rfl

theorem State.moves_warmRestart : s.Moves Lane.restart s.warmRestart := by
  have books : .books ∈ Lane.restart := by simp
  have gates (t : State) (gs : List GateId) : t.Reach ((t.sweep gs State.haltGate).sweep allGates State.restartGate) :=
    (t.reach_sweep _ _ State.reach_haltGate).trans (State.reach_sweep _ _ _ State.reach_restartGate)
  have levelled (t : State) : t.Moves Lane.restart t.restartLevel :=
    (t.moves_levels _ _ _ _ _).trans (State.moves_newHead _ _ books)
  have ceilings (t : State) : t.Moves Lane.restart t.recomputeCeilings.1 :=
    State.moves_of_still t.recomputeCeilings_still books
  exact (((s.moves_emptied.trans ((gates _ _).moves books)).trans (levelled _)).trans (ceilings _)).trans
    ((State.reach_sweep _ _ _ State.reach_checkExcursionOf).moves books)

/-- What handing a frame to the SP transmitter moves (R140, R141). -/
@[simp] def Lane.stationLine : Set Lane := {.spTx, .replies, .upQueue}

theorem State.moves_transmitStation : s.Moves Lane.stationLine s.transmitStation := by
  unfold State.transmitStation
  split <;> intro p out <;> cases p with
  | spTx | replies | upQueue => exact absurd (by simp) out
  | _ => rfl

/-- What handing a frame to the FP transmitter moves (R107, R140). -/
@[simp] def Lane.fieldLine : Set Lane := {.fpTx, .downQueue}

theorem State.moves_transmitField : s.Moves Lane.fieldLine s.transmitField := by
  unfold State.transmitField
  split <;> intro p out <;> cases p with
  | fpTx | downQueue => exact absurd (by simp) out
  | _ => rfl

end

/-! ### Every command -/

/-- What a report that a block takes moves (R155, R156). -/
@[simp] def Lane.report : Set Lane := {.buffer .fp, .upQueue, .books}

/-- The lanes that a command can move. -/
@[simp] def moves : Instr → Set Lane
  | .coldReset _ _ _ => {.pending}ᶜ
  | .stopNAssertion => {.stopInput, .books}
  | .stopNRelease => {.stopInput, .books}
  | .frameCheck port _ => Lane.hearing port
  | .receiveGapAbandon port => Lane.hearing port
  | .candidateSync port => Lane.hearing port
  | .lengthOver48 port _ => Lane.hearing port
  | .stationFrameSort => {.downQueue, .capture} ∪ Lane.request
  | .fieldFrameSort => {.buffer .fp, .upQueue, .capture}
  | .position => Lane.report
  | .ack => Lane.report
  | .level => Lane.report
  | .groupInvalidAction => Lane.request
  | .tableRead => Lane.request
  | .tableWriteRoute => Lane.request
  | .statusRead => Lane.request
  | .counterSnapshot => Lane.request
  | .misrouteRead => {.capture} ∪ Lane.request
  | .timeSet => {.clock} ∪ Lane.request
  | .tableWriteSettings => {.silence, .books} ∪ Lane.request
  | .restart => Lane.restart ∪ Lane.request
  | .spTransmit => Lane.stationLine
  | .fpTransmit => Lane.fieldLine
  | .silenceExpiry => {.silence, .books}
  | .hoistStale _ _ => {.books}
  | .gaugeStale _ => {.books}
  | .ackWindowExpiry _ => {.books}
  | .deadlineExpiry _ => {.books}
  | .haltWindowExpiry _ => {.books}
  | _ => {.books} ∪ Lane.request

theorem State.moves_position (s : State) : s.Moves Lane.report (s.takeReport positionOwner) := by
  refine s.moves_takeReport _ (by simp) (by simp) fun row act h t f => ?_
  cases row <;> simp only [positionOwner, reduceCtorEq, Option.some.injEq] at h
  subst h
  exact t.moves_takePosition _ _ _ _ (by simp)

theorem State.moves_ack (s : State) : s.Moves Lane.report (s.takeReport ackOwner) := by
  refine s.moves_takeReport _ (by simp) (by simp) fun row act h t f => ?_
  cases row <;> simp only [ackOwner, reduceCtorEq, Option.some.injEq] at h
  subst h
  exact (t.reach_takeAck _ _ _).moves (by simp)

theorem State.moves_level (s : State) : s.Moves Lane.report (s.takeReport levelOwner) := by
  refine s.moves_takeReport _ (by simp) (by simp) fun row act h t f => ?_
  cases row <;> simp only [levelOwner, reduceCtorEq, Option.some.injEq] at h
  subst h
  exact t.moves_takeLevel _ _ (by simp)

/-- Every command leaves the lanes that it does not move. -/
theorem exec_moves (c : Instr) (s t : State) (h : exec c s = .next t) : s.Moves (moves c) t := by
  cases c with
  | coldReset a b d =>
    cases h
    intro p out
    obtain rfl : p = .pending := by simpa using out
    rfl
  | stopNAssertion => cases h; exact s.moves_assertStop (by simp) (by simp)
  | stopNRelease => cases h; exact s.moves_releaseStop (by simp) (by simp)
  | frameCheck port chars => cases h; exact s.moves_rescan _ _
  | receiveGapAbandon port => cases h; exact s.moves_abandon _
  | candidateSync port => cases h; exact s.moves_rescan _ _
  | lengthOver48 port len => cases h; exact s.moves_rescan _ _
  | stationFrameSort =>
    cases h
    exact s.moves_takeStation _ _ (by simp) fun t f => t.moves_sortStation _ (by simp) (by simp) (by simp)
  | fieldFrameSort => cases h; exact s.moves_takeUnowned (by simp) (by simp) (by simp)
  | position => cases h; exact s.moves_position
  | ack => cases h; exact s.moves_ack
  | level => cases h; exact s.moves_level
  | move => cases h; exact s.moves_takeStation _ _ (by simp) fun t f => t.moves_takeMove _ (by simp) (by simp)
  | stop => cases h; exact s.moves_takeStation _ _ (by simp) fun t f => t.moves_takeStop _ (by simp) (by simp)
  | groupSet => cases h; exact s.moves_takeStation _ _ (by simp) fun t f => t.moves_takeGroupSet _ (by simp) (by simp)
  | groupStop => cases h; exact s.moves_takeStation _ _ (by simp) fun t f => t.moves_takeGroupStop _ (by simp) (by simp)
  | groupInvalidAction => cases h; exact s.moves_takeStation _ _ (by simp) fun t f => t.moves_reply _ _ _ _ (by simp)
  | clearHold => cases h; exact s.moves_takeStation _ _ (by simp) fun t f => t.moves_takeClearHold _ (by simp) (by simp)
  | tableRead => cases h; exact s.moves_takeStation _ _ (by simp) fun t f => t.moves_takeRead _ (by simp)
  | tableWriteGate =>
    cases h
    exact s.moves_takeStation _ _ (by simp) fun t f => t.moves_takeWriteGate _ (by simp) (by simp)
  | tableWriteCurveFirstPart =>
    cases h
    exact s.moves_takeStation _ _ (by simp) fun t f => t.moves_takeWriteFirstPart _ (by simp) (by simp)
  | tableWriteCurveSecondPart =>
    cases h
    exact s.moves_takeStation _ _ (by simp) fun t f => t.moves_takeWriteSecondPart _ (by simp) (by simp)
  | tableWriteGauge =>
    cases h
    exact s.moves_takeStation _ _ (by simp) fun t f => t.moves_takeWriteGauge _ (by simp) (by simp)
  | tableWriteRoute => cases h; exact s.moves_takeStation _ _ (by simp) fun t f => t.moves_takeWriteRoute _ (by simp)
  | tableWriteSettings =>
    cases h
    exact s.moves_takeStation _ _ (by simp) fun t f => t.moves_takeWriteSettings _ (by simp) (by simp) (by simp)
  | statusRead => cases h; exact s.moves_takeStation _ _ (by simp) fun t f => t.moves_takeStatus _ (by simp)
  | counterSnapshot => cases h; exact s.moves_takeStation _ _ (by simp) fun t f => t.moves_takeSnapshot _ (by simp)
  | misrouteRead =>
    cases h
    exact s.moves_takeStation _ _ (by simp) fun t f =>
      (t.moves_capture none (by simp)).trans (State.moves_reply _ _ _ _ _ (by simp))
  | timeSet =>
    cases h
    exact s.moves_takeStation _ _ (by simp) fun t f =>
      (t.moves_clock _ (by simp)).trans (State.moves_reply _ _ _ _ _ (by simp))
  | restart =>
    cases h
    exact s.moves_takeStation _ _ (by simp) fun t f =>
      (t.moves_warmRestart.mono Set.subset_union_left).trans (State.moves_reply _ _ _ _ _ (by simp))
  | spTransmit => cases h; exact s.moves_transmitStation
  | fpTransmit => cases h; exact s.moves_transmitField
  | hoistStale g side => cases h; exact (s.reach_hoistGoesStale _ _).moves (by simp)
  | gaugeStale n => cases h; exact s.moves_gaugeGoesStale _ (by simp)
  | ackWindowExpiry g => cases h; exact (s.reach_ackWindowEnds _).moves (by simp)
  | deadlineExpiry g => cases h; exact (s.reach_deadlineEnds _).moves (by simp)
  | haltWindowExpiry g => cases h; exact (s.reach_haltWindowEnds _).moves (by simp)
  | silenceExpiry => cases h; exact s.moves_silenceEnds (by simp) (by simp)

/-- A receiver is moved by what it hears alone (R132). -/
theorem hearsAt_of_receiver_mem {c : Instr} {port : Port} (notReset : ∀ a b d, c ≠ .coldReset a b d)
    (h : .receiver port ∈ moves c) : c.hearsAt = some port := by
  cases c with
  | coldReset a b d => exact absurd rfl (notReset a b d)
  | _ => simp_all [Instr.hearsAt]

/-- A receive buffer is moved by what its port hears, and by the commands that take from it alone (R133). -/
theorem takesFrom_of_buffer_mem {c : Instr} {port : Port} (notReset : ∀ a b d, c ≠ .coldReset a b d)
    (h : .buffer port ∈ moves c) : c.hearsAt = some port ∨ c.takesFrom = some port := by
  cases c with
  | coldReset a b d => exact absurd rfl (notReset a b d)
  | _ => simp_all [Instr.hearsAt, Instr.takesFrom]

/-- Settles O3: each lane is moved by the commands that the statement names alone (`exec_moves`). -/
theorem inputsMoveByTheirOwnCommands : Obligations.InputsMoveByTheirOwnCommands := by
  intro c s t h
  have moved := exec_moves c s t h
  have leaves := exec_leaves c s t h
  refine ⟨moved .pending ?_, fun notReset => ⟨leaves .address ?_, moved .rate ?_, fun _ => moved .clock ?_, fun _ _ => ?stop,
    fun port deaf => ⟨moved (.receiver port) fun hears => deaf (hearsAt_of_receiver_mem notReset hears),
      fun leaves => moved (.buffer port) fun takes => (takesFrom_of_buffer_mem notReset takes).elim deaf leaves⟩,
    fun _ _ _ _ => moved .silence ?_, fun _ _ => moved .replies ?_, fun _ _ _ => moved .upQueue ?_,
    fun _ _ _ => moved .downQueue ?_, fun _ _ _ _ => moved .capture ?_, fun _ _ _ => leaves .staging ?_,
    fun _ => moved .spTx ?_, fun _ => moved .fpTx ?_⟩⟩
  case stop =>
    have stop := moved .stopInput (by cases c <;> simp_all)
    simpa only [Lane.same, State.stopInput, Prod.mk.injEq] using stop
  all_goals
    clear moved leaves h
    cases c <;> simp_all [Instr.hearsAt, Instr.takesFrom]

end Sys2Proof.Machine

/-! ## The pending list and the slots through every other operation (R85, R86, R99) -/

namespace Sys2Proof.Machine

section
variable {s t : State} {g : GateId}

/-! ### Hoist reports and expiries -/

theorem Motion.evidence_isPending (m : Motion) (h : Handshake) (side : Side) (st : HoistState) :
    (m.evidence h side st).isPending = m.isPending := by
  cases m <;> cases h <;> cases st <;> rfl

theorem Motion.evidence_holdsSlot (m : Motion) (h : Handshake) (side : Side) (st : HoistState) :
    (m.evidence h side st).holdsSlot = m.holdsSlot := by
  cases m <;> cases h <;> cases st <;> rfl

/-- The same books tell the same balance. -/
theorem State.Balanced.of_books (h : s.Balanced) (same : t.books = s.books) : t.Balanced := by
  simp only [State.books, Prod.mk.injEq] at same
  obtain ⟨motion, waiting, slots, settings⟩ := same
  exact h.of_same (congrFun motion) waiting slots (by rw [settings])

theorem State.pauseHoist_books (s : State) (g : GateId) (side : Side) : (s.pauseHoist g side).books = s.books := by
  unfold State.pauseHoist State.forHoist
  split
  · rw [State.pushPause_eq]; rfl
  · rfl

theorem State.resumeHoist_books (s : State) (g : GateId) (side : Side) : (s.resumeHoist g side).books = s.books := by
  unfold State.resumeHoist State.forHoist
  split
  · rw [State.pushResume_eq]; rfl
  · rfl

theorem State.Balanced.takeEvidence (h : s.Balanced) (g : GateId) (side : Side) (st : HoistState) :
    (s.takeEvidence g side st).Balanced :=
  h.setMotion (Motion.evidence_isPending _ _ _ _) (Motion.evidence_holdsSlot _ _ _ _)

theorem State.Balanced.faultCheck (h : s.Balanced) (g : GateId) (st : HoistState) : (s.faultCheck g st).Balanced := by
  unfold State.faultCheck
  split
  · exact (h.fault g .hoistFault).settle
  · exact h

theorem State.Balanced.tripCheck (h : s.Balanced) (g : GateId) : (s.tripCheck g).Balanced := by
  unfold State.tripCheck
  split
  · exact (h.fault g .skew).settle
  · exact h

/-- A gate that keeps its slot takes another motion state with a slot. -/
theorem State.Balanced.moveOn (h : s.Balanced) {m : Motion} (before : (s.gate g).motion.holdsSlot = true)
    (after : m.holdsSlot = true) : (s.setMotion g m).Balanced :=
  h.setMotion (by rw [Motion.not_isPending_of_holdsSlot before, Motion.not_isPending_of_holdsSlot after])
    (after.trans before.symm)

theorem State.Balanced.enterTravelling (h : s.Balanced) (holds : (s.gate g).motion.holdsSlot = true) (r : Request)
    (l : Leg) : (s.enterTravelling g r l).Balanced := h.moveOn holds rfl

theorem State.Balanced.startCheck (h : s.Balanced) (g : GateId) : (s.startCheck g).Balanced := by
  unfold State.startCheck
  split
  · next e =>
    split
    · exact h.enterTravelling (by rw [e]; rfl) _ _
    · exact h
  · exact h

theorem State.Balanced.restCheck (h : s.Balanced) (g : GateId) : (s.restCheck g).Balanced := by
  unfold State.restCheck
  split
  · next r l e =>
    split
    · refine State.Balanced.settle ?_
      split
      · exact h.legComplete (by rw [e]; rfl) r
      · exact h.fault g .shortfall
    · exact h
  · next n l w e =>
    split
    · exact (h.stoppingEnd (by rw [e]; rfl) n l).settle
    · exact h
  · exact h

theorem State.Balanced.trimCheck (h : s.Balanced) (g : GateId) : (s.trimCheck g).Balanced := by
  unfold State.trimCheck
  split
  · next r l e =>
    have holds : (s.gate g).motion.holdsSlot = true := by rw [e]; rfl
    simp only
    split
    · split
      · split
        · exact (h.of_books (s.pauseHoist_books g _)).moveOn (by rwa [State.pauseHoist_gate]) rfl
        · exact h
      · exact h
    · split
      · exact (h.of_books (s.resumeHoist_books g _)).moveOn (by rwa [State.resumeHoist_gate]) rfl
      · exact h
  · exact h

theorem State.Balanced.sampleChecks (h : s.Balanced) (g : GateId) (side : Side) (st : HoistState) :
    (s.sampleChecks g side st).Balanced :=
  ((((((h.takeEvidence g side st).faultCheck g st).tripCheck g).staleClearing g).settle.startCheck g).restCheck g).trimCheck g

theorem State.Balanced.takeAck (h : s.Balanced) (g : GateId) (side : Side) (p : List Byte) :
    (s.takeAck g side p).Balanced := by
  unfold State.takeAck State.ackOfRun
  split
  · split
    · next e =>
      have holds : (s.gate g).motion.holdsSlot = true := by rw [e]; rfl
      split
      · simp only
        split
        · exact h.enterTravelling holds _ _
        · exact h.moveOn holds rfl
      · exact h
    · exact h
  · exact h

theorem State.Balanced.hoistGoesStale (h : s.Balanced) (g : GateId) (side : Side) : (s.hoistGoesStale g side).Balanced := by
  unfold State.hoistGoesStale
  split
  · exact (h.fault g .stale).settle
  · exact h

theorem State.Balanced.ackWindowEnds (h : s.Balanced) (g : GateId) : (s.ackWindowEnds g).Balanced := by
  unfold State.ackWindowEnds
  split
  · exact (h.fault g _).settle
  · exact h

theorem State.Balanced.deadlineEnds (h : s.Balanced) (g : GateId) : (s.deadlineEnds g).Balanced := by
  unfold State.deadlineEnds
  split
  · split
    · exact (h.fault g .timeout).settle
    · exact h
  · exact h

theorem State.Balanced.haltWindowEnds (h : s.Balanced) (g : GateId) : (s.haltWindowEnds g).Balanced := by
  unfold State.haltWindowEnds
  split
  · exact (h.fault g .noStop).settle
  · exact h

/-! ### GROUP SET, and the change of service of a written gate -/

theorem State.Balanced.groupSet (h : s.Balanced) (target level : Nat) (gs : List GateId) :
    (s.groupSet target level gs).1.Balanced := by
  induction gs generalizing s with
  | nil => exact h
  | cons g gs ih =>
    unfold State.groupSet
    split
    · exact ih h
    · exact ih (h.command g target level .group)

theorem State.Balanced.newlyStale (h : s.Balanced) (g : GateId) (before : Gate) : (s.newlyStale g before).Balanced := by
  have left := h.faultIf g ((!before.stale .left && (s.gate g).stale .left) = true) .stale
  exact left.faultIf g _ .stale

theorem State.Balanced.serviceIn (h : s.Balanced) (g : GateId) : (s.serviceIn g).Balanced := by
  unfold State.serviceIn
  split
  · next e => exact h.makeHold (.inr (by rw [e]; trivial)) .stale _
  · next e =>
    have holds : (s.gate g).motion.holdsSlot = true := by rw [e]; rfl
    split
    · exact h.moveOn holds rfl
    · exact h.moveOn holds rfl
  · exact h

theorem State.Balanced.serviceOut (h : s.Balanced) (g : GateId) : (s.serviceOut g).Balanced := by
  unfold State.serviceOut
  split
  · next e => exact h.enterOutOfService (.inl e) none
  · next r e =>
    have left : (s.leaveList g .idle).Balanced := h.discard e
    exact left.enterOutOfService (.inl (congrArg Gate.motion (s.leaveList_idle g))) _
  · next e => exact h.enterStopping (by rw [e]; rfl) _ _
  · next e => exact h.enterStopping (by rw [e]; rfl) _ _
  · next e => exact h.moveOn (by rw [e]; rfl) rfl
  · next e => exact h.moveOn (by rw [e]; rfl) rfl
  · next e => exact h.moveOn (by rw [e]; rfl) rfl
  · next e => exact h.enterOutOfService (.inr (by rw [e]; trivial)) _
  · exact h

theorem State.Balanced.serviceChange (h : s.Balanced) (g : GateId) (old new : Bool) :
    (s.serviceChange g old new).Balanced := by
  unfold State.serviceChange
  split
  · exact h.serviceIn g
  · exact h.serviceOut g
  · exact h

/-! ### STOP_N and the requests -/

/-- While STOP_N is asserted no gate has a request (R99). -/
def State.Quiet (s : State) : Prop := s.stopAsserted = true → ∀ g, (s.gate g).motion.request = none

theorem State.slotsCounted_of (h : s.Balanced) (quiet : s.Quiet) : s.SlotsCounted :=
  ⟨h.once, h.listed, h.count, h.withinK, quiet⟩

/-- No motion change makes a request while STOP_N is asserted (R99). -/
theorem State.Reach.quiet (reach : s.Reach t) (quiet : s.Quiet) : t.Quiet := by
  induction reach with
  | refl => exact quiet
  | post n _ ih => intro asserted g; rw [State.post_gate]; exact ih (by simpa using asserted) g
  | @setMotion t h m _ _ gives ih =>
    intro asserted g
    have before := ih (by simpa using asserted)
    rw [State.setMotion_gate]
    split
    · exact gives (by simpa using asserted) (before h)
    · exact before g
  | @setExcursion t h b _ ih =>
    intro asserted g
    have before := ih (by simpa using asserted)
    rw [State.setExcursion_gate]
    split
    · exact before h
    · exact before g
  | pushHalt a _ ih => intro asserted g; rw [State.pushHalt_gate]; exact ih (by simpa using asserted) g
  | pushRun a x v _ ih => intro asserted g; rw [State.pushRun_gate]; exact ih (by simpa using asserted) g
  | pushPause a _ ih => intro asserted g; rw [State.pushPause_gate]; exact ih (by simpa using asserted) g
  | pushResume a _ ih => intro asserted g; rw [State.pushResume_gate]; exact ih (by simpa using asserted) g
  | counts k n w d _ ih => exact ih

/-- What the Sequencer and the Arbiter do keeps the slots counted, where list and count agree afterwards. -/
theorem State.SlotsCounted.reach (h : s.SlotsCounted) (reach : s.Reach t) (balanced : t.Balanced) : t.SlotsCounted :=
  State.slotsCounted_of balanced (reach.quiet h.quiet)

theorem State.SlotsCounted.of_books (h : s.SlotsCounted) (books : t.books = s.books)
    (stop : t.stopAsserted = s.stopAsserted) : t.SlotsCounted := by
  refine State.slotsCounted_of (h.balanced.of_books books) fun asserted g => ?_
  have motion : (t.gate g).motion = (s.gate g).motion := congrFun (congrArg Prod.fst books) g
  rw [motion]
  exact h.quiet (stop ▸ asserted) g

/-- A change that moves neither the books nor STOP_N. -/
theorem State.SlotsCounted.of_moves (h : s.SlotsCounted) {P : Set Lane} (moved : s.Moves P t) (books : .books ∉ P)
    (stop : .stopInput ∉ P) : t.SlotsCounted :=
  h.of_books (moved .books books) (congrArg Prod.fst (moved .stopInput stop))

theorem State.SlotsCounted.reply (h : s.SlotsCounted) (k : Byte) (r : Result) (d : Nat) (l : List Byte) :
    (s.reply k r d l).SlotsCounted := h.of_books rfl rfl

theorem State.SlotsCounted.writeReply (h : s.SlotsCounted) (p : List Byte) (r : Result) (d : Nat) (gen : CountWord) :
    (s.writeReply p r d gen).SlotsCounted := h.of_books rfl rfl

theorem State.SlotsCounted.writeNoRecord (h : s.SlotsCounted) (p : List Byte) : (s.writeNoRecord p).SlotsCounted :=
  h.of_books rfl rfl

theorem State.SlotsCounted.post (h : s.SlotsCounted) (n : Notice) : (s.post n).SlotsCounted :=
  h.reach (.post n .refl) (h.balanced.post n)

theorem State.SlotsCounted.evaluateNow (h : s.SlotsCounted) : s.evaluateNow.SlotsCounted :=
  h.reach s.reach_evaluateNow h.balanced.evaluateNow

end

end Sys2Proof.Machine

namespace Sys2Proof.Machine

section
variable {s : State} (h : s.SlotsCounted)
include h

/-! ### The Level Unit -/

theorem State.SlotsCounted.setCeiling (g : GateId) (c : Option Nat) : (s.setCeiling g c).SlotsCounted := by
  refine h.of_books ?_ rfl
  have motion (k : GateId) : ((s.setCeiling g c).gate k).motion = (s.gate k).motion := by
    rw [State.setCeiling_gate]
    split
    · next own => rw [own]
    · rfl
  exact Prod.ext (funext motion) rfl

omit h in
/-- A sweep of changes that keep the slots counted. -/
theorem State.SlotsCounted.sweep {s : State} (h : s.SlotsCounted) (gs : List GateId) {act : State → GateId → State}
    (one : ∀ (t : State) g, t.SlotsCounted → (act t g).SlotsCounted) : (s.sweep gs act).SlotsCounted := by
  unfold State.sweep
  induction gs generalizing s with
  | nil => exact h
  | cons g gs ih => exact ih (one s g h)

theorem State.SlotsCounted.recomputeCeilings : s.recomputeCeilings.1.SlotsCounted :=
  h.sweep _ fun _ g k => k.setCeiling g _

theorem State.SlotsCounted.ceilingPath : s.ceilingPath.SlotsCounted := by
  have recomputed := h.recomputeCeilings
  have checked := recomputed.balanced.sweep s.recomputeCeilings.2 fun t g k => k.ceilingCheck g
  refine recomputed.reach s.reach_ceilingPath ?_
  unfold State.ceilingPath
  simp only
  split
  · exact checked
  · exact checked.evaluateNow

theorem State.SlotsCounted.headed (head : Option Head) : (s.headed head).SlotsCounted := by
  have posted (ns : List Notice) : (s.postAll ns).SlotsCounted := by
    unfold State.postAll
    induction ns generalizing s with
    | nil => exact h
    | cons n ns ih => exact ih (h.post n)
  exact (posted _).of_books rfl rfl

theorem State.SlotsCounted.newHead (head : Option Head) : (s.newHead head).SlotsCounted := by
  by_cases same : s.head = head ∧ s.mode = modeAfter s.settings s.mode head
  · rwa [s.newHead_same same.1 same.2]
  · have path := (h.headed head).ceilingPath
    obtain e | e := s.newHead_changed same <;> rw [e]
    · exact path
    · exact path.evaluateNow

theorem State.SlotsCounted.recomputeBank (b : Bank) : (s.recomputeBank b).SlotsCounted := by
  have stored : (s.setBank b (s.formed b)).SlotsCounted := by cases b <;> exact h.of_books rfl rfl
  obtain e | ⟨n, e⟩ := s.recomputeBank_cases b <;> rw [e]
  · exact stored
  · exact stored.post n

theorem State.SlotsCounted.relevel (bs : List Bank) : (s.relevel bs).SlotsCounted := by
  have rebanked : (s.rebanked bs).SlotsCounted := by
    unfold State.rebanked
    induction bs generalizing s with
    | nil => exact h
    | cons b bs ih => exact ih (h.recomputeBank b)
  rw [s.relevel_eq]
  exact rebanked.newHead _

theorem State.SlotsCounted.setGauge (n : GaugeId) (x : Gauge) : (s.setGauge n x).SlotsCounted := h.of_books rfl rfl

theorem State.SlotsCounted.takeLevel (n : GaugeId) (p : List Byte) : (s.takeLevel n p).SlotsCounted := by
  unfold State.takeLevel
  split
  · split
    · exact (h.setGauge n _).relevel _
    · exact h
  · exact h

theorem State.SlotsCounted.gaugeGoesStale (n : GaugeId) : (s.gaugeGoesStale n).SlotsCounted := by
  unfold State.gaugeGoesStale
  split
  · exact h.relevel _
  · exact h

/-! ### Hoist reports -/

theorem State.SlotsCounted.storeSample (g : GateId) (side : Side) (x : Report) (stamp : ClockWord) :
    (s.storeSample g side x stamp).SlotsCounted := by
  refine h.of_books ?_ rfl
  have motion (k : GateId) : ((s.storeSample g side x stamp).gate k).motion = (s.gate k).motion := by
    rw [State.storeSample, State.setGate_gate]
    split
    · next own => rw [own]; cases side <;> rfl
    · rfl
  exact Prod.ext (funext motion) rfl

theorem State.SlotsCounted.takePosition (g : GateId) (side : Side) (p : List Byte) (stamp : ClockWord) :
    (s.takePosition g side p stamp).SlotsCounted := by
  unfold State.takePosition
  split
  · exact h
  · next x _ =>
    have stored := h.storeSample g side x stamp
    have checked := stored.reach (State.reach_sampleChecks _ g side x.state) (stored.balanced.sampleChecks g side x.state)
    simp only
    split
    · exact stored
    · split
      · exact checked
      · exact checked.reach (State.reach_openingChanged _ g) (checked.balanced.openingChanged g)

/-! ### Motion requests, STOP_N and silence -/

theorem State.SlotsCounted.takeMove (p : List Byte) : (s.takeMove p).SlotsCounted := by
  unfold State.takeMove
  split
  · exact h.reply _ _ _ _
  · unfold State.moveGate
    simp only
    split
    · exact h.reply _ _ _ _
    · next free =>
      split
      · exact h.reply _ _ _ _
      · exact (h.reach ((s.reach_command _ _ _ _ (by simpa using free)).trans (State.reach_settle _))
          (h.balanced.command _ _ _ _).settle).reply _ _ _ _

theorem State.SlotsCounted.stopOne (g : GateId) : (s.stopOne g).SlotsCounted :=
  h.reach ((s.reach_stopGate g).trans (State.reach_settle _)) (h.balanced.stopGate g).settle

theorem State.SlotsCounted.takeStop (p : List Byte) : (s.takeStop p).SlotsCounted := by
  unfold State.takeStop
  split
  · exact h.reply _ _ _ _
  · exact (h.stopOne _).reply _ _ _ _

theorem State.SlotsCounted.takeGroupSet (p : List Byte) : (s.takeGroupSet p).SlotsCounted := by
  unfold State.takeGroupSet
  simp only
  split
  · exact h.reply _ _ _ _
  · next free =>
    have reach := s.reach_groupSet (u16At p 3) (groupLevel p) (maskGates (u16At p 0)) (by simpa using free)
    exact (h.reach (reach.trans (State.reach_settle _)) (h.balanced.groupSet _ _ _).settle).reply _ _ _ _

theorem State.SlotsCounted.takeGroupStop (p : List Byte) : (s.takeGroupStop p).SlotsCounted :=
  (h.sweep (maskGates (u16At p 0)) fun _ g k => k.stopOne g).reply _ _ _ _

theorem State.SlotsCounted.takeClearHold (p : List Byte) : (s.takeClearHold p).SlotsCounted := by
  unfold State.takeClearHold
  split
  · exact h.reply _ _ _ _
  · unfold State.clearHold
    split
    · next held =>
      split
      · exact h.reply _ _ _ _
      · exact (h.reach ((s.reach_leaveHold _ _ _).trans (State.reach_settle _))
          (h.balanced.leaveHold (.inr (by rw [held]; trivial)) _ _).settle).reply _ _ _ _
    · exact h.reply _ _ _ _

/-- STOP_N assertion leaves no request (R98, R99). -/
theorem State.SlotsCounted.assertStop : s.assertStop.SlotsCounted := by
  by_cases free : s.stopAsserted = false
  · rw [State.assertStop_eq free]
    have halted := h.stopPosted.quell_halted s.stopPosted_stopAsserted
    refine State.slotsCounted_of h.stopPosted.quell fun _ g => ?_
    rw [halted.motion, State.quelled_request]
  · have still : s.assertStop = { s with stopPinLow := true, stopFilter := 0 } := if_pos (by simpa using free)
    rw [still]
    exact h.of_books rfl rfl

theorem State.SlotsCounted.releaseStop : s.releaseStop.SlotsCounted := by
  by_cases asserted : s.stopAsserted = true
  · have result : s.releaseStop = (s.stopLifted.post (.stopInput false)).evaluateNow := if_pos asserted
    have lifted : s.stopLifted.Balanced := h.balanced.of_books rfl
    have free : s.stopLifted.Quiet := nofun
    rw [result]
    exact ((State.slotsCounted_of lifted free).post _).evaluateNow
  · have still : s.releaseStop = { s with stopPinLow := false, stopFilter := 0 } := if_neg asserted
    rw [still]
    exact h.of_books rfl rfl

theorem State.SlotsCounted.silenceEnds : s.silenceEnds.SlotsCounted := by
  by_cases expired : s.silence = .running 0
  · have silent : s.silent.SlotsCounted := h.of_books rfl rfl
    rw [State.silenceEnds_eq expired]
    exact (silent.post _).reach (State.reach_quell _) (silent.post _).balanced.quell
  · rwa [State.silenceEnds_of_running expired]

/-! ### The Management Unit -/

omit h in
theorem Gate.rewritten_book (x : Gate) (new : GateRecord) : (x.rewritten new).motion.isPending = x.motion.isPending ∧
    (x.rewritten new).motion.holdsSlot = x.motion.holdsSlot ∧
    (x.motion.request = none → (x.rewritten new).motion.request = none) := by
  unfold Gate.rewritten
  simp only
  split
  · cases x.motion with
    | pending r => exact ⟨rfl, rfl, nofun⟩
    | _ => exact ⟨rfl, rfl, id⟩
  · exact ⟨rfl, rfl, id⟩

/-- A written record changes no motion state but in its targets (R5). -/
theorem State.SlotsCounted.remeasured (g : GateId) (new : GateRecord) : (s.remeasured g new).SlotsCounted := by
  have frame := State.remeasured_frame (s := s) (g := g) (new := new)
  have own := State.remeasured_gate_self (s := s) (g := g) (new := new)
  have others (k : GateId) (other : k ≠ g) : (s.remeasured g new).gate k = s.gate k := by
    rw [State.remeasured_gate, if_neg other]
  obtain ⟨pending, holds, quiet⟩ := (s.gate g).rewritten_book new
  have books : State.SameBooks g s (s.remeasured g new) :=
    ⟨fun k other => by rw [others k other], State.remeasured_waiting, by rw [frame.eq], by rw [frame.eq]⟩
  refine State.slotsCounted_of (h.balanced.same books (by rw [own, pending]) (by rw [own, holds])) fun asserted k => ?_
  rw [State.remeasured_stopAsserted] at asserted
  by_cases same : k = g
  · rw [same, own]
    exact quiet (h.quiet asserted g)
  · rw [others k same]
    exact h.quiet asserted k

theorem State.SlotsCounted.writeGate (g : GateId) (new : GateRecord) : (s.writeGate g new).SlotsCounted := by
  have reserved : (s.reserved g new).SlotsCounted := (h.remeasured g new).reach (s.reach_reserved g new)
    (((h.remeasured g new).balanced.newlyStale g _).serviceChange g _ _)
  have ceiled : (s.receilinged g new).SlotsCounted := reserved.setCeiling g _
  obtain ⟨tell, e⟩ := s.writeGate_eq g new
  refine ceiled.reach (s.reach_writeGate g new) ?_
  rw [e]
  refine State.Balanced.evaluateNow ?_
  unfold State.toldOf
  split
  · exact (ceiled.balanced.ceilingCheck g).tellNeighbours g
  · exact ceiled.balanced.ceilingCheck g

theorem State.SlotsCounted.takeWriteGate (p : List Byte) : (s.takeWriteGate p).SlotsCounted := by
  unfold State.takeWriteGate
  split
  · exact h.writeNoRecord _
  · split
    · exact h.writeReply _ _ _ _
    · exact (h.writeGate _ _).writeReply _ _ _ _

theorem State.SlotsCounted.writeCurve (c : Fin 4) (points : List Breakpoint) : (s.writeCurve c points).SlotsCounted := by
  have replaced : (s.withCurve c points).SlotsCounted := h.of_books rfl rfl
  exact replaced.ceilingPath

theorem State.SlotsCounted.takeWriteFirstPart (p : List Byte) : (s.takeWriteFirstPart p).SlotsCounted := by
  unfold State.takeWriteFirstPart
  split
  · exact h.writeNoRecord _
  · split
    · exact h.writeReply _ _ _ _
    · split
      · exact (h.writeCurve _ _).writeReply _ _ _ _
      · exact h.of_books rfl rfl

theorem State.SlotsCounted.takeWriteSecondPart (p : List Byte) : (s.takeWriteSecondPart p).SlotsCounted := by
  have emptied : { s with staging := none }.SlotsCounted := h.of_books rfl rfl
  unfold State.takeWriteSecondPart
  split
  · exact h.writeNoRecord _
  · split
    · exact h.writeReply _ _ _ _
    · split
      · exact emptied.writeReply _ _ _ _
      · exact (emptied.writeCurve _ _).writeReply _ _ _ _

theorem State.SlotsCounted.takeWriteGauge (p : List Byte) : (s.takeWriteGauge p).SlotsCounted := by
  have written (n : GaugeId) (new : GaugeRecord) : (s.writeGauge n new).SlotsCounted :=
    ((h.of_moves (s.moves_rebind ∅ _ _ _ _) id id).setGauge n _).relevel _
  unfold State.takeWriteGauge
  split
  · exact h.writeNoRecord _
  · split
    · exact h.writeReply _ _ _ _
    · exact (written _ _).writeReply _ _ _ _

theorem State.SlotsCounted.writeSettings {new : Settings} (room : s.slotsInUse ≤ new.slots) :
    (s.writeSettings new).SlotsCounted := by
  have resettled : (s.resettled new).SlotsCounted := ⟨h.once, h.pendingGates, h.count, room, h.quiet⟩
  have levelled : ((s.resettled new).relevelFor s.settings new).SlotsCounted := by
    unfold State.relevelFor
    split
    · exact resettled.relevel _
    · split
      · exact resettled.newHead _
      · exact resettled
  unfold State.writeSettings
  simp only
  split
  · exact levelled
  · exact levelled.evaluateNow

/-- An accepted settings write leaves K no lower than the slots in use (R84, R163). -/
theorem State.SlotsCounted.takeWriteSettings (p : List Byte) : (s.takeWriteSettings p).SlotsCounted := by
  unfold State.takeWriteSettings
  split
  · split
    · exact h.writeReply _ _ _ _
    · next accepted =>
      simp only [State.judgeSettings, Option.or_eq_none_iff, State.busyCheck, ite_eq_right_iff, reduceCtorEq, imp_false,
        Nat.not_lt] at accepted
      obtain ⟨-, -, room⟩ := accepted
      exact (h.writeSettings room).writeReply _ _ _ _
  · exact h.writeNoRecord _

end

/-! ### Warm restart -/

section
variable (s : State)

theorem Motion.rests_request {m : Motion} (rests : m.rests) : m.request = none := by
  obtain rfl | stands := rests
  · rfl
  · cases m with
    | hold | outOfService => rfl
    | _ => exact stands.elim

/-- Restarted gates rest, the pending list is emptied and no slot is in use (R83, R174). -/
theorem State.restartGated_slotsCounted : s.restartGated.SlotsCounted := by
  have aside := s.restartGated_aside
  have rests (g : GateId) : (s.restartGated.gate g).motion.rests := by
    rw [s.restartGated_gate]
    exact (s.gate g).restarted_rests.1
  have waiting : s.restartGated.waiting = [] := aside.keeps.1.trans s.restartHalted_keeps.1
  have slots : s.restartGated.slotsInUse = 0 := by
    rw [aside, s.restartHalted_frame]
    rfl
  refine State.slotsCounted_of ⟨?_, fun k => ?_, ?_, ?_⟩ fun _ g => ?_
  · rw [waiting]
    exact List.nodup_nil
  · rw [waiting, ((Motion.rests_iff _).mp (rests k)).1]
    simp
  · have unheld (k : GateId) : (s.restartGated.gate k).motion.holdsSlot = false := ((Motion.rests_iff _).mp (rests k)).2
    simp [slots, unheld]
  · rw [slots]
    exact Nat.zero_le _
  · exact Motion.rests_request (rests g)

theorem State.SlotsCounted.unflagged {s : State} (h : s.SlotsCounted) : s.unflagged.SlotsCounted := h.of_books rfl rfl

theorem State.warmRestart_slotsCounted : s.warmRestart.SlotsCounted := by
  have unflagged := s.restartGated_slotsCounted.unflagged
  have levelled : s.restartGated.restartLevel.recomputeCeilings.1.SlotsCounted := by
    rw [State.restartLevel_eq]
    exact (unflagged.newHead _).recomputeCeilings
  rw [s.warmRestart_eq]
  exact levelled.reach (State.reach_sweep _ _ _ State.reach_checkExcursionOf)
    (levelled.balanced.sweep _ fun t g k => k.checkExcursionOf g)

end

end Sys2Proof.Machine

namespace Sys2Proof.Machine

section
variable {s : State} (h : s.SlotsCounted)
include h

/-! ### Every step -/

theorem State.SlotsCounted.takeStation (row : StationRow) (handle : State → RxFrame → State)
    (keeps : ∀ (t : State) f, t.SlotsCounted → (handle t f).SlotsCounted) : (s.takeStation row handle).SlotsCounted := by
  obtain e | ⟨f, rest, e⟩ := s.takeStation_cases row handle <;> rw [e]
  · exact h
  · exact keeps _ _ (h.of_books rfl rfl)

theorem State.SlotsCounted.takeReport (owner : FieldRow → Option (State → RxFrame → State))
    (keeps : ∀ row act, owner row = some act → ∀ (t : State) f, t.SlotsCounted → (act t f).SlotsCounted) :
    (s.takeReport owner).SlotsCounted := by
  unfold State.takeReport
  split
  · exact h
  · next f rest _ =>
    split
    · next act e =>
      have taken : { s with fpRx := rest }.SlotsCounted := h.of_books rfl rfl
      exact (keeps _ act e _ f taken).of_moves (P := {.upQueue}) (State.moves_passReport _ _ _ rfl) (by simp) (by simp)
    · exact h

theorem State.SlotsCounted.position : (s.takeReport positionOwner).SlotsCounted := by
  refine h.takeReport _ fun row act owned t f k => ?_
  cases row <;> simp only [positionOwner, reduceCtorEq, Option.some.injEq] at owned
  subst owned
  exact k.takePosition _ _ _ _

theorem State.SlotsCounted.ack : (s.takeReport ackOwner).SlotsCounted := by
  refine h.takeReport _ fun row act owned t f k => ?_
  cases row <;> simp only [ackOwner, reduceCtorEq, Option.some.injEq] at owned
  subst owned
  exact k.reach (t.reach_takeAck _ _ _) (k.balanced.takeAck _ _ _)

theorem State.SlotsCounted.level : (s.takeReport levelOwner).SlotsCounted := by
  refine h.takeReport _ fun row act owned t f k => ?_
  cases row <;> simp only [levelOwner, reduceCtorEq, Option.some.injEq] at owned
  subst owned
  exact k.takeLevel _ _

omit h in
theorem Motion.later_book (m : Motion) :
    m.later.isPending = m.isPending ∧ m.later.holdsSlot = m.holdsSlot ∧ m.later.request = m.request := by
  cases m <;> exact ⟨rfl, rfl, rfl⟩

/-- A millisecond changes no motion state but in what counts down (R16). -/
theorem State.SlotsCounted.elapse : s.elapse.SlotsCounted := by
  have motion (g : GateId) : (s.elapse.gate g).motion = (s.gate g).motion.later := by rw [State.elapse_gate]; rfl
  refine ⟨h.once, fun g => ?_, ?_, h.withinK, fun asserted g => ?_⟩
  · rw [motion, (Motion.later_book _).1]
    exact h.pendingGates g
  · simp only [motion, Motion.later_book]
    exact h.count
  · rw [motion, (Motion.later_book _).2.2]
    exact h.quiet asserted g

/-- Every command keeps the slots counted. -/
theorem State.SlotsCounted.exec {c : Instr} {t : State} (e : exec c s = .next t) : t.SlotsCounted := by
  have aside (books : .books ∉ moves c) (stop : .stopInput ∉ moves c) : t.SlotsCounted :=
    h.of_moves (exec_moves c s t e) books stop
  cases c with
  | coldReset a b d =>
    cases e
    exact (State.cold_slotsCounted a b d).of_books rfl rfl
  | stopNAssertion => cases e; exact h.assertStop
  | stopNRelease => cases e; exact h.releaseStop
  | frameCheck | receiveGapAbandon | candidateSync | lengthOver48 => exact aside (by simp) (by simp)
  | stationFrameSort | fieldFrameSort | spTransmit | fpTransmit => exact aside (by simp) (by simp)
  | groupInvalidAction | tableRead | tableWriteRoute | statusRead => exact aside (by simp) (by simp)
  | counterSnapshot | misrouteRead | timeSet => exact aside (by simp) (by simp)
  | position => cases e; exact h.position
  | ack => cases e; exact h.ack
  | level => cases e; exact h.level
  | move => cases e; exact h.takeStation _ _ fun _ _ k => k.takeMove _
  | stop => cases e; exact h.takeStation _ _ fun _ _ k => k.takeStop _
  | groupSet => cases e; exact h.takeStation _ _ fun _ _ k => k.takeGroupSet _
  | groupStop => cases e; exact h.takeStation _ _ fun _ _ k => k.takeGroupStop _
  | clearHold => cases e; exact h.takeStation _ _ fun _ _ k => k.takeClearHold _
  | tableWriteGate => cases e; exact h.takeStation _ _ fun _ _ k => k.takeWriteGate _
  | tableWriteCurveFirstPart => cases e; exact h.takeStation _ _ fun _ _ k => k.takeWriteFirstPart _
  | tableWriteCurveSecondPart => cases e; exact h.takeStation _ _ fun _ _ k => k.takeWriteSecondPart _
  | tableWriteGauge => cases e; exact h.takeStation _ _ fun _ _ k => k.takeWriteGauge _
  | tableWriteSettings => cases e; exact h.takeStation _ _ fun _ _ k => k.takeWriteSettings _
  | restart => cases e; exact h.takeStation _ _ fun t _ _ => t.warmRestart_slotsCounted.reply _ _ _ _
  | hoistStale g side => cases e; exact h.reach (s.reach_hoistGoesStale g side) (h.balanced.hoistGoesStale g side)
  | gaugeStale n => cases e; exact h.gaugeGoesStale n
  | ackWindowExpiry g => cases e; exact h.reach (s.reach_ackWindowEnds g) (h.balanced.ackWindowEnds g)
  | deadlineExpiry g => cases e; exact h.reach (s.reach_deadlineEnds g) (h.balanced.deadlineEnds g)
  | haltWindowExpiry g => cases e; exact h.reach (s.reach_haltWindowEnds g) (h.balanced.haltWindowEnds g)
  | silenceExpiry => cases e; exact h.silenceEnds

end

/-- Settles O7: a millisecond and every command keep the pending list, the slots and the quiet of STOP_N. -/
theorem slotsAndPendingListAgree : Obligations.SlotsAndPendingListAgree := by
  intro s t h e
  unfold step at e
  split at e
  · cases e
    exact h.elapse
  · next c rest _ =>
    have taken : { s with pending := rest }.SlotsCounted := h.of_books rfl rfl
    exact taken.exec e

end Sys2Proof.Machine
